-- ==== Sys2Proof/Word.lean ====
section
/-! DEFINITION. The word of the serial line: a byte (R172). Everything else the manual counts is a whole number. -/

namespace Sys2Proof

/-- One byte of the serial line, or of a stored record (R172, R186). -/
abbrev Byte := BitVec 8

end Sys2Proof
end

