-- ==== Sys2Proof/Syntax.lean ====
section
/-! DEFINITION. The commands of the ZH12: one constructor of `Instr` per row of spec/opcode_table.json. A host request
carries the fields of its payload as R185 lists them (numbers as they are coded on the line, so that a code no list
names can be written down); a machine event carries what the machine line or the passing of time brings with it. -/

namespace Sys2Proof

/-- The two frame axes (R87). -/
inductive Axis where
  | x
  | y
  deriving DecidableEq, Repr

/-- A stitch record in its three-byte link form (R186): kind, dx and dy as sent. -/
structure RawRecord where
  kind : Byte
  dx : Byte
  dy : Byte
  deriving DecidableEq, Repr

/-- The commands. Requests of the host come first in the order of R185, then resets and machine events. -/
inductive Instr where
  /-- RECEIVE_FRAME (R174): the bytes of a frame arrive, up to and with its two CHECK bytes, none with a framing error. -/
  | receiveFrame (bytes : List Byte)
  /-- BYTE_RECEIVED (R174): one byte arrives; `framed` is false when its stop bit reads low (R172). -/
  | byteReceived (byte : Byte) (framed : Bool)
  /-- LINK_GAP_TIMEOUT (R174): more than 5 ms have passed since the last byte of a frame being received. -/
  | linkGapTimeout
  /-- FRAME_SENT (R176): the transmitter has sent the last byte of the frame it is sending. -/
  | frameSent
  /-- UNKNOWN_TYPE (R177): a good frame of a TYPE that R185 does not assign. -/
  | unknownType (ty : Nat) (payload : List Byte)
  /-- STATUS (R180). -/
  | status
  /-- RESTART (R181). -/
  | restart
  /-- NOTIFY_ON (R169). -/
  | notifyOn (mask : Nat)
  /-- NOTIFY_OFF (R169). -/
  | notifyOff (mask : Nat)
  /-- EVENTS_CLEAR (R169). -/
  | eventsClear (mask : Nat)
  /-- SET_INPUT (R164): input number, mode code, filter time in ms, report (1 yes, 0 no). -/
  | setInput (input mode filter report : Nat)
  /-- INPUT_CLEAR (R165). -/
  | inputClear (mask : Nat)
  /-- INPUT_INFO (R165). -/
  | inputInfo
  /-- DSN_OPEN (R6): the announced sequence length stands beside the entries that came. -/
  | dsnOpen (design declared blocks : Nat) (xmin xmax ymin ymax : Int) (seqLen : Nat) (entries : List Byte)
  /-- DSN_BLOCK (R7): the announced record count stands beside the records that came. -/
  | dsnBlock (design block count : Nat) (records : List RawRecord)
  /-- DSN_CLOSE (R11). -/
  | dsnClose (design check : Nat)
  /-- DSN_DROP (R13). -/
  | dsnDrop (design : Nat)
  /-- DSN_INFO (R14, and R15 for design number 0). -/
  | dsnInfo (design : Nat)
  /-- ARM (R25). -/
  | arm (design hoop : Nat)
  /-- DISARM (R27). -/
  | disarm
  /-- START (R31). -/
  | start
  /-- STOP (R36). -/
  | stop
  /-- RESUME (R32). -/
  | resume
  /-- HALT (R41). -/
  | halt
  /-- RECOVER (R44). -/
  | recover
  /-- KEEP_FRAME (R24): 1 on, 0 off. -/
  | keepFrame (value : Nat)
  /-- PRESELECT (R117): 0 makes the preselect absent. -/
  | preselect (needle : Nat)
  /-- SEQ_EDIT (R118): the announced entry count stands beside the entries that came. -/
  | seqEdit (design first count : Nat) (entries : List Byte)
  /-- NEEDLE_GO (R119). -/
  | needleGo (needle : Nat)
  /-- CASE_INFO (R120). -/
  | caseInfo
  /-- SET_MOTION (R51): the settings E, X, G_o, G_c, Wj, R_max, S_max, S_start, S_stop, Up, Dn, S_trim, S_jump. -/
  | setMotion (settings : List Nat)
  /-- SET_PROFILE (R52): the points Q0 to Q16. -/
  | setProfile (points : List Nat)
  /-- GET_SETTINGS (R53). -/
  | getSettings
  /-- SPEED (R54). -/
  | speed (rpm : Nat)
  /-- SET_OUTPUT (R84): kind, head, mode and polarity codes. -/
  | setOutput (kind head mode polarity : Nat)
  /-- OUTPUT_INFO (R85). -/
  | outputInfo
  /-- FRAME_GO (R98): mode 0 ABSOLUTE, 1 RELATIVE; x and y in units. -/
  | frameGo (mode : Nat) (x y : Int)
  /-- FRAME_HOME (R99). -/
  | frameHome
  /-- FRAME_TRACE (R101). -/
  | frameTrace
  /-- FRAME_PARK (R102). -/
  | framePark
  /-- SET_FRAME (R102): home directions (0 NEGATIVE, 1 POSITIVE), home offsets, park position, R_pos. -/
  | setFrame (dirX dirY : Nat) (offX offY parkX parkY : Int) (rPos : Nat)
  /-- SET_HOOP (R90). -/
  | setHoop (entry : Nat) (xmin xmax ymin ymax : Int)
  /-- HOOP_SELECT (R91). -/
  | hoopSelect (entry : Nat)
  /-- FRAME_INFO (R103). -/
  | frameInfo
  /-- NEEDLE_PROFILE (R123): needle 0 names every needle. -/
  | needleProfile (needle monitor base k rlo rhi b f : Nat)
  /-- THREAD_POLICY (R124): break policy (0 EXCLUDE, 1 STOP), bobbin policy (0 NOTIFY, 1 STOP). -/
  | threadPolicy (onBreak onBobbin : Nat)
  /-- CAPTURE_ARM (R134): 0 turns the capture off. -/
  | captureArm (head : Nat)
  /-- CAPTURE_READ (R135). -/
  | captureRead
  /-- THREAD_INFO (R136). -/
  | threadInfo
  /-- HEADS_ON (R139): bit 0 is head 1. -/
  | headsOn (mask : Nat)
  /-- HEADS_OFF (R139). -/
  | headsOff (mask : Nat)
  /-- REPAIR (R146): 0 selects every head that holds a record. -/
  | repair (mask : Nat)
  /-- REPAIR_END (R156). -/
  | repairEnd
  /-- REPAIR_CANCEL (R145): 0 names every head that holds a record. -/
  | repairCancel (mask : Nat)
  /-- REPAIR_SETUP (R158): overlap, pass-entry trim (1 on, 0 off). -/
  | repairSetup (overlap trim : Nat)
  /-- HEAD_INFO (R159). -/
  | headInfo
  /-- POWER_ON_RESET (R183): the levels of the head, needle and link-rate strap pins, read as numbers. -/
  | powerOnReset (headPins needlePins ratePins : Nat)
  /-- RESET_ASSERT (R182). -/
  | resetAssert
  /-- RESET_RELEASE (R182). -/
  | resetRelease
  /-- INPUT_LINE_CHANGE (R162): lines 0 to 31 are the condition inputs, 32 is the E-STOP line; `high` is its level. -/
  | inputLineChange (line : Nat) (high : Bool)
  /-- INPUT_FILTER_SETTLED (R162): the raw line of the input has held its level for the filter time. -/
  | inputFilterSettled (input : Nat)
  /-- ESTOP_ASSERTION (R167): the filtered E-STOP line goes low. -/
  | estopAssertion
  /-- ESTOP_RELEASE (R167): the filtered E-STOP line goes high (or is first taken high after a reset). -/
  | estopRelease
  /-- AXIS_DRIVE_NOT_READY (R88). -/
  | axisDriveNotReady (axis : Axis)
  /-- AXIS_DRIVE_READY (R88). -/
  | axisDriveReady (axis : Axis)
  /-- SHAFT_DRIVE_NOT_READY (R75). -/
  | shaftDriveNotReady
  /-- SHAFT_DRIVE_READY (R75). -/
  | shaftDriveReady
  /-- ENCODER_COUNT (R65): one count, forward or reverse, and the µs since the count before it, in which the step
  generators of a sewing move may have emitted steps at their spacing of 20 µs (R60). -/
  | encoderCount (forward : Bool) (elapsed : Nat)
  /-- INDEX_PULSE (R65, R66): the direction in which the index is passed, and the µs since the index pulse before it. -/
  | indexPulse (forward : Bool) (period : Nat)
  /-- SPEED_TIMEOUT (R66): 2 s have passed without an index pulse. -/
  | speedTimeout
  /-- STALL_TIMEOUT (R75): the stall timer expires. -/
  | stallTimeout
  /-- SHAFT_STILL (R67): 20 ms have passed without an encoder count. -/
  | shaftStill
  /-- FEED_PULSE (R125): one pulse of the head's feed sensor. -/
  | feedPulse (head : Nat)
  /-- CASE_CODE_LINE_CHANGE (R105): the four code lines now read this number. -/
  | caseCodeLineChange (code : Nat)
  /-- CASE_CODE_SETTLED (R105): the lines have held their value for 1 ms. -/
  | caseCodeSettled
  /-- CASE_SETTLE_EXPIRY (R109). -/
  | caseSettleExpiry
  /-- CASE_TIMEOUT (R110). -/
  | caseTimeout
  /-- AXIS_STEP (R92, R99, R61): the axis's generator emits its next step of a move that is timed, not angled. -/
  | axisStep (axis : Axis)
  /-- HOMING_SEARCH_LIMIT (R100): the homing in flight has exceeded its step bound. -/
  | homingSearchLimit
  deriving DecidableEq, Repr

end Sys2Proof
end

