-- ==== Sys2Proof/WellFormed.lean ====
section
/-! DEFINITION. Which commands can come: a request's fields fit the widths R178 gives them and its payload the 300
bytes of a frame (R173); a machine event names a line, head or count that exists. A well-formed request may still hold
values its rule refuses: that is the request's own matter. -/

namespace Sys2Proof

/-- A number that fits `bytes` bytes. -/
def fitsBytes (bytes n : Nat) : Bool := decide (n < 256 ^ bytes)

/-- A signed number that fits two bytes in two's complement (R178). -/
def fitsUnits (i : Int) : Bool := decide (-32768 ≤ i ∧ i < 32768)

/-- The TYPE codes that R185 assigns. -/
def assignedTypes : List Nat :=
  [0x01, 0x02, 0x03, 0x04, 0x05, 0x06, 0x07, 0x08, 0x10, 0x11, 0x12, 0x13, 0x14,
   0x20, 0x21, 0x22, 0x23, 0x24, 0x25, 0x26, 0x27, 0x28, 0x29, 0x2A, 0x2B,
   0x30, 0x31, 0x32, 0x33, 0x38, 0x39, 0x40, 0x41, 0x42, 0x43, 0x44, 0x45, 0x46, 0x47,
   0x50, 0x51, 0x52, 0x53, 0x54, 0x58, 0x59, 0x5A, 0x5B, 0x5C, 0x5D, 0x5E]

/-- Well-formedness of a command, constructor by constructor. -/
def Instr.wf : Instr → Bool
  | .receiveFrame bytes => decide (0 < bytes.length ∧ bytes.length ≤ 306)
  | .byteReceived _ _ => true
  | .linkGapTimeout => true
  | .frameSent => true
  | .unknownType ty payload => fitsBytes 1 ty && !assignedTypes.contains ty && decide (payload.length ≤ 300)
  | .status => true
  | .restart => true
  | .notifyOn mask => fitsBytes 2 mask
  | .notifyOff mask => fitsBytes 2 mask
  | .eventsClear mask => fitsBytes 2 mask
  | .setInput input mode filter report => fitsBytes 1 input && fitsBytes 1 mode && fitsBytes 1 filter && fitsBytes 1 report
  | .inputClear mask => fitsBytes 4 mask
  | .inputInfo => true
  | .dsnOpen design declared blocks xmin xmax ymin ymax seqLen entries =>
      fitsBytes 2 design && fitsBytes 4 declared && fitsBytes 2 blocks && fitsUnits xmin && fitsUnits xmax
        && fitsUnits ymin && fitsUnits ymax && fitsBytes 2 seqLen && decide (entries.length ≤ 282)
  | .dsnBlock design block count records =>
      fitsBytes 2 design && fitsBytes 2 block && fitsBytes 1 count && decide (records.length ≤ 98)
  | .dsnClose design check => fitsBytes 2 design && fitsBytes 4 check
  | .dsnDrop design => fitsBytes 2 design
  | .dsnInfo design => fitsBytes 2 design
  | .arm design hoop => fitsBytes 2 design && fitsBytes 1 hoop
  | .disarm => true
  | .start => true
  | .stop => true
  | .resume => true
  | .halt => true
  | .recover => true
  | .keepFrame value => fitsBytes 1 value
  | .preselect needle => fitsBytes 1 needle
  | .seqEdit design first count entries =>
      fitsBytes 2 design && fitsBytes 1 first && fitsBytes 2 count && decide (entries.length ≤ 295)
  | .needleGo needle => fitsBytes 1 needle
  | .caseInfo => true
  | .setMotion settings => settings.all (fitsBytes 2) && decide (settings.length ≤ 150)
  | .setProfile points => points.all (fitsBytes 2) && decide (points.length ≤ 150)
  | .getSettings => true
  | .speed rpm => fitsBytes 2 rpm
  | .setOutput kind head mode polarity => fitsBytes 1 kind && fitsBytes 1 head && fitsBytes 1 mode && fitsBytes 1 polarity
  | .outputInfo => true
  | .frameGo mode x y => fitsBytes 1 mode && fitsUnits x && fitsUnits y
  | .frameHome => true
  | .frameTrace => true
  | .framePark => true
  | .setFrame dirX dirY offX offY parkX parkY rPos =>
      fitsBytes 1 dirX && fitsBytes 1 dirY && fitsUnits offX && fitsUnits offY && fitsUnits parkX && fitsUnits parkY
        && fitsBytes 2 rPos
  | .setHoop entry xmin xmax ymin ymax =>
      fitsBytes 1 entry && fitsUnits xmin && fitsUnits xmax && fitsUnits ymin && fitsUnits ymax
  | .hoopSelect entry => fitsBytes 1 entry
  | .frameInfo => true
  | .needleProfile needle monitor base k rlo rhi b f =>
      fitsBytes 1 needle && fitsBytes 1 monitor && fitsBytes 1 base && fitsBytes 2 k && fitsBytes 1 rlo && fitsBytes 1 rhi
        && fitsBytes 1 b && fitsBytes 1 f
  | .threadPolicy onBreak onBobbin => fitsBytes 1 onBreak && fitsBytes 1 onBobbin
  | .captureArm head => fitsBytes 1 head
  | .captureRead => true
  | .threadInfo => true
  | .headsOn mask => fitsBytes 2 mask
  | .headsOff mask => fitsBytes 2 mask
  | .repair mask => fitsBytes 2 mask
  | .repairEnd => true
  | .repairCancel mask => fitsBytes 2 mask
  | .repairSetup overlap trim => fitsBytes 1 overlap && fitsBytes 1 trim
  | .headInfo => true
  | .powerOnReset headPins needlePins ratePins => decide (headPins < 16 ∧ needlePins < 16 ∧ ratePins < 4)
  | .resetAssert => true
  | .resetRelease => true
  | .inputLineChange line _ => decide (line ≤ 32)
  | .inputFilterSettled input => decide (input < 32)
  | .estopAssertion => true
  | .estopRelease => true
  | .axisDriveNotReady _ => true
  | .axisDriveReady _ => true
  | .shaftDriveNotReady => true
  | .shaftDriveReady => true
  | .encoderCount _ _ => true
  | .indexPulse _ period => decide (0 < period)
  | .speedTimeout => true
  | .stallTimeout => true
  | .shaftStill => true
  | .feedPulse head => decide (1 ≤ head ∧ head ≤ 12)
  | .caseCodeLineChange code => decide (code < 16)
  | .caseCodeSettled => true
  | .caseSettleExpiry => true
  | .caseTimeout => true
  | .axisStep _ => true
  | .homingSearchLimit => true

/-- The counts and list lengths a request announces are those of the lists it carries, so that LEN fits (R177, R185). -/
def Instr.counted : Instr → Bool
  | .dsnOpen _ _ _ _ _ _ _ seqLen entries => decide (seqLen = entries.length)
  | .dsnBlock _ _ count records => decide (count = records.length)
  | .seqEdit _ _ count entries => decide (count = entries.length)
  | .setMotion settings => decide (settings.length = 13)
  | .setProfile points => decide (points.length = 17)
  | _ => true

end Sys2Proof
end

