-- ==== Sys2Proof/Decode.lean ====
section
/-! DEFINITION. From words to commands. spec/opcode_table.json gives no row any bits, so no table word spells a
command (`decodeTableWord`). What the part does decode are the frames of its serial line: `decodeRequest` reads the
TYPE and PAYLOAD of a good frame (R177, R178, R185), `encodeRequest` writes the frame that carries a request. -/

namespace Sys2Proof

/-- The table gives no row any bits: no word spells a command. -/
def decodeTableWord (_nbits _w : Nat) : Option Instr := none

/-! ### Byte order (R178): least significant byte first, signed fields in two's complement. -/

/-- The low `k` bytes of a number, least significant first. -/
def leBytes : Nat → Nat → List Byte
  | 0, _ => []
  | k + 1, n => BitVec.ofNat 8 n :: leBytes k (n / 256)

/-- The number that bytes hold, least significant first. -/
def leNat : List Byte → Nat
  | [] => 0
  | b :: bs => b.toNat + 256 * leNat bs

/-- A signed number in two bytes. -/
def sBytes2 (i : Int) : List Byte := leBytes 2 (i % 65536).toNat

/-- A signed number in four bytes. -/
def sBytes4 (i : Int) : List Byte := leBytes 4 (i % 4294967296).toNat

/-- The signed number that two bytes hold. -/
def sOfNat2 (n : Nat) : Int := if n < 32768 then (n : Int) else (n : Int) - 65536

/-- The `len` bytes of a payload from offset `off` on, as a number. -/
def fieldAt (p : List Byte) (off len : Nat) : Nat := leNat ((p.drop off).take len)

/-- The two bytes of a payload at offset `off`, as a signed number. -/
def unitsAt (p : List Byte) (off : Nat) : Int := sOfNat2 (fieldAt p off 2)

/-- `n` consecutive two-byte fields. -/
def words2 : Nat → List Byte → List Nat
  | 0, _ => []
  | n + 1, p => leNat (p.take 2) :: words2 n (p.drop 2)

/-- `n` consecutive three-byte records (R186). -/
def records3 : Nat → List Byte → List RawRecord
  | 0, _ => []
  | n + 1, p => ⟨p.getD 0 0, p.getD 1 0, p.getD 2 0⟩ :: records3 n (p.drop 3)

/-- A record's three bytes in the order of its link form (R186). -/
def RawRecord.bytes (r : RawRecord) : List Byte := [r.kind, r.dx, r.dy]

/-! ### Requests -/

/-- What the link interface makes of a taken frame (R177). -/
inductive Decoded where
  /-- An assigned TYPE with the length R185 gives it: handed to its block. -/
  | request (i : Instr)
  /-- An assigned TYPE with another length: refused BAD_LENGTH by the link interface. -/
  | badLength
  /-- A TYPE that R185 does not assign. -/
  | unknown
  deriving DecidableEq, Repr

/-- A request of fixed payload length (R177). -/
def fixedLen (len : Nat) (p : List Byte) (i : Instr) : Decoded :=
  if p.length = len then .request i else .badLength

/-- A request whose payload is `head` bytes and then `unit` bytes for each of `count` entries (R177): too short to hold
the count, or another length than the count gives, is BAD_LENGTH. -/
def countedLen (head unit count : Nat) (p : List Byte) (i : Instr) : Decoded :=
  if p.length < head then .badLength else if p.length = head + unit * count then .request i else .badLength

/-- R177, R185: the request that a frame's TYPE and PAYLOAD carry. -/
def decodeRequest (ty : Nat) (p : List Byte) : Decoded :=
  match ty with
  | 0x01 => fixedLen 0 p .status
  | 0x02 => fixedLen 0 p .restart
  | 0x03 => fixedLen 2 p (.notifyOn (fieldAt p 0 2))
  | 0x04 => fixedLen 2 p (.notifyOff (fieldAt p 0 2))
  | 0x05 => fixedLen 2 p (.eventsClear (fieldAt p 0 2))
  | 0x06 => fixedLen 4 p (.setInput (fieldAt p 0 1) (fieldAt p 1 1) (fieldAt p 2 1) (fieldAt p 3 1))
  | 0x07 => fixedLen 4 p (.inputClear (fieldAt p 0 4))
  | 0x08 => fixedLen 0 p .inputInfo
  | 0x10 => countedLen 18 1 (fieldAt p 16 2) p
      (.dsnOpen (fieldAt p 0 2) (fieldAt p 2 4) (fieldAt p 6 2) (unitsAt p 8) (unitsAt p 10) (unitsAt p 12) (unitsAt p 14)
        (fieldAt p 16 2) (p.drop 18))
  | 0x11 => countedLen 5 3 (fieldAt p 4 1) p
      (.dsnBlock (fieldAt p 0 2) (fieldAt p 2 2) (fieldAt p 4 1) (records3 (fieldAt p 4 1) (p.drop 5)))
  | 0x12 => fixedLen 6 p (.dsnClose (fieldAt p 0 2) (fieldAt p 2 4))
  | 0x13 => fixedLen 2 p (.dsnDrop (fieldAt p 0 2))
  | 0x14 => fixedLen 2 p (.dsnInfo (fieldAt p 0 2))
  | 0x20 => fixedLen 3 p (.arm (fieldAt p 0 2) (fieldAt p 2 1))
  | 0x21 => fixedLen 0 p .disarm
  | 0x22 => fixedLen 0 p .start
  | 0x23 => fixedLen 0 p .stop
  | 0x24 => fixedLen 0 p .resume
  | 0x25 => fixedLen 0 p .halt
  | 0x26 => fixedLen 0 p .recover
  | 0x27 => fixedLen 1 p (.keepFrame (fieldAt p 0 1))
  | 0x28 => fixedLen 1 p (.preselect (fieldAt p 0 1))
  | 0x29 => countedLen 5 1 (fieldAt p 3 2) p (.seqEdit (fieldAt p 0 2) (fieldAt p 2 1) (fieldAt p 3 2) (p.drop 5))
  | 0x2A => fixedLen 1 p (.needleGo (fieldAt p 0 1))
  | 0x2B => fixedLen 0 p .caseInfo
  | 0x30 => fixedLen 26 p (.setMotion (words2 13 p))
  | 0x31 => fixedLen 34 p (.setProfile (words2 17 p))
  | 0x32 => fixedLen 0 p .getSettings
  | 0x33 => fixedLen 2 p (.speed (fieldAt p 0 2))
  | 0x38 => fixedLen 4 p (.setOutput (fieldAt p 0 1) (fieldAt p 1 1) (fieldAt p 2 1) (fieldAt p 3 1))
  | 0x39 => fixedLen 0 p .outputInfo
  | 0x40 => fixedLen 5 p (.frameGo (fieldAt p 0 1) (unitsAt p 1) (unitsAt p 3))
  | 0x41 => fixedLen 0 p .frameHome
  | 0x42 => fixedLen 0 p .frameTrace
  | 0x43 => fixedLen 0 p .framePark
  | 0x44 => fixedLen 12 p
      (.setFrame (fieldAt p 0 1) (fieldAt p 1 1) (unitsAt p 2) (unitsAt p 4) (unitsAt p 6) (unitsAt p 8) (fieldAt p 10 2))
  | 0x45 => fixedLen 9 p (.setHoop (fieldAt p 0 1) (unitsAt p 1) (unitsAt p 3) (unitsAt p 5) (unitsAt p 7))
  | 0x46 => fixedLen 1 p (.hoopSelect (fieldAt p 0 1))
  | 0x47 => fixedLen 0 p .frameInfo
  | 0x50 => fixedLen 9 p
      (.needleProfile (fieldAt p 0 1) (fieldAt p 1 1) (fieldAt p 2 1) (fieldAt p 3 2) (fieldAt p 5 1) (fieldAt p 6 1)
        (fieldAt p 7 1) (fieldAt p 8 1))
  | 0x51 => fixedLen 2 p (.threadPolicy (fieldAt p 0 1) (fieldAt p 1 1))
  | 0x52 => fixedLen 1 p (.captureArm (fieldAt p 0 1))
  | 0x53 => fixedLen 0 p .captureRead
  | 0x54 => fixedLen 0 p .threadInfo
  | 0x58 => fixedLen 2 p (.headsOn (fieldAt p 0 2))
  | 0x59 => fixedLen 2 p (.headsOff (fieldAt p 0 2))
  | 0x5A => fixedLen 2 p (.repair (fieldAt p 0 2))
  | 0x5B => fixedLen 0 p .repairEnd
  | 0x5C => fixedLen 2 p (.repairCancel (fieldAt p 0 2))
  | 0x5D => fixedLen 2 p (.repairSetup (fieldAt p 0 1) (fieldAt p 1 1))
  | 0x5E => fixedLen 0 p .headInfo
  | _ => .unknown

/-- The TYPE and PAYLOAD of the frame that carries a request (R178, R185); none for a machine event. A frame of an
unassigned TYPE is carried as it stands. -/
def encodeRequest : Instr → Option (Nat × List Byte)
  | .unknownType ty payload => some (ty, payload)
  | .status => some (0x01, [])
  | .restart => some (0x02, [])
  | .notifyOn mask => some (0x03, leBytes 2 mask)
  | .notifyOff mask => some (0x04, leBytes 2 mask)
  | .eventsClear mask => some (0x05, leBytes 2 mask)
  | .setInput input mode filter report =>
      some (0x06, leBytes 1 input ++ leBytes 1 mode ++ leBytes 1 filter ++ leBytes 1 report)
  | .inputClear mask => some (0x07, leBytes 4 mask)
  | .inputInfo => some (0x08, [])
  | .dsnOpen design declared blocks xmin xmax ymin ymax seqLen entries =>
      some (0x10, leBytes 2 design ++ leBytes 4 declared ++ leBytes 2 blocks ++ sBytes2 xmin ++ sBytes2 xmax ++ sBytes2 ymin
        ++ sBytes2 ymax ++ leBytes 2 seqLen ++ entries)
  | .dsnBlock design block count records =>
      some (0x11, leBytes 2 design ++ leBytes 2 block ++ leBytes 1 count ++ records.flatMap RawRecord.bytes)
  | .dsnClose design check => some (0x12, leBytes 2 design ++ leBytes 4 check)
  | .dsnDrop design => some (0x13, leBytes 2 design)
  | .dsnInfo design => some (0x14, leBytes 2 design)
  | .arm design hoop => some (0x20, leBytes 2 design ++ leBytes 1 hoop)
  | .disarm => some (0x21, [])
  | .start => some (0x22, [])
  | .stop => some (0x23, [])
  | .resume => some (0x24, [])
  | .halt => some (0x25, [])
  | .recover => some (0x26, [])
  | .keepFrame value => some (0x27, leBytes 1 value)
  | .preselect needle => some (0x28, leBytes 1 needle)
  | .seqEdit design first count entries =>
      some (0x29, leBytes 2 design ++ leBytes 1 first ++ leBytes 2 count ++ entries)
  | .needleGo needle => some (0x2A, leBytes 1 needle)
  | .caseInfo => some (0x2B, [])
  | .setMotion settings => some (0x30, settings.flatMap (leBytes 2))
  | .setProfile points => some (0x31, points.flatMap (leBytes 2))
  | .getSettings => some (0x32, [])
  | .speed rpm => some (0x33, leBytes 2 rpm)
  | .setOutput kind head mode polarity =>
      some (0x38, leBytes 1 kind ++ leBytes 1 head ++ leBytes 1 mode ++ leBytes 1 polarity)
  | .outputInfo => some (0x39, [])
  | .frameGo mode x y => some (0x40, leBytes 1 mode ++ sBytes2 x ++ sBytes2 y)
  | .frameHome => some (0x41, [])
  | .frameTrace => some (0x42, [])
  | .framePark => some (0x43, [])
  | .setFrame dirX dirY offX offY parkX parkY rPos =>
      some (0x44, leBytes 1 dirX ++ leBytes 1 dirY ++ sBytes2 offX ++ sBytes2 offY ++ sBytes2 parkX ++ sBytes2 parkY
        ++ leBytes 2 rPos)
  | .setHoop entry xmin xmax ymin ymax =>
      some (0x45, leBytes 1 entry ++ sBytes2 xmin ++ sBytes2 xmax ++ sBytes2 ymin ++ sBytes2 ymax)
  | .hoopSelect entry => some (0x46, leBytes 1 entry)
  | .frameInfo => some (0x47, [])
  | .needleProfile needle monitor base k rlo rhi b f =>
      some (0x50, leBytes 1 needle ++ leBytes 1 monitor ++ leBytes 1 base ++ leBytes 2 k ++ leBytes 1 rlo ++ leBytes 1 rhi
        ++ leBytes 1 b ++ leBytes 1 f)
  | .threadPolicy onBreak onBobbin => some (0x51, leBytes 1 onBreak ++ leBytes 1 onBobbin)
  | .captureArm head => some (0x52, leBytes 1 head)
  | .captureRead => some (0x53, [])
  | .threadInfo => some (0x54, [])
  | .headsOn mask => some (0x58, leBytes 2 mask)
  | .headsOff mask => some (0x59, leBytes 2 mask)
  | .repair mask => some (0x5A, leBytes 2 mask)
  | .repairEnd => some (0x5B, [])
  | .repairCancel mask => some (0x5C, leBytes 2 mask)
  | .repairSetup overlap trim => some (0x5D, leBytes 1 overlap ++ leBytes 1 trim)
  | .headInfo => some (0x5E, [])
  | .receiveFrame _ => none
  | .byteReceived _ _ => none
  | .linkGapTimeout => none
  | .frameSent => none
  | .powerOnReset _ _ _ => none
  | .resetAssert => none
  | .resetRelease => none
  | .inputLineChange _ _ => none
  | .inputFilterSettled _ => none
  | .estopAssertion => none
  | .estopRelease => none
  | .axisDriveNotReady _ => none
  | .axisDriveReady _ => none
  | .shaftDriveNotReady => none
  | .shaftDriveReady => none
  | .encoderCount _ _ => none
  | .indexPulse _ _ => none
  | .speedTimeout => none
  | .stallTimeout => none
  | .shaftStill => none
  | .feedPulse _ => none
  | .caseCodeLineChange _ => none
  | .caseCodeSettled => none
  | .caseSettleExpiry => none
  | .caseTimeout => none
  | .axisStep _ => none
  | .homingSearchLimit => none

end Sys2Proof
end

