-- ==== Sys2Proof/Machine/Blocks.lean ====
section
/-! DEFINITION. The eleven blocks of the ZH12 as plain data, each with the values it takes after a power-on or line
reset. An enumerated type lists its constructors in the order in which R178 codes them. -/

namespace Sys2Proof.Machine

/-! ### Straps (R183) -/

/-- The straps as the last power-on reset sampled them. -/
structure Straps where
  heads : Nat
  needles : Nat
  baud : Nat
  deriving DecidableEq, Repr

/-- R183: the head count from four strap pins; 0 and 13 to 15 give 12. -/
def headCountOf (pins : Nat) : Nat := if 1 ≤ pins ∧ pins ≤ 12 then pins else 12

/-- R183: the needle count from four strap pins; 0 gives 15. -/
def needleCountOf (pins : Nat) : Nat := if 1 ≤ pins ∧ pins ≤ 15 then pins else 15

/-- R183: the link rate from two strap pins. -/
def baudOf (pins : Nat) : Nat :=
  match pins with
  | 0 => 460800
  | 1 => 921600
  | 2 => 1843200
  | _ => 3000000

/-- The straps that these pin levels give. -/
def Straps.sample (headPins needlePins ratePins : Nat) : Straps :=
  ⟨headCountOf headPins, needleCountOf needlePins, baudOf ratePins⟩

/-! ### Design store (R1 to R21) -/

/-- The kinds of a stored record, coded STITCH 0 to END 4 (R4, R178). -/
inductive RecKind where
  | stitch
  | jump
  | trim
  | stop
  | endRec
  deriving DecidableEq, Repr

/-- A stored record: kind and moves in units (R4). -/
structure Record where
  kind : RecKind
  dx : Int
  dy : Int
  deriving DecidableEq, Repr

/-- A rectangle in units: the declared box of a design (R1), an entry of the hoop field table (R90). -/
structure Box where
  xmin : Int
  xmax : Int
  ymin : Int
  ymax : Int
  deriving DecidableEq, Repr

/-- An entry of a needle sequence (R5). -/
structure SeqEntry where
  needle : Nat
  pause : Bool
  deriving DecidableEq, Repr

/-- The states of a directory entry that holds a design (R1); an EMPTY entry holds none. -/
inductive DesignState where
  | loading
  | ready
  | failed
  deriving DecidableEq, Repr

/-- A page in a chain, with its summary: start position, start colour block, records held (R3). -/
structure ChainPage where
  page : Nat
  startX : Int
  startY : Int
  startBlock : Nat
  held : Nat
  deriving DecidableEq, Repr

/-- A directory entry that is not EMPTY (R1). -/
structure Design where
  number : Nat
  state : DesignState
  declared : Nat
  blocks : Nat
  box : Box
  seq : List SeqEntry
  stored : Nat
  chain : List ChainPage
  nextBlock : Nat
  runX : Int
  runY : Int
  crc : BitVec 32
  stops : Nat
  armedPin : Bool
  repairPin : Bool
  deriving DecidableEq, Repr

/-- The design store: 8 directory slots (none is EMPTY), the free page list in ascending order (R2), and the attached
serial RAM, three bytes a record slot. -/
structure Store where
  dir : List (Option Design)
  free : List Nat
  ram : List Host.Cell
  deriving DecidableEq, Repr

/-- R21: every entry EMPTY and all 2,048 pages free; the contents of the serial RAM are not touched. -/
def Store.powerOn (ram : List Host.Cell) : Store :=
  { dir := List.replicate 8 none, free := List.range 2048, ram := ram }

/-! ### Stitch player (R22 to R45) -/

/-- The reasons of PAUSED, coded HOST_STOP 0 to RECOVERED 6 (R22). -/
inductive PauseReason where
  | hostStop
  | buttonStop
  | colourPause
  | breakStop
  | bobbinStop
  | passEmpty
  | recovered
  deriving DecidableEq, Repr

/-- The causes of HALTED, coded HALT 0 to DESIGN 6 (R22). -/
inductive HaltCause where
  | halt
  | estop
  | shaft
  | axis
  | needleCase
  | overrun
  | design
  deriving DecidableEq, Repr

/-- The ten player states, coded IDLE 0 to HALTED 9 (R22). -/
inductive PlayerState where
  | idle
  | armed
  | running
  | stopping
  | changing
  | returning
  | paused (reason : PauseReason)
  | starved
  | finished
  | halted (cause : HaltCause)
  deriving DecidableEq, Repr

/-- The stop-pending reasons (R23); none is `Option.none`. -/
inductive StopReason where
  | hostStop
  | buttonStop
  | breakStop
  | bobbinStop
  | passEmpty
  | repair
  | passEnd
  | design
  deriving DecidableEq, Repr

/-- Pass mode (R23). -/
inductive PassMode where
  | normal
  | repair
  deriving DecidableEq, Repr

/-- The saved reason: the state the player returns to at the end of a repair pass (R23). -/
inductive SavedReason where
  | paused (reason : PauseReason)
  | finished
  deriving DecidableEq, Repr

/-- The active record (R23); the pass-entry trim of R148 has no record index. -/
structure ActiveRecord where
  index : Option Nat
  kind : RecKind
  dx : Int
  dy : Int
  block : Nat
  deriving DecidableEq, Repr

/-- An entry of the lookahead queue (R28). -/
structure QueueEntry where
  index : Nat
  kind : RecKind
  dx : Int
  dy : Int
  nx : Nat
  ny : Nat
  block : Nat
  limit : Nat
  deriving DecidableEq, Repr

/-- Who asks for a case move, coded START 0 to DIRECT 4 (R116). -/
inductive ChangeSource where
  | start
  | stopRecord
  | resume
  | pass
  | direct
  deriving DecidableEq, Repr

/-- Where the player stands in a chain of held-shaft operations (R31 to R38): the wait for HELD before a return move,
the return move, the wait before a colour change is compared or asked for (R114), the change, the wait for the frame
before a lead-in, the lead-in. The block is the one a STOP record begins. -/
inductive Errand where
  | none
  | returnWait (source : ChangeSource)
  | returnMove (source : ChangeSource)
  | changeWait (source : ChangeSource) (block : Nat)
  | changeMove (source : ChangeSource) (block : Nat)
  | leadWait
  | leadMove
  deriving DecidableEq, Repr

/-- The phases of a pass-entry trim (R148): asked for, its revolution in progress, positioning after it. -/
inductive EntryTrim where
  | none
  | asked
  | active
  | ending
  deriving DecidableEq, Repr

/-- The stitch player (R22, R23, R28). `soonStop` is a soon-as-possible stop whose stop index is not yet set (R35),
`positionAsked` that the player has asked the shaft to position for a planned stop (R30), `recovering` a recovery in
progress (R44), `starvedMark` the mark of R39. -/
structure Player where
  state : PlayerState
  armed : Option Nat
  origin : Option (Int × Int)
  mode : PassMode
  cursor : Nat
  resume : Nat
  saved : SavedReason
  active : Option ActiveRecord
  interrupted : Option Nat
  stopReason : Option StopReason
  stopIndex : Option Nat
  soonStop : Bool
  positionAsked : Bool
  displaced : Bool
  keepFrame : Bool
  history : List (Option Nat)
  preselect : Option Nat
  queue : List QueueEntry
  starvedMark : Nat
  recovering : Bool
  errand : Errand
  entryTrim : EntryTrim
  deriving DecidableEq, Repr

/-- R45: the player after a reset; a RESTART keeps keep-frame. The starved mark (R39), which R45 does not name, is 0
(DESIGN CHOICE, log entry 17). -/
def Player.powerOn (keepFrame : Bool) : Player :=
  { state := .idle, armed := none, origin := none, mode := .normal, cursor := 0, resume := 0, saved := .paused .hostStop,
    active := none, interrupted := none, stopReason := none, stopIndex := none, soonStop := false, positionAsked := false,
    displaced := false, keepFrame := keepFrame, history := List.replicate 256 none, preselect := none, queue := [],
    starvedMark := 0, recovering := false, errand := .none, entryTrim := .none }

/-! ### Speed governor (R46 to R64) -/

/-- The thirteen motion settings, in the order of R46. -/
structure Motion where
  e : Nat
  x : Nat
  go : Nat
  gc : Nat
  wj : Nat
  rMax : Nat
  sMax : Nat
  sStart : Nat
  sStop : Nat
  up : Nat
  dn : Nat
  sTrim : Nat
  sJump : Nat
  deriving DecidableEq, Repr

/-- A set of motion settings with a move profile (R50). -/
structure MotionSet where
  motion : Motion
  profile : List Nat
  deriving DecidableEq, Repr

/-- The defaults of R46. -/
def Motion.default : Motion :=
  { e := 250, x := 790, go := 10, gc := 16, wj := 960, rMax := 16000, sMax := 1200, sStart := 200, sStop := 80, up := 40,
    dn := 80, sTrim := 200, sJump := 1000 }

/-- The default profile of R48. -/
def defaultProfile : List Nat := [0, 4, 12, 24, 40, 60, 82, 106, 128, 150, 174, 196, 216, 232, 244, 252, 256]

/-- The default set of R46 and R48. -/
def MotionSet.default : MotionSet := { motion := .default, profile := defaultProfile }

/-- The current move (R59): step totals and directions, steps emitted, window and slice width, the profile it keeps, the
µs until each axis's generator may emit its next step (R60), and whether the move is overrun (R61). -/
structure SewMove where
  index : Nat
  kind : RecKind
  nx : Nat
  ny : Nat
  xNeg : Bool
  yNeg : Bool
  ex : Nat
  ey : Nat
  window : Nat
  slice : Nat
  profile : List Nat
  waitX : Nat
  waitY : Nat
  overrun : Bool
  deriving DecidableEq, Repr

/-- The governor: the active and pending sets, the pending flag, S_cmd, C_prev and the current move. -/
structure Governor where
  active : MotionSet
  pending : MotionSet
  pendingFlag : Bool
  sCmd : Nat
  cPrev : Nat
  move : Option SewMove
  deriving DecidableEq, Repr

/-- R64. -/
def Governor.powerOn : Governor :=
  { active := .default, pending := .default, pendingFlag := false, sCmd := 1200, cPrev := 0, move := none }

/-! ### Shaft unit (R65 to R78) -/

/-- The shaft states, coded OFF 0 to FAULT 6 (R67). -/
inductive ShaftState where
  | off
  | held
  | offPosition
  | turning
  | positioning
  | braking
  | fault
  deriving DecidableEq, Repr

/-- The shaft fault causes, coded DRIVE 0 to POSITION 4 (R75). -/
inductive ShaftCause where
  | drive
  | stall
  | index
  | reverse
  | position
  deriving DecidableEq, Repr

/-- The phases of POSITIONING (R71, R72): creeping to the brake point at 1000, creeping to the correction's brake point
at 1016, braked and waiting to be still. -/
inductive PosPhase where
  | creep
  | correct
  | braked
  deriving DecidableEq, Repr

/-- The shaft unit. `refValid` is the angle reference (R65); `indexForward` that the last index pulse was passed forward
(R66); `still` that 20 ms have passed without a count (R67); `faultStill` that a FAULT has been still, so that its brake
is released (R76); `toOff` that a FAULT goes to OFF once still (R69); `keptHold`, `keptTurn` the kept requests (R68);
`stall` the stall timer in ms, none when stopped (R75); `runUp` that no boundary has been reached since TURNING was
entered (R70); `driveReady` the drive-ready line. -/
structure Shaft where
  state : ShaftState
  angle : Nat
  refValid : Bool
  sMeas : Nat
  indexForward : Bool
  demand : Nat
  phase : PosPhase
  retry : Nat
  extra : Nat
  cause : Option ShaftCause
  still : Bool
  faultStill : Bool
  toOff : Bool
  keptHold : Bool
  keptTurn : Bool
  stall : Option Nat
  runUp : Bool
  driveReady : Bool
  deriving DecidableEq, Repr

/-- R78; the drive-ready line and the rest of the shaft are the machine's own and are not reset. The part of a positioning
and the marks that R78 does not name have the values of log entry 17 (DESIGN CHOICE). -/
def Shaft.powerOn (driveReady still : Bool) : Shaft :=
  { state := .off, angle := 0, refValid := false, sMeas := 0, indexForward := false, demand := 0, phase := .creep, retry := 0,
    extra := 0, cause := none, still := still, faultStill := false, toOff := false, keptHold := false, keptTurn := false,
    stall := none, runUp := false, driveReady := driveReady }

/-! ### Actuator outputs (R79 to R86) -/

/-- Output modes, coded AUTO 0 to FLOAT 3 (R79). -/
inductive OutMode where
  | auto
  | forceOn
  | forceOff
  | float
  deriving DecidableEq, Repr

/-- Output polarity, coded ACTIVE_HIGH 0, ACTIVE_LOW 1 (R79). -/
inductive Polarity where
  | activeHigh
  | activeLow
  deriving DecidableEq, Repr

/-- An actuator output's mode and polarity. -/
structure Output where
  mode : OutMode
  polarity : Polarity
  deriving DecidableEq, Repr

/-- The actuator outputs: HOLD and TRIM of each fitted head, HOLDER, the kill latch (and that it waits for the OFF report
after a RESTART, R83), the holder countdown and whether the holder is armed for this revolution (R82). -/
structure Outputs where
  hold : List Output
  trim : List Output
  holder : Output
  kill : Bool
  killUntilOff : Bool
  holderCount : Nat
  holderArmed : Bool
  deriving DecidableEq, Repr

/-- R86. -/
def Outputs.powerOn (heads : Nat) : Outputs :=
  { hold := List.replicate heads ⟨.auto, .activeHigh⟩, trim := List.replicate heads ⟨.auto, .activeHigh⟩,
    holder := ⟨.auto, .activeHigh⟩, kill := false, killUntilOff := false, holderCount := 0, holderArmed := false }

/-! ### Frame unit (R87 to R104) -/

/-- The frame's owner, coded NONE 0, PLAYER 1, POSITIONER 2 (R186). -/
inductive Owner where
  | none
  | player
  | positioner
  deriving DecidableEq, Repr

/-- The operations FRAME_DONE reports, coded GO 0 to RETURN 5 (R186). -/
inductive MoveOp where
  | go
  | home
  | trace
  | park
  | leadIn
  | returnMove
  deriving DecidableEq, Repr

/-- The causes of an axis fault, coded DRIVE_X 0 to HOME_STUCK 7 (R186). -/
inductive AxisCause where
  | driveX
  | driveY
  | limitXN
  | limitXP
  | limitYN
  | limitYP
  | homeNotFound
  | homeStuck
  deriving DecidableEq, Repr

/-- The causes of an aborted FRAME_DONE (R96, R186). -/
inductive AbortCause where
  | axis (cause : AxisCause)
  | halt
  | shaft
  | estop
  | restart
  | needleCase
  | design
  | overrun
  deriving DecidableEq, Repr

/-- One straight held-shaft move (R92): step totals and directions, steps the leading axis and the other axis have
emitted, and the square of the leading axis's rate in steps per second. -/
structure Leg where
  nx : Nat
  ny : Nat
  xNeg : Bool
  yNeg : Bool
  ex : Nat
  ey : Nat
  rateSq : Nat
  deriving DecidableEq, Repr

/-- The parts of homing one axis (R99): stepping off the switch, the 40 steps more, the search, the back-off; each with
the steps made in it. -/
inductive HomeStage where
  | clear (steps : Nat)
  | clearMore (steps : Nat)
  | search (steps : Nat)
  | backOff (steps : Nat)
  deriving DecidableEq, Repr

/-- The move in flight of the frame unit: a held-shaft move with the legs that follow it (their targets, in steps) and,
while it slows to a stop, the cause of its abort (R93); or a homing. -/
inductive FrameMove where
  | legs (op : MoveOp) (leg : Leg) (rest : List (Int × Int)) (slowing : Option AbortCause)
  | homing (axis : Axis) (stage : HomeStage)
  deriving DecidableEq, Repr

/-- What becomes of the player's frame once a move being stopped has stopped (R94): nothing, it is lent, it is released. -/
inductive AfterStop where
  | keep
  | lend
  | release
  deriving DecidableEq, Repr

/-- The positioner settings (R102); a home direction is true for POSITIVE. -/
structure FrameSettings where
  dirX : Bool
  dirY : Bool
  offX : Int
  offY : Int
  parkX : Int
  parkY : Int
  rPos : Nat
  deriving DecidableEq, Repr

/-- The frame unit: axis positions in steps, trust (KNOWN), owner and lent flag, the move in flight, the hoop field
table and the active hoop, the positioner settings, the drive-ready lines. -/
structure Frame where
  x : Int
  y : Int
  known : Bool
  owner : Owner
  lent : Bool
  move : Option FrameMove
  after : AfterStop
  hoops : List Box
  hoop : Nat
  settings : FrameSettings
  readyX : Bool
  readyY : Bool
  deriving DecidableEq, Repr

/-- The full travel in units (R90). -/
def fullTravel : Box := { xmin := -6000, xmax := 6000, ymin := -2500, ymax := 2500 }

/-- The defaults of R102. -/
def FrameSettings.default : FrameSettings :=
  { dirX := false, dirY := false, offX := -6000, offY := -2500, parkX := 0, parkY := 2500, rPos := 12000 }

/-- R104; the drive-ready lines are the machine's own. -/
def Frame.powerOn (readyX readyY : Bool) : Frame :=
  { x := 0, y := 0, known := false, owner := .none, lent := false, move := none, after := .keep,
    hoops := List.replicate 8 fullTravel, hoop := 0, settings := .default, readyX := readyX, readyY := readyY }

/-! ### Needle case unit (R105 to R121) -/

/-- The case states, coded IDLE 0 to FAULT 3 (R106). -/
inductive CaseState where
  | idle
  | moving
  | settling
  | fault
  deriving DecidableEq, Repr

/-- The case fault causes, coded TIMEOUT 0 to DRIFT 4 (R106). -/
inductive CaseCause where
  | timeout
  | overshoot
  | away
  | shaftMoved
  | drift
  deriving DecidableEq, Repr

/-- A case move asked for: its target and source (DIRECT, or one of the player's changes) and, for a player's change,
the colour block (R116). -/
structure CaseJob where
  target : Nat
  source : ChangeSource
  block : Option Nat
  deriving DecidableEq, Repr

/-- The needle case unit. `raw` is what the code lines read, `code` the value they last held for 1 ms, `pos` the case
position (0 between positions), `job` target and requester of the move in flight, `dirUp` the drive direction or the
last one (R106). -/
structure NeedleCase where
  state : CaseState
  raw : Nat
  code : Nat
  pos : Nat
  lastSeen : Option Nat
  job : Option CaseJob
  dirUp : Option Bool
  overshoot : Nat
  timer : Nat
  settle : Nat
  kept : Option CaseJob
  cause : Option CaseCause
  deriving DecidableEq, Repr

/-- R105: the case position that a code value gives. -/
def casePosition (needles code : Nat) : Nat := if 1 ≤ code ∧ code ≤ needles then code else 0

/-- R105: a needle position as a needle seen. -/
def needleSeen (pos : Nat) : Option Nat := if pos = 0 then none else some pos

/-- R121: position and last seen needle are taken from the code as it reads. -/
def NeedleCase.powerOn (needles raw : Nat) : NeedleCase :=
  { state := .idle, raw := raw, code := raw, pos := casePosition needles raw, lastSeen := needleSeen (casePosition needles raw),
    job := none, dirUp := none, overshoot := 0, timer := 0, settle := 0, kept := none, cause := none }

/-! ### Thread monitor (R122 to R137) -/

/-- An entry of the needle profile table (R122). -/
structure NeedleProfile where
  monitor : Bool
  base : Nat
  k : Nat
  rlo : Nat
  rhi : Nat
  b : Nat
  f : Nat
  deriving DecidableEq, Repr

/-- The defaults of R122. -/
def NeedleProfile.default : NeedleProfile := { monitor := true, base := 6, k := 40, rlo := 6, rhi := 40, b := 4, f := 3 }

/-- Break policy, coded EXCLUDE 0, STOP 1 (R124). -/
inductive BreakPolicy where
  | exclude
  | stop
  deriving DecidableEq, Repr

/-- Bobbin policy, coded NOTIFY 0, STOP 1 (R124). -/
inductive BobbinPolicy where
  | notify
  | stop
  deriving DecidableEq, Repr

/-- Verdicts, coded NORMAL 0, LOW 1, HIGH 2 (R134). -/
inductive Verdict where
  | normal
  | low
  | high
  deriving DecidableEq, Repr

/-- The kind of a suspicion run, coded LOW 0, HIGH 1 (R129). -/
inductive RunKind where
  | low
  | high
  deriving DecidableEq, Repr

/-- A head's suspicion run (R129). -/
structure SuspicionRun where
  length : Nat
  first : Option Nat
  needle : Option Nat
  kind : Option RunKind
  deriving DecidableEq, Repr

/-- A run of length 0 has its other fields none (R129). -/
def SuspicionRun.clear : SuspicionRun := { length := 0, first := none, needle := none, kind := none }

/-- The monitor's record of one head: pulse counter, suspicion run, tie-in countdown. -/
structure HeadMonitor where
  count : Nat
  run : SuspicionRun
  tieIn : Nat
  deriving DecidableEq, Repr

/-- R137. -/
def HeadMonitor.powerOn : HeadMonitor := { count := 0, run := .clear, tieIn := 0 }

/-- The capture slot's contents (R134). -/
structure CaptureSlot where
  count : Nat
  expected : Nat
  index : Nat
  needle : Nat
  verdict : Verdict
  deriving DecidableEq, Repr

/-- What the monitor was handed at the boundary of the revolution in progress (R122, R127): the record, and the profile
entry and needle read there. -/
structure SewnRevolution where
  kind : RecKind
  index : Nat
  dx : Int
  dy : Int
  profile : NeedleProfile
  needle : Nat
  deriving DecidableEq, Repr

/-- The thread monitor; capture selection 0 is off. -/
structure Thread where
  profiles : List NeedleProfile
  breakPolicy : BreakPolicy
  bobbinPolicy : BobbinPolicy
  monitors : List HeadMonitor
  capture : Nat
  slot : Option CaptureSlot
  fresh : Bool
  overrun : Bool
  rev : Option SewnRevolution
  feedOpen : Bool
  deriving DecidableEq, Repr

/-- R137. -/
def Thread.powerOn (heads : Nat) : Thread :=
  { profiles := List.replicate 15 .default, breakPolicy := .exclude, bobbinPolicy := .notify,
    monitors := List.replicate heads .powerOn, capture := 0, slot := none, fresh := false, overrun := false, rev := none,
    feedOpen := false }

/-! ### Head and repair unit (R138 to R160) -/

/-- Head conditions, coded OK 0, BROKEN 1, REPAIRING 2 (R186). -/
inductive Condition where
  | ok
  | broken
  | repairing
  deriving DecidableEq, Repr

/-- Pass roles, coded NONE 0, WAITING 1, ACTIVE 2 (R186). -/
inductive Role where
  | none
  | waiting
  | active
  deriving DecidableEq, Repr

/-- Break causes, coded BREAK 0, TANGLE 1, BOBBIN 2 (R186). -/
inductive BreakCause where
  | break
  | tangle
  | bobbin
  deriving DecidableEq, Repr

/-- A record of the head table (R138); engage-next is computed from it (R141). -/
structure Head where
  enabled : Bool
  switch : Bool
  condition : Condition
  role : Role
  start : Option Nat
  engaged : Bool
  bobbinLow : Bool
  deriving DecidableEq, Repr

/-- R160. -/
def Head.powerOn : Head :=
  { enabled := true, switch := false, condition := .ok, role := .none, start := none, engaged := false, bobbinLow := false }

/-- A repair record (R143). -/
structure RepairRecord where
  head : Nat
  design : Nat
  point : Nat
  cause : BreakCause
  needle : Nat
  block : Nat
  deriving DecidableEq, Repr

/-- The head and repair unit: the head table, the repair list in its order, the pass selection, end H and start p0
(R147, none when no pass is begun or entered), the last completed kind (R142), the left-pass flag (R156), the repair
overlap and the pass-entry trim setting (R158). -/
structure Heads where
  table : List Head
  repairs : List RepairRecord
  selection : Option Nat
  passEnd : Option Nat
  passStart : Option Nat
  lastKind : Option RecKind
  leftPass : Bool
  overlap : Nat
  trimOn : Bool
  deriving DecidableEq, Repr

/-- R160. -/
def Heads.powerOn (heads : Nat) : Heads :=
  { table := List.replicate heads .powerOn, repairs := [], selection := none, passEnd := none, passStart := none,
    lastKind := none, leftPass := false, overlap := 2, trimOn := true }

/-! ### Inputs and events (R161 to R171) -/

/-- Input modes, coded LEVEL_HIGH 0 to BOTH 4 (R161). -/
inductive InputMode where
  | levelHigh
  | levelLow
  | rising
  | falling
  | both
  deriving DecidableEq, Repr

/-- A condition input (R161). `raw` is the line's level; `level` the filtered level, none until the first one is taken
after a reset (R162). -/
structure Input where
  mode : InputMode
  filter : Nat
  report : Bool
  raw : Bool
  level : Option Bool
  latch : Bool
  armed : Bool
  deriving DecidableEq, Repr

/-- R161: the mode each input takes after a power-on or line reset. -/
def defaultMode (i : Nat) : InputMode :=
  if i < 12 then .falling else if i < 24 then .levelHigh else if i < 26 then .falling else .levelLow

/-- R161, R171. -/
def Input.powerOn (i : Nat) (raw : Bool) : Input :=
  { mode := defaultMode i, filter := 5, report := false, raw := raw, level := none, latch := false, armed := true }

/-- The inputs with these raw line levels, each at the values of R161. -/
def inputsPowerOn (raws : List Bool) : List Input :=
  (List.range 32).map fun i => Input.powerOn i (raws.getD i false)

/-- Reset causes, coded POWER 0, LINE 1, REQUEST 2 (R171). -/
inductive ResetCause where
  | power
  | line
  | request
  deriving DecidableEq, Repr

/-- The input and event unit: the 32 condition inputs, the E-STOP line (raw and filtered, none until first taken), the
event flags and subscriptions (bit n is flag n of R168), the reset cause. -/
structure Events where
  inputs : List Input
  estopRaw : Bool
  estop : Option Bool
  flags : BitVec 16
  subscribed : BitVec 16
  cause : ResetCause
  deriving DecidableEq, Repr

/-- R171. -/
def Events.powerOn (raws : List Bool) (estopRaw : Bool) (cause : ResetCause) : Events :=
  { inputs := inputsPowerOn raws, estopRaw := estopRaw, estop := none, flags := 0, subscribed := 0, cause := cause }

/-! ### Link interface (R172 to R186) -/

/-- A frame's TYPE and PAYLOAD (R173). -/
structure LinkFrame where
  ty : Nat
  payload : List Byte
  deriving DecidableEq, Repr

/-- The receiver's phase with what it has taken so far (R174): LENGTH with the first length byte, TYPE with LEN, PAYLOAD
with the bytes taken, CHECK with the first check byte. -/
inductive Receiver where
  | hunt
  | length (low : Option Byte)
  | type (len : Nat)
  | payload (len ty : Nat) (taken : List Byte)
  | check (ty : Nat) (taken : List Byte) (low : Option Byte)
  deriving DecidableEq, Repr

/-- A queued notice: the flag's number and the detail of its latching (R170). -/
structure Notice where
  flag : Nat
  detail : List Byte
  deriving DecidableEq, Repr

/-- What the transmitter is sending (R176). -/
inductive Transmitter where
  | idle
  | reply (frame : LinkFrame)
  | notice (frame : LinkFrame)
  deriving DecidableEq, Repr

/-- The link interface. `taking` stands between the taking of a request and the placing of its reply, within which a
notice does not begin to be sent (R176). -/
structure Link where
  receiver : Receiver
  requests : List LinkFrame
  reply : Option LinkFrame
  notices : List Notice
  transmitter : Transmitter
  taking : Bool
  deriving DecidableEq, Repr

/-- R184. -/
def Link.powerOn : Link :=
  { receiver := .hunt, requests := [], reply := none, notices := [], transmitter := .idle, taking := false }

end Sys2Proof.Machine
end

