-- ==== Sys2Proof/Machine/State.lean ====
section
/-! DEFINITION. The state of the ZH12: its eleven blocks, its straps, and the queue of waiting commands. -/

namespace Sys2Proof.Machine

/-- Everything the manual gives the part, and the model's own queue of waiting commands (first in, first out), the mark
that the RESET line is asserted (R182), and the counter of the free choices made so far (`Config.takeFirst`). -/
structure State where
  pending : List Instr
  straps : Straps
  resetHeld : Bool
  choices : Nat
  store : Store
  player : Player
  gov : Governor
  shaft : Shaft
  outs : Outputs
  frame : Frame
  nc : NeedleCase
  thread : Thread
  heads : Heads
  ev : Events
  link : Link
  deriving DecidableEq, Repr

/-- No command of the ZH12 stops the part: every behaviour the manual leaves open is a free value, so there is no fault. -/
inductive Fault where
  deriving DecidableEq, Repr

/-- The reasons a command has no meaning. -/
inductive Refusal where
  /-- Raised by `exec`'s arm of a command without a meaning; safe. No command of this model raises it. -/
  | notModelled (mnemonic : String)
  deriving DecidableEq, Repr

/-- Every block at its values after a power-on or line reset (R21, R45, R64, R78, R86, R104, R121, R137, R160, R171,
R184), with the straps and the levels of the machine's lines as they stand. -/
def State.powerOn (straps : Straps) (ram : List Host.Cell) (shaftReady still readyX readyY : Bool) (code : Nat)
    (raws : List Bool) (estopRaw : Bool) (cause : ResetCause) : State :=
  { pending := [], straps := straps, resetHeld := false, choices := 0, store := .powerOn ram, player := .powerOn false,
    gov := .powerOn, shaft := .powerOn shaftReady still, outs := .powerOn straps.heads, frame := .powerOn readyX readyY,
    nc := .powerOn straps.needles code, thread := .powerOn straps.heads, heads := .powerOn straps.heads,
    ev := .powerOn raws estopRaw cause, link := .powerOn }

/-- The levels the model gives the condition input lines before anything changes them: each at the inactive level of its
mode (R161). DESIGN CHOICE, log entry 1. -/
def restingLines : List Bool :=
  List.replicate 12 true ++ List.replicate 12 false ++ List.replicate 8 true

/-- The machine right after a power-on reset with every strap pin at 0, nothing in the serial RAM, the drives ready, the
shaft at rest, the code lines reading 0, every input line inactive and the E-STOP line high. The line and pin levels are
DESIGN CHOICE, log entry 1. -/
def State.reset : State :=
  .powerOn (.sample 0 0 0) [] true true true true 0 restingLines true .power

end Sys2Proof.Machine
end

