-- ==== Sys2Proof/Machine/Operands.lean ====
section
/-! DEFINITION. The forms of request fields and reply details: clamping, masks, the codes of enumerated values and the
bytes in which each kind of value is sent (R178, R179, R186). -/

namespace Sys2Proof.Machine

/-- R46 and its like: a value outside its range is clamped to the nearer end. -/
def clampNat (lo hi n : Nat) : Nat := max lo (min hi n)

/-- As `clampNat`, for signed values. -/
def clampInt (lo hi i : Int) : Int := max lo (min hi i)

/-- Whether a mask names entry `i`, counted from 0 (R178). -/
def maskHas (mask i : Nat) : Bool := mask.testBit i

/-- Whether a head mask names a head above the head count (R139, R145, R146). -/
def maskAbove (heads mask : Nat) : Bool := decide (2 ^ heads ≤ mask)

/-- The mask whose bit `i` is entry `i` of a list. -/
def maskOf : List Bool → Nat
  | [] => 0
  | b :: bs => (if b then 1 else 0) + 2 * maskOf bs

/-- R178: a yes/no, on/off or set/clear field. -/
def flagField (n : Nat) : Option Bool :=
  match n with
  | 0 => some false
  | 1 => some true
  | _ => none

/-! ### Bytes of a reply or notice detail (R178) -/

/-- One byte. -/
def b1 (n : Nat) : List Byte := leBytes 1 n

/-- Two bytes. -/
def b2 (n : Nat) : List Byte := leBytes 2 n

/-- Four bytes. -/
def b4 (n : Nat) : List Byte := leBytes 4 n

/-- A yes/no, on/off or set/clear value. -/
def bFlag (b : Bool) : List Byte := b1 (if b then 1 else 0)

/-- A one-byte field that may be absent: all ones. -/
def o1 (n : Option Nat) : List Byte := b1 (n.getD 0xFF)

/-- A two-byte field that may be absent. -/
def o2 (n : Option Nat) : List Byte := b2 (n.getD 0xFFFF)

/-- A four-byte field that may be absent. -/
def o4 (n : Option Nat) : List Byte := b4 (n.getD 0xFFFFFFFF)

/-- The four values of a rectangle, two bytes each. -/
def bBox (b : Box) : List Byte := sBytes2 b.xmin ++ sBytes2 b.xmax ++ sBytes2 b.ymin ++ sBytes2 b.ymax

/-! ### Codes of enumerated values: the position in the list of the rule that defines the field (R178) -/

/-- R4. -/
def RecKind.code : RecKind → Nat
  | .stitch => 0
  | .jump => 1
  | .trim => 2
  | .stop => 3
  | .endRec => 4

/-- R186: the kind a record's byte 0 names. -/
def RecKind.ofCode : Nat → Option RecKind
  | 0 => some .stitch
  | 1 => some .jump
  | 2 => some .trim
  | 3 => some .stop
  | 4 => some .endRec
  | _ => none

/-- R1; EMPTY is 0. -/
def DesignState.code : DesignState → Nat
  | .loading => 1
  | .ready => 2
  | .failed => 3

/-- R22. -/
def PauseReason.code : PauseReason → Nat
  | .hostStop => 0
  | .buttonStop => 1
  | .colourPause => 2
  | .breakStop => 3
  | .bobbinStop => 4
  | .passEmpty => 5
  | .recovered => 6

/-- R22. -/
def HaltCause.code : HaltCause → Nat
  | .halt => 0
  | .estop => 1
  | .shaft => 2
  | .axis => 3
  | .needleCase => 4
  | .overrun => 5
  | .design => 6

/-- R22. -/
def PlayerState.code : PlayerState → Nat
  | .idle => 0
  | .armed => 1
  | .running => 2
  | .stopping => 3
  | .changing => 4
  | .returning => 5
  | .paused _ => 6
  | .starved => 7
  | .finished => 8
  | .halted _ => 9

/-- R186: the reason of PAUSED or the cause of HALTED. -/
def PlayerState.reason : PlayerState → Option Nat
  | .paused r => some r.code
  | .halted c => some c.code
  | .idle => none
  | .armed => none
  | .running => none
  | .stopping => none
  | .changing => none
  | .returning => none
  | .starved => none
  | .finished => none

/-- R23. -/
def PassMode.code : PassMode → Nat
  | .normal => 0
  | .repair => 1

/-- R116. -/
def ChangeSource.code : ChangeSource → Nat
  | .start => 0
  | .stopRecord => 1
  | .resume => 2
  | .pass => 3
  | .direct => 4

/-- R67. -/
def ShaftState.code : ShaftState → Nat
  | .off => 0
  | .held => 1
  | .offPosition => 2
  | .turning => 3
  | .positioning => 4
  | .braking => 5
  | .fault => 6

/-- R75. -/
def ShaftCause.code : ShaftCause → Nat
  | .drive => 0
  | .stall => 1
  | .index => 2
  | .reverse => 3
  | .position => 4

/-- R79. -/
def OutMode.code : OutMode → Nat
  | .auto => 0
  | .forceOn => 1
  | .forceOff => 2
  | .float => 3

/-- R84: the mode a code names. -/
def OutMode.ofCode : Nat → Option OutMode
  | 0 => some .auto
  | 1 => some .forceOn
  | 2 => some .forceOff
  | 3 => some .float
  | _ => none

/-- R79. -/
def Polarity.code : Polarity → Nat
  | .activeHigh => 0
  | .activeLow => 1

/-- R84: the polarity a code names. -/
def Polarity.ofCode : Nat → Option Polarity
  | 0 => some .activeHigh
  | 1 => some .activeLow
  | _ => none

/-- R186. -/
def Owner.code : Owner → Nat
  | .none => 0
  | .player => 1
  | .positioner => 2

/-- R186. -/
def MoveOp.code : MoveOp → Nat
  | .go => 0
  | .home => 1
  | .trace => 2
  | .park => 3
  | .leadIn => 4
  | .returnMove => 5

/-- R88, R186: the kinds of move an AXIS_FAULT names, SEWING 0 to PARK 6. -/
def MoveOp.faultCode : MoveOp → Nat
  | .leadIn => 1
  | .returnMove => 2
  | .go => 3
  | .home => 4
  | .trace => 5
  | .park => 6

/-- R186. -/
def AxisCause.code : AxisCause → Nat
  | .driveX => 0
  | .driveY => 1
  | .limitXN => 2
  | .limitXP => 3
  | .limitYN => 4
  | .limitYP => 5
  | .homeNotFound => 6
  | .homeStuck => 7

/-- R186. -/
def AbortCause.code : AbortCause → Nat
  | .axis c => c.code
  | .halt => 8
  | .shaft => 9
  | .estop => 10
  | .restart => 11
  | .needleCase => 12
  | .design => 13
  | .overrun => 14

/-- R106. -/
def CaseState.code : CaseState → Nat
  | .idle => 0
  | .moving => 1
  | .settling => 2
  | .fault => 3

/-- R106, R186. -/
def CaseCause.code : CaseCause → Nat
  | .timeout => 0
  | .overshoot => 1
  | .away => 2
  | .shaftMoved => 3
  | .drift => 4

/-- R106: the requester, PLAYER 0 or DIRECT 1. -/
def CaseJob.requesterCode (j : CaseJob) : Nat := if j.source = .direct then 1 else 0

/-- R124. -/
def BreakPolicy.code : BreakPolicy → Nat
  | .exclude => 0
  | .stop => 1

/-- R124. -/
def BobbinPolicy.code : BobbinPolicy → Nat
  | .notify => 0
  | .stop => 1

/-- R134. -/
def Verdict.code : Verdict → Nat
  | .normal => 0
  | .low => 1
  | .high => 2

/-- R129. -/
def RunKind.code : RunKind → Nat
  | .low => 0
  | .high => 1

/-- R186. -/
def Condition.code : Condition → Nat
  | .ok => 0
  | .broken => 1
  | .repairing => 2

/-- R186. -/
def Role.code : Role → Nat
  | .none => 0
  | .waiting => 1
  | .active => 2

/-- R186. -/
def BreakCause.code : BreakCause → Nat
  | .break => 0
  | .tangle => 1
  | .bobbin => 2

/-- R161. -/
def InputMode.code : InputMode → Nat
  | .levelHigh => 0
  | .levelLow => 1
  | .rising => 2
  | .falling => 3
  | .both => 4

/-- R164: the mode a code names. -/
def InputMode.ofCode : Nat → Option InputMode
  | 0 => some .levelHigh
  | 1 => some .levelLow
  | 2 => some .rising
  | 3 => some .falling
  | 4 => some .both
  | _ => none

/-- R171, R186. -/
def ResetCause.code : ResetCause → Nat
  | .power => 0
  | .line => 1
  | .request => 2

/-- The status codes of R179. -/
inductive Status where
  | ok
  | unknownType
  | badLength
  | badValue
  | wrongState
  | busy
  | inUse
  | noSpace
  | notFound
  | outOfOrder
  | badRecord
  | countShort
  | mismatch
  | outOfField
  | notHomed
  deriving DecidableEq, Repr

/-- R179. -/
def Status.code : Status → Nat
  | .ok => 0
  | .unknownType => 1
  | .badLength => 2
  | .badValue => 3
  | .wrongState => 4
  | .busy => 5
  | .inUse => 6
  | .noSpace => 7
  | .notFound => 8
  | .outOfOrder => 9
  | .badRecord => 10
  | .countShort => 11
  | .mismatch => 12
  | .outOfField => 13
  | .notHomed => 14

/-- R179: a reply's payload, its status and then its detail. -/
def replyOf (st : Status) (detail : List Byte) : List Byte := b1 st.code ++ detail

end Sys2Proof.Machine
end

