-- ==== Sys2Proof/Machine/Ops.lean ====
section
/-! DEFINITION. The shared operations over the state: changing one block, changing one entry of a list, reading and
writing the serial RAM, the check of a frame (R173), and taking the free choices. -/

namespace Sys2Proof.Machine

/-- Changes entry `i` of a list; a list without that entry stays as it is. -/
def updAt {α : Type} : Nat → (α → α) → List α → List α
  | _, _, [] => []
  | 0, f, a :: l => f a :: l
  | n + 1, f, a :: l => a :: updAt n f l

/-- Changes every entry of a list by its place, counted from `n`. -/
def mapFrom {α β : Type} (n : Nat) (f : Nat → α → β) : List α → List β
  | [] => []
  | a :: l => f n a :: mapFrom (n + 1) f l

/-- Each block has one way in which it is changed. -/
def State.modStore (s : State) (f : Store → Store) : State := { s with store := f s.store }
/-- Changes the player. -/
def State.modPlayer (s : State) (f : Player → Player) : State := { s with player := f s.player }
/-- Changes the governor. -/
def State.modGov (s : State) (f : Governor → Governor) : State := { s with gov := f s.gov }
/-- Changes the shaft unit. -/
def State.modShaft (s : State) (f : Shaft → Shaft) : State := { s with shaft := f s.shaft }
/-- Changes the actuator outputs. -/
def State.modOuts (s : State) (f : Outputs → Outputs) : State := { s with outs := f s.outs }
/-- Changes the frame unit. -/
def State.modFrame (s : State) (f : Frame → Frame) : State := { s with frame := f s.frame }
/-- Changes the needle case unit. -/
def State.modCase (s : State) (f : NeedleCase → NeedleCase) : State := { s with nc := f s.nc }
/-- Changes the thread monitor. -/
def State.modThread (s : State) (f : Thread → Thread) : State := { s with thread := f s.thread }
/-- Changes the head and repair unit. -/
def State.modHeads (s : State) (f : Heads → Heads) : State := { s with heads := f s.heads }
/-- Changes the input and event unit. -/
def State.modEv (s : State) (f : Events → Events) : State := { s with ev := f s.ev }
/-- Changes the link interface. -/
def State.modLink (s : State) (f : Link → Link) : State := { s with link := f s.link }

/-! ### The serial RAM -/

/-- A byte of the serial RAM; one that nothing has written reads as 0. DESIGN CHOICE, log entry 2. -/
def memRead : List Host.Cell → Nat → Byte
  | [], _ => 0
  | (k, v) :: m, a => if k = a then v else memRead m a

/-- Writes a byte and keeps the canonical form: addresses strictly rising, no byte listed that reads as 0. -/
def memWrite : List Host.Cell → Nat → Byte → List Host.Cell
  | [], a, b => if b = 0 then [] else [(a, b)]
  | (k, v) :: m, a, b =>
      if a < k then (if b = 0 then (k, v) :: m else (a, b) :: (k, v) :: m)
      else if a = k then (if b = 0 then m else (a, b) :: m)
      else (k, v) :: memWrite m a b

/-- The canonical form: addresses strictly rising, and no entry equal to what an unlisted address reads as. -/
def memWf : List Host.Cell → Bool
  | [] => true
  | (k, v) :: m =>
      v != 0 && (match m with | [] => true | (k', _) :: _ => decide (k < k')) && memWf m

/-! ### The frame check (R173) -/

/-- One of the eight steps of R173. -/
def checkBit (r : BitVec 16) : BitVec 16 := if r.msb then (r <<< 1) ^^^ 0x1021 else r <<< 1

/-- One byte of R173. -/
def checkByte (r : BitVec 16) (b : Byte) : BitVec 16 :=
  checkBit (checkBit (checkBit (checkBit (checkBit (checkBit (checkBit (checkBit (r ^^^ (b.setWidth 16 <<< 8)))))))))

/-- R173: the check value of a run of bytes. -/
def frameCheck (bytes : List Byte) : BitVec 16 := bytes.foldl checkByte 0xFFFF

/-- R173: the bytes over which CHECK is computed. -/
def LinkFrame.checked (f : LinkFrame) : List Byte := b2 f.payload.length ++ b1 f.ty ++ f.payload

/-- R173, R186: a frame as its bytes on the line. -/
def LinkFrame.bytes (f : LinkFrame) : List Byte := 0xC3 :: f.checked ++ b2 (frameCheck f.checked).toNat

/-- Whether the E-STOP line is asserted: its filtered level is low (R167). While the RESET line holds the part, the line
itself is looked at (R182). -/
def State.estop (s : State) : Bool := if s.resetHeld then !s.ev.estopRaw else s.ev.estop == some false

/-! ### Input levels (R161, R162) -/

/-- R161: the active level of a mode. -/
def InputMode.activeHigh : InputMode → Bool
  | .levelHigh => true
  | .rising => true
  | .both => true
  | .levelLow => false
  | .falling => false

/-- R161: the two level modes. -/
def InputMode.isLevel : InputMode → Bool
  | .levelHigh => true
  | .levelLow => true
  | .rising => false
  | .falling => false
  | .both => false

/-- R161: active while the filtered level equals the active level; inactive until a first level is taken (R162). -/
def Input.isActive (i : Input) : Bool := i.level == some i.mode.activeHigh

/-- R162: the filtered level, standing at the inactive level of the mode until a first one is taken. -/
def Input.levelNow (i : Input) : Bool := i.level.getD (!i.mode.activeHigh)

/-- The active state of condition input `n`. -/
def State.inputActive (s : State) (n : Nat) : Bool := (s.ev.inputs[n]?.map Input.isActive).getD false

/-- Whether a LIMIT input stands at its active level (R44). -/
def State.anyLimit (s : State) : Bool := s.inputActive 26 || s.inputActive 27 || s.inputActive 28 || s.inputActive 29

end Sys2Proof.Machine
end

