-- ==== Sys2Proof/Machine/Case.lean ====
section
/-! DEFINITION. The needle case unit by itself: the start of a move, the judgement of a case position, and the ending of
moves in flight and kept requests (R105 to R111). Faults and completions, which reach other blocks, are in Halt.lean,
ShaftEvents.lean and Chain.lean. -/

namespace Sys2Proof.Machine

/-- R107: the start reference of a move. -/
def NeedleCase.reference (c : NeedleCase) : Option Nat := if c.pos = 0 then c.lastSeen else some c.pos

/-- R107: the direction of a move (true is UP). -/
def NeedleCase.direction (c : NeedleCase) (target : Nat) : Bool :=
  match c.reference with
  | none => true
  | some r => if r < target then true else if target < r then false else !(c.dirUp.getD true)

/-- R107: the timeout of a move, in ms. -/
def NeedleCase.timeout (c : NeedleCase) (needles target : Nat) : Nat :=
  let d := match c.reference with
    | none => needles - 1
    | some r => if r = target then 1 else (max target r - min target r)
  300 + 120 * d

/-- R107: a move begins with its drive energised. -/
def NeedleCase.energise (c : NeedleCase) (needles : Nat) (j : CaseJob) : NeedleCase :=
  { c with
    state := .moving
    job := some j
    overshoot := 0
    dirUp := some (c.direction j.target)
    timer := c.timeout needles j.target
    settle := 0
    kept := none }

/-- R116: the unit after a completion; the last drive direction is kept. -/
def NeedleCase.complete (c : NeedleCase) : NeedleCase :=
  { c with state := .idle, job := none, overshoot := 0, timer := 0, settle := 0 }

/-- R111: drive off; a move in flight ends in IDLE with no completion. That its overshoot count and timers are cleared with
it is the model's reading (DEDUCED, log entry 42). -/
def NeedleCase.endMove (c : NeedleCase) : NeedleCase :=
  match c.state with
  | .moving => c.complete
  | .settling => c.complete
  | .idle => c
  | .fault => c

/-- R111: the move in flight ends and a kept request is dropped. -/
def NeedleCase.abandon (c : NeedleCase) : NeedleCase := { c.endMove with kept := none }

/-- R112: drive off, FAULT with its cause; target, requester and kept request become none. That the overshoot count and
the timers are cleared with them is the model's reading (DEDUCED, log entry 42). -/
def NeedleCase.fail (c : NeedleCase) (cause : CaseCause) : NeedleCase :=
  { c with state := .fault, job := none, overshoot := 0, timer := 0, settle := 0, kept := none, cause := some cause }

/-- R112: FAULT is left for IDLE, the position taken from the code as it then reads. -/
def NeedleCase.clearFault (c : NeedleCase) (needles : Nat) : NeedleCase :=
  match c.state with
  | .fault => { c with state := .idle, cause := none, pos := casePosition needles c.code }
  | .idle => c
  | .moving => c
  | .settling => c

/-- R105: a needle position is recorded as the last seen needle. -/
def NeedleCase.see (c : NeedleCase) : NeedleCase := if c.pos = 0 then c else { c with lastSeen := some c.pos }

/-- What a case position means for the move in flight (R108, R109). -/
inductive Judgement where
  | arrival
  | overshoot
  | blind
  | away
  | approach
  deriving DecidableEq, Repr

/-- R108: a needle position `c` judged against the target, the drive direction and the last seen needle. `blind` is the
first position above the target of a move whose reference was unknown. -/
def judge (up : Bool) (target : Nat) (lastSeen : Option Nat) (c : Nat) : Judgement :=
  if c = target then .arrival
  else
    match lastSeen with
    | none => if up then (if target < c then .blind else .approach) else (if c < target then .blind else .approach)
    | some l =>
        if up then (if target < c then .overshoot else if c < l then .away else .approach)
        else (if c < target then .overshoot else if l < c then .away else .approach)

/-- R108: SETTLING for 40 ms, the timeout timer paused. -/
def NeedleCase.settleAt (c : NeedleCase) : NeedleCase := { c with state := .settling, settle := 40 }

/-- R108, R109: the one overshoot of a move: the direction is reversed and the drive goes on. -/
def NeedleCase.turnBack (c : NeedleCase) : NeedleCase :=
  { c with state := .moving, overshoot := 1, dirUp := c.dirUp.map (! ·), settle := 0 }

/-- R109: the case bounced back short of the target: MOVING again in the same direction. -/
def NeedleCase.driveOn (c : NeedleCase) : NeedleCase := { c with state := .moving, settle := 0 }

/-- The needle a move in flight goes to (0 when there is none). -/
def NeedleCase.target (c : NeedleCase) : Nat := (c.job.map CaseJob.target).getD 0

/-- Whether a direct move is in flight or kept (R114). -/
def NeedleCase.directBusy (c : NeedleCase) : Bool :=
  (c.job.map fun j => j.source == .direct).getD false || (c.kept.map fun j => j.source == .direct).getD false

/-- R110, R109: one millisecond of the running timers: the timeout timer in MOVING, the settle timer in SETTLING. -/
def NeedleCase.tick (c : NeedleCase) : NeedleCase :=
  match c.state with
  | .moving => { c with timer := c.timer - 1 }
  | .settling => { c with settle := c.settle - 1 }
  | .idle => c
  | .fault => c

end Sys2Proof.Machine
end

