-- ==== Sys2Proof/Machine/Flags.lean ====
section
/-! DEFINITION. The sixteen event flags, their latching, and the notices it offers (R168 to R170, R176). -/

namespace Sys2Proof.Machine

/-- The event flags in the order of R168. -/
inductive Event where
  | designReady
  | designFailed
  | playerState
  | colourDone
  | headBreak
  | bobbinLow
  | repairDone
  | moveOverrun
  | shaftFault
  | axisFault
  | caseFault
  | fieldLimit
  | input
  | estop
  | linkError
  | frameDone
  deriving DecidableEq, Repr

/-- R168: the flag's number, its bit in every event mask. -/
def Event.number : Event → Nat
  | .designReady => 0
  | .designFailed => 1
  | .playerState => 2
  | .colourDone => 3
  | .headBreak => 4
  | .bobbinLow => 5
  | .repairDone => 6
  | .moveOverrun => 7
  | .shaftFault => 8
  | .axisFault => 9
  | .caseFault => 10
  | .fieldLimit => 11
  | .input => 12
  | .estop => 13
  | .linkError => 14
  | .frameDone => 15

/-- The mask of one flag. -/
def Event.bit (e : Event) : BitVec 16 := 1#16 <<< e.number

/-- R186: the frame in which a notice is sent. -/
def Notice.frame (n : Notice) : LinkFrame := ⟨0xF0, b1 n.flag ++ b1 n.detail.length ++ n.detail⟩

/-- R176: an idle transmitter chooses its next frame: the reply that has not been sent, else the oldest notice, which
leaves the queue as its sending begins. -/
def Link.choose (l : Link) : Link :=
  match l.transmitter with
  | .idle =>
      match l.reply with
      | some f => { l with transmitter := .reply f }
      | none =>
          match l.notices with
          | n :: rest => { l with transmitter := .notice n.frame, notices := rest }
          | [] => l
  | .reply _ => l
  | .notice _ => l

/-- R170: a notice offered while the queue holds 8 is lost. While a request is being answered its reply goes first, so
the transmitter does not choose (R176). -/
def Link.offer (n : Notice) (l : Link) : Link :=
  let l' := if l.notices.length < 8 then { l with notices := l.notices ++ [n] } else l
  if l'.taking then l' else l'.choose

/-- R168, R169: a flag latches; a subscribed flag offers a notice with the detail, also when it was set before. -/
def State.latch (s : State) (e : Event) (detail : List Byte) : State :=
  let s' := s.modEv fun v => { v with flags := v.flags ||| e.bit }
  if s.ev.subscribed &&& e.bit ≠ 0 then s'.modLink (Link.offer ⟨e.number, detail⟩) else s'

end Sys2Proof.Machine
end

