-- ==== Sys2Proof/Machine/Frame.lean ====
section
/-! DEFINITION. The frame unit: positions and trust, ownership and lending, the profile of held-shaft moves, the ending
of moves and FRAME_DONE, and the hoop clamping (R87 to R103). -/

namespace Sys2Proof.Machine

/-! ### Positions (R87) -/

/-- R87: a position count after `n` steps in a direction; the count stays at the end of its range. -/
def stepCount (p : Int) (negative : Bool) (n : Nat) : Int :=
  clampInt (-262143) 262143 (if negative then p - n else p + n)

/-- R87: whether those steps would take the count beyond its range. -/
def beyondRange (p : Int) (negative : Bool) (n : Nat) : Bool :=
  if negative then decide (p - n < -262143) else decide (262143 < p + n)

/-- R87: steps emitted on the X axis. -/
def Frame.stepX (f : Frame) (negative : Bool) (n : Nat) : Frame :=
  { f with x := stepCount f.x negative n, known := f.known && !beyondRange f.x negative n }

/-- R87: steps emitted on the Y axis. -/
def Frame.stepY (f : Frame) (negative : Bool) (n : Nat) : Frame :=
  { f with y := stepCount f.y negative n, known := f.known && !beyondRange f.y negative n }

/-- Steps emitted on an axis. -/
def Frame.step (f : Frame) (a : Axis) (negative : Bool) (n : Nat) : Frame :=
  match a with
  | .x => f.stepX negative n
  | .y => f.stepY negative n

/-! ### Ownership (R94, R96) -/

/-- R94: the player takes the frame. -/
def Frame.take (f : Frame) : Frame := { f with owner := .player, lent := false, after := .keep }

/-- A move is in flight for the player: one that slows to a stop, or the owed steps of an overrun. -/
def State.playerMoveInFlight (s : State) : Bool := s.frame.owner == .player && (s.frame.move.isSome || s.gov.move.isSome)

/-- R94: the player lends the frame, at once or when the move in flight has stopped or been abandoned. -/
def State.lend (s : State) : State :=
  match s.frame.owner with
  | .player =>
      if s.playerMoveInFlight then s.modFrame fun f => { f with after := .lend } else s.modFrame fun f => { f with lent := true }
  | .positioner => s
  | .none => s

/-- R94: the player releases the frame at DISARM. -/
def State.release (s : State) : State :=
  match s.frame.owner with
  | .player =>
      if s.playerMoveInFlight then s.modFrame fun f => { f with after := .release }
      else s.modFrame fun f => { f with owner := .none, lent := false }
  | .positioner => s.modFrame fun f => { f with lent := false }
  | .none => s

/-- R94, R96: the owner once no move is in flight: a positioner operation gives the frame back, a player's move that was
being stopped lends or releases it. -/
def Frame.settleOwner (f : Frame) : Frame :=
  match f.owner with
  | .positioner => if f.lent then { f with owner := .player, after := .keep } else { f with owner := .none, after := .keep }
  | .player =>
      match f.after with
      | .keep => f
      | .lend => { f with lent := true, after := .keep }
      | .release => { f with owner := .none, lent := false, after := .keep }
  | .none => { f with after := .keep }

/-- The governor abandons its current move (R62), and a lending that waited for it is made (R94). -/
def State.abandonSewing (s : State) : State :=
  match s.gov.move with
  | some _ => (s.modGov fun g => { g with move := none }).modFrame fun f => if f.move.isNone then f.settleOwner else f
  | none => s

/-! ### Ending a move (R93, R96, R97) -/

/-- The operation a frame move belongs to. -/
def FrameMove.op : FrameMove → MoveOp
  | .legs op _ _ _ => op
  | .homing _ _ => .home

/-- R96, R97: the move in flight ends: the owner goes back and FRAME_DONE latches with its result. -/
def State.finishMove (s : State) (abort : Option AbortCause) : State :=
  match s.frame.move with
  | some m =>
      let s' := s.modFrame fun f => { f with move := none }.settleOwner
      s'.latch .frameDone
        (b1 m.op.code ++ bFlag abort.isSome ++ o1 (abort.map AbortCause.code) ++ sBytes4 s'.frame.x ++ sBytes4 s'.frame.y)
  | none => s

/-- R93: a move ends by slowing down: at 2,000 steps per second it stops at once; a homing never runs faster. The legs
that would have followed are kept while it slows, so that a trace still reports the leg it is in (R103). -/
def State.slowMove (s : State) (cause : AbortCause) : State :=
  match s.frame.move with
  | some (.legs op leg rest none) =>
      if leg.rateSq ≤ 4000000 then s.finishMove (some cause)
      else s.modFrame fun f => { f with move := some (.legs op leg rest (some cause)) }
  | some (.legs _ _ _ (some _)) => s
  | some (.homing _ _) => s.finishMove (some cause)
  | none => s

/-- R93: the shaft enters POSITIONING or TURNING while a positioner operation is in flight. -/
def State.slowPositioner (s : State) (cause : AbortCause) : State :=
  if s.frame.owner = .positioner then s.slowMove cause else s

/-- Whether the move in flight is other than a homing: its steps owed are lost when its generators stop at once (R93). -/
def FrameMove.losesSteps : FrameMove → Bool
  | .legs _ _ _ _ => true
  | .homing _ _ => false

/-- R93: E-STOP and RESTART stop every generator at once; trust becomes UNKNOWN if a move with a step still owed was
stopped, and stays as it was for a homing. -/
def State.stopFrame (s : State) (cause : AbortCause) : State :=
  let lost := s.gov.move.isSome || (s.frame.move.map FrameMove.losesSteps).getD false
  ((s.modFrame fun f => { f with known := f.known && !lost }).finishMove (some cause)).abandonSewing

/-! ### The held-shaft profile (R92) -/

/-- R92: the leading axis, X when the totals are equal. -/
def Leg.leads (l : Leg) : Axis := if l.ny ≤ l.nx then .x else .y

/-- R92: the straight move from one position to another. -/
def Leg.between (x y tx ty : Int) : Leg :=
  { nx := (tx - x).natAbs, ny := (ty - y).natAbs, xNeg := decide (tx < x), yNeg := decide (ty < y), ex := 0, ey := 0,
    rateSq := 4000000 }

/-- A move whose totals are both 0. -/
def Leg.isEmpty (l : Leg) : Bool := l.nx == 0 && l.ny == 0

/-- R92: steps of the other axis due with step `m` of the leading axis: step j goes out with step ceil(j × lead / other). -/
def withLead (m lead other : Nat) : Nat := if lead = 0 then 0 else m * other / lead

/-- R92: the steps the leading axis needs to slow from a rate to 2,000 steps per second. -/
def slowSteps (rateSq : Nat) : Nat := (rateSq - 4000000 + 199999) / 200000

/-- R92, R93: the square of the rate after a step. A rate that rises by 100 steps per second in each millisecond rises by
200,000 in its square with each step. DEDUCED, log entry 6. -/
def nextRateSq (rateSq owed rPos : Nat) (slowing : Bool) : Nat :=
  if slowing ∨ owed ≤ slowSteps rateSq then max 4000000 (rateSq - 200000) else min (rPos * rPos) (rateSq + 200000)

/-- R92: the leg after one step of its leading axis, with the steps of the other axis that go out with it. -/
def Leg.advance (l : Leg) (rPos : Nat) (slowing : Bool) : Leg :=
  match l.leads with
  | .x =>
      { l with ex := l.ex + 1, ey := withLead (l.ex + 1) l.nx l.ny, rateSq := nextRateSq l.rateSq (l.nx - (l.ex + 1)) rPos slowing }
  | .y =>
      { l with ey := l.ey + 1, ex := withLead (l.ey + 1) l.ny l.nx, rateSq := nextRateSq l.rateSq (l.ny - (l.ey + 1)) rPos slowing }

/-- R92: both axes have emitted their totals. -/
def Leg.done (l : Leg) : Bool := decide (l.nx ≤ l.ex ∧ l.ny ≤ l.ey)

/-- R92, R87: the positions after the steps that took a leg from one state to the next. -/
def Frame.follow (f : Frame) (l l' : Leg) : Frame := (f.stepX l.xNeg (l'.ex - l.ex)).stepY l.yNeg (l'.ey - l.ey)

/-- The first of the legs to these targets, from a position, that has a step to make, with the targets that remain. -/
def firstLeg (x y : Int) : List (Int × Int) → Option (Leg × List (Int × Int))
  | [] => none
  | t :: rest => if (Leg.between x y t.1 t.2).isEmpty then firstLeg x y rest else some (Leg.between x y t.1 t.2, rest)

/-- R92, R101: the frame unit begins a run of legs; legs of zero length complete without a step. The move in flight is
set even when every leg is empty, so that `finishMove` reports it. -/
def Frame.beginLegs (f : Frame) (op : MoveOp) (targets : List (Int × Int)) : Frame :=
  match firstLeg f.x f.y targets with
  | some (leg, rest) => { f with move := some (.legs op leg rest none) }
  | none => { f with move := some (.legs op (Leg.between f.x f.y f.x f.y) [] none) }

/-- R92: a move in flight has made all its steps. -/
def FrameMove.complete : FrameMove → Bool
  | .legs _ leg rest slowing => leg.done && rest.isEmpty && slowing.isNone
  | .homing _ _ => false

/-! ### Targets (R91, R95) -/

/-- R91: a target clamped to a hoop field, in steps. -/
def clampTarget (b : Box) (t : Int × Int) : Int × Int :=
  (max (4 * b.xmin) (min (4 * b.xmax) t.1), max (4 * b.ymin) (min (4 * b.ymax) t.2))

/-- The active hoop's rectangle. -/
def Frame.hoopField (f : Frame) : Box := f.hoops.getD f.hoop fullTravel

/-- R91: a positioner target is clamped to the active hoop when trust is KNOWN. -/
def Frame.clampTo (f : Frame) (t : Int × Int) : Int × Int := if f.known then clampTarget f.hoopField t else t

/-- R88, R97: the LIMIT input, if active, toward which a leg's first step on either axis would go. -/
def State.limitAhead (s : State) (l : Leg) : Option AxisCause :=
  if l.nx ≠ 0 ∧ l.xNeg ∧ s.inputActive 26 then some .limitXN
  else if l.nx ≠ 0 ∧ !l.xNeg ∧ s.inputActive 27 then some .limitXP
  else if l.ny ≠ 0 ∧ l.yNeg ∧ s.inputActive 28 then some .limitYN
  else if l.ny ≠ 0 ∧ !l.yNeg ∧ s.inputActive 29 then some .limitYP
  else none

/-- The HOME input of an axis stands at its active level (R99). -/
def State.homeActive (s : State) (a : Axis) : Bool :=
  match a with
  | .x => s.inputActive 30
  | .y => s.inputActive 31

/-- An axis's home direction, true for POSITIVE (R102). -/
def FrameSettings.homePositive (f : FrameSettings) (a : Axis) : Bool :=
  match a with
  | .x => f.dirX
  | .y => f.dirY

/-- R95, R99: a homing's first step on an axis: away from the switch if it stands active, else toward it; the LIMIT
input at that end of travel stands active. -/
def State.homeBlocked (s : State) (a : Axis) : Bool :=
  let positive := if s.homeActive a then !s.frame.settings.homePositive a else s.frame.settings.homePositive a
  match a with
  | .x => if positive then s.inputActive 27 else s.inputActive 26
  | .y => if positive then s.inputActive 29 else s.inputActive 28

end Sys2Proof.Machine
end

