-- ==== Sys2Proof/Machine/Governor.lean ====
section
/-! DEFINITION. The speed governor: the settings and their clamping, windows, profile, acceptance, record limits, the
commanded speed, the stop position and the steps due at an angle (R46 to R63). -/

namespace Sys2Proof.Machine

/-! ### Settings (R46) -/

/-- The thirteen settings as a list, in the order of R46. -/
def Motion.toList (m : Motion) : List Nat :=
  [m.e, m.x, m.go, m.gc, m.wj, m.rMax, m.sMax, m.sStart, m.sStop, m.up, m.dn, m.sTrim, m.sJump]

/-- R46, R51: thirteen values, each clamped to its range. -/
def Motion.clamped (l : List Nat) : Motion :=
  { e := clampNat 100 500 (l.getD 0 0), x := clampNat 600 950 (l.getD 1 0), go := clampNat 0 63 (l.getD 2 0),
    gc := clampNat 0 63 (l.getD 3 0), wj := clampNat 256 1008 (l.getD 4 0), rMax := clampNat 1000 40000 (l.getD 5 0),
    sMax := clampNat 200 1500 (l.getD 6 0), sStart := clampNat 60 400 (l.getD 7 0), sStop := clampNat 40 200 (l.getD 8 0),
    up := clampNat 10 200 (l.getD 9 0), dn := clampNat 10 300 (l.getD 10 0), sTrim := clampNat 60 600 (l.getD 11 0),
    sJump := clampNat 200 1500 (l.getD 12 0) }

/-! ### Windows (R47) -/

/-- W_open. -/
def Motion.wOpen (m : Motion) : Nat := m.x + m.go

/-- Wm: the raw stitch window rounded down to a multiple of 16. -/
def Motion.wm (m : Motion) : Nat := (1024 + m.e - (m.wOpen + m.gc)) / 16 * 16

/-- The effective jump window. -/
def Motion.wjEff (m : Motion) : Nat :=
  let w := m.wj / 16 * 16
  if 1024 + m.x - 16 < m.wOpen + w then (1024 + m.x - 16 - m.wOpen) / 16 * 16 else w

/-- The window of a record's kind; a TRIM, STOP or END has none. -/
def Motion.windowOf (m : Motion) : RecKind → Nat
  | .stitch => m.wm
  | .jump => m.wjEff
  | .trim => 0
  | .stop => 0
  | .endRec => 0

/-! ### Profile (R48) -/

/-- No point is lower than the one before it. -/
def rising : List Nat → Bool
  | [] => true
  | q :: l => (match l with | [] => true | q' :: _ => decide (q ≤ q')) && rising l

/-- R48: a well formed profile. -/
def profileOk (q : List Nat) : Bool := q.length == 17 && q.getD 0 1 == 0 && q.getD 16 0 == 256 && rising q

/-- R48: D, the steepest slice. -/
def steepest : List Nat → Nat
  | [] => 0
  | q :: l => (match l with | [] => 0 | q' :: _ => max (q' - q) (steepest l))

/-! ### Acceptance (R49) -/

/-- The conditions of R49, coded in their order. -/
inductive SetFault where
  | profile
  | window
  | longMove
  deriving DecidableEq, Repr

/-- R51, R52: the name of the failing condition. -/
def SetFault.code : SetFault → Nat
  | .profile => 0
  | .window => 1
  | .longMove => 2

/-- R49: the first condition the set fails. -/
def MotionSet.fault (s : MotionSet) : Option SetFault :=
  let m := s.motion
  let d := steepest s.profile
  if !profileOk s.profile then some .profile
  else if m.wm < 64 then some .window
  else if 60 * m.wm * m.rMax < 32512 * d * m.sStop ∨ 60 * m.wjEff * m.rMax < 32512 * d * m.sStop then some .longMove
  else none

/-- R50: whether writes go to the pending set in this player state. -/
def PlayerState.writesPending : PlayerState → Bool
  | .running => true
  | .stopping => true
  | .changing => true
  | .returning => true
  | .idle => false
  | .armed => false
  | .paused _ => false
  | .starved => false
  | .finished => false
  | .halted _ => false

/-- R50: the pending set, if its flag is set, becomes the active set. -/
def Governor.force (g : Governor) : Governor :=
  if g.pendingFlag then { g with active := g.pending, pendingFlag := false } else g

/-- R50: a write of settings or profile: the set it goes to, checked as it would stand after the write. Answers the
governor after it and the failing condition, with no set changed when there is one. -/
def Governor.write (g : Governor) (toPending : Bool) (f : MotionSet → MotionSet) : Governor × Option SetFault :=
  if toPending then
    let set := f (if g.pendingFlag then g.pending else g.active)
    match set.fault with
    | some c => (g, some c)
    | none => ({ g with pending := set, pendingFlag := true }, none)
  else
    let g' := g.force
    let set := f g'.active
    match set.fault with
    | some c => (g, some c)
    | none => ({ g' with active := set }, none)

/-! ### Record limits (R55) -/

/-- S_lim: S_max when N is 0. -/
def speedLimit (s : MotionSet) (window n : Nat) : Nat :=
  if n = 0 then s.motion.sMax else 60 * window * s.motion.rMax / (64 * n * steepest s.profile)

/-- R55: the limit L of a record with step totals nx and ny. -/
def recordLimit (s : MotionSet) (kind : RecKind) (nx ny : Nat) : Nat :=
  let m := s.motion
  match kind with
  | .stitch => min m.sMax (speedLimit s m.wm (max nx ny))
  | .jump => min (min m.sMax m.sJump) (speedLimit s m.wjEff (max nx ny))
  | .trim => min m.sMax m.sTrim
  | .stop => m.sStop
  | .endRec => m.sStop

/-- R28, R55: the queue entry of a record that joins the queue. -/
def queueEntry (s : MotionSet) (index block : Nat) (r : Record) : QueueEntry :=
  { index := index, kind := r.kind, dx := r.dx, dy := r.dy, nx := 4 * r.dx.natAbs, ny := 4 * r.dy.natAbs, block := block,
    limit := recordLimit s r.kind (4 * r.dx.natAbs) (4 * r.dy.natAbs) }

/-! ### The bound T and the commanded speed (R56 to R58) -/

/-- A STOP or END entry. -/
def QueueEntry.stops (e : QueueEntry) : Bool := e.kind == .stop || e.kind == .endRec

/-- R56, terms 1 and 2 for the queue from position j on: each entry's limit + j × Dn up to the first STOP or END, whose
term is S_stop + j × Dn; with none of them, S_stop + k × Dn for the k queued entries. S_stop is the active set's at the
boundary, for a STOP or END as for terms 2 and 3, not the limit that the entry joined with (DEDUCED, log entry 56). -/
def queueBound (m : Motion) : Nat → List QueueEntry → Nat
  | j, [] => m.sStop + j * m.dn
  | j, e :: q => if e.stops then m.sStop + j * m.dn else min (e.limit + j * m.dn) (queueBound m (j + 1) q)

/-- R56: T; the stop index adds term 3. -/
def speedBound (m : Motion) (queue : List QueueEntry) (stopIndex : Option Nat) : Nat :=
  let t := queueBound m 0 queue
  match stopIndex, queue with
  | some i, e :: _ => min t (m.sStop + (i - e.index) * m.dn)
  | _, _ => t

/-- R57: the stop position s. -/
def stopPosition (m : Motion) (cPrev : Nat) : Nat := max 1 ((cPrev - m.sStop + (m.dn - 1)) / m.dn)

/-- R58: the commanded speed; `first` at the first boundary after the shaft leaves HELD. -/
def commandedSpeed (m : Motion) (first : Bool) (sCmd cPrev bound : Nat) : Nat :=
  if first then min (min m.sStart sCmd) (min m.sMax bound) else min (min sCmd m.sMax) (min (cPrev + m.up) bound)

/-- R148: the speed of the pass-entry trim. -/
def entryTrimSpeed (m : Motion) (sCmd : Nat) : Nat :=
  min (min m.sStart sCmd) (min (min m.sMax m.sTrim) (m.sStop + m.dn))

/-! ### Step scheduling (R59) -/

/-- R59: the scaled profile value at offset a of a window of 16 slices of width w. -/
def scaledProfile (q : List Nat) (w a : Nat) : Nat :=
  let k := a / w
  if 16 ≤ k then 256 * w else q.getD k 0 * w + (q.getD (k + 1) 0 - q.getD k 0) * (a - k * w)

/-- R59, R60: how many of an axis's A steps are due at or before offset a. -/
def stepsDue (q : List Nat) (w total a : Nat) : Nat := min total (total * scaledProfile q w a / (256 * w))

/-- R60: the steps an axis emits within `t` µs when `owed` are due all that time, its generator being free in `wait` µs
and then every 20 µs, with the wait that remains. With `t` 0 it is what goes out at this moment. -/
def emitWithin (wait owed t : Nat) : Nat × Nat :=
  let n := if wait ≤ t then min owed ((t - wait) / 20 + 1) else 0
  (n, wait + 20 * n - t)

/-- R60: the steps an axis emits at a count that comes `t` µs after the count before it: first those that were due at that
count already, then those due at this one; with the wait that remains. At the overrun angle (`last`) the check waits for
the steps that become due there (R61), so these all go out if none before them is owed. -/
def emitAt (wait emitted dueBefore due t : Nat) (last : Bool) : Nat × Nat :=
  let a := emitWithin wait (dueBefore - emitted) t
  if last && decide (dueBefore - emitted ≤ a.1) then (a.1 + (due - emitted - a.1), 0)
  else
    let b := emitWithin a.2 (due - emitted - a.1) 0
    (a.1 + b.1, b.2)

/-- R59: the current move that a handed-over STITCH or JUMP with steps begins. -/
def beginMove (s : MotionSet) (e : QueueEntry) : Option SewMove :=
  if (e.kind = .stitch ∨ e.kind = .jump) ∧ (e.nx ≠ 0 ∨ e.ny ≠ 0) then
    some { index := e.index, kind := e.kind, nx := e.nx, ny := e.ny, xNeg := decide (e.dx < 0), yNeg := decide (e.dy < 0), ex := 0,
           ey := 0, window := s.motion.windowOf e.kind, slice := s.motion.windowOf e.kind / 16, profile := s.profile,
           waitX := 0, waitY := 0, overrun := false }
  else none

/-- R61: the angle at which a move of this kind is checked: the entry angle E for a STITCH, X − 16 for a JUMP, both in
the turn that follows TDC. -/
def overrunAngle (m : Motion) : RecKind → Nat
  | .jump => m.x - 16
  | .stitch => m.e
  | .trim => m.e
  | .stop => m.e
  | .endRec => m.e

/-- Both axes have emitted their totals. -/
def SewMove.done (v : SewMove) : Bool := decide (v.nx ≤ v.ex ∧ v.ny ≤ v.ey)

end Sys2Proof.Machine
end

