-- ==== Sys2Proof/Machine/Store.lean ====
section
/-! DEFINITION. The design store: the directory, the pages and their summaries, the stored records and what the store
answers about them, the block checks and the storing of a block, and the pins (R1 to R21). -/

namespace Sys2Proof.Machine

/-! ### The directory -/

/-- The entry that is not EMPTY and holds the number (R7). -/
def Store.find (st : Store) (number : Nat) : Option Design :=
  (st.dir.filterMap id).find? fun d => d.number == number

/-- Changes the entry that holds the number. -/
def Store.modDesign (st : Store) (number : Nat) (f : Design → Design) : Store :=
  { st with dir := st.dir.map fun o => o.map fun d => if d.number = number then f d else d }

/-- R6: puts a design in the lowest EMPTY slot. -/
def insertLowest (d : Design) : List (Option Design) → List (Option Design)
  | [] => []
  | none :: l => some d :: l
  | some e :: l => some e :: insertLowest d l

/-- Whether some slot is EMPTY. -/
def Store.hasEmpty (st : Store) : Bool := st.dir.any Option.isNone

/-! ### Pages (R2, R3) -/

/-- R2: a page goes back to its place in the ascending free list. -/
def insertPage (p : Nat) : List Nat → List Nat
  | [] => [p]
  | q :: l => if p ≤ q then p :: q :: l else q :: insertPage p l

/-- R2: the pages of a chain go back to the free list. -/
def freePages (chain : List ChainPage) (free : List Nat) : List Nat :=
  chain.foldl (fun l c => insertPage c.page l) free

/-- The address of a record slot in the serial RAM: three bytes a slot, 256 slots a page. The layout within the RAM is a
DESIGN CHOICE (log entry 2): no rule lets it be seen. -/
def slotAddress (page slot : Nat) : Nat := 768 * page + 3 * slot

/-- R9: a record's three bytes go into a slot. -/
def writeRecord (ram : List Host.Cell) (page slot : Nat) (r : RawRecord) : List Host.Cell :=
  let a := slotAddress page slot
  memWrite (memWrite (memWrite ram a r.kind) (a + 1) r.dx) (a + 2) r.dy

/-- R17: the record in a slot. Only bytes that passed R8 are stored, so the kind is always one of the five. -/
def readRecord (ram : List Host.Cell) (page slot : Nat) : Record :=
  let a := slotAddress page slot
  { kind := (RecKind.ofCode (memRead ram a).toNat).getD .stitch, dx := (memRead ram (a + 1)).toInt,
    dy := (memRead ram (a + 2)).toInt }

/-! ### What the store answers (R17 to R19) -/

/-- R17: record i, when it is stored. -/
def Store.record (st : Store) (d : Design) (i : Nat) : Option Record :=
  if i < d.stored then (d.chain[i / 256]?).map fun c => readRecord st.ram c.page (i % 256) else none

/-- The sum of the moves of the first `n` records of a page. -/
def pageSum (ram : List Host.Cell) (page : Nat) : Nat → Int × Int
  | 0 => (0, 0)
  | n + 1 =>
      let r := readRecord ram page n
      let p := pageSum ram page n
      (p.1 + r.dx, p.2 + r.dy)

/-- The number of STOP records among the first `n` records of a page. -/
def pageStops (ram : List Host.Cell) (page : Nat) : Nat → Nat
  | 0 => 0
  | n + 1 => pageStops ram page n + (if (readRecord ram page n).kind = .stop then 1 else 0)

/-- R18: position(i), in units. -/
def Store.position (st : Store) (d : Design) (i : Nat) : Int × Int :=
  if i < d.stored then
    match d.chain[i / 256]? with
    | some c =>
        let p := pageSum st.ram c.page (i % 256)
        (c.startX + p.1, c.startY + p.2)
    | none => (d.runX, d.runY)
  else (d.runX, d.runY)

/-- R19 for i below the stored count; the observed STOP count for i equal to it (R114, R152). -/
def Store.block (st : Store) (d : Design) (i : Nat) : Nat :=
  if i < d.stored then
    match d.chain[i / 256]? with
    | some c => c.startBlock + pageStops st.ram c.page (i % 256)
    | none => d.stops
  else d.stops

/-- The place after the `k`-th STOP record among the records `at`, `at + 1`, … (`n` of them) of a page; `k` counts from 1. -/
def scanStop (ram : List Host.Cell) (page : Nat) : Nat → Nat → Nat → Option Nat
  | 0, _, _ => none
  | n + 1, slot, k =>
      if (readRecord ram page slot).kind = .stop then
        (if k ≤ 1 then some (slot + 1) else scanStop ram page n (slot + 1) (k - 1))
      else scanStop ram page n (slot + 1) k

/-- R19: the first record of colour block b; none (not stored) when the STOP that opens it is not stored. The page
scanned is the highest-numbered chain position whose start colour block is below b. -/
def Store.firstOfBlock (st : Store) (d : Design) (b : Nat) : Option Nat :=
  if b = 0 then some 0
  else if d.stops < b then none
  else
    let before := d.chain.filter fun c => decide (c.startBlock < b)
    match before.getLast? with
    | some c =>
        (scanStop st.ram c.page c.held 0 (b - c.startBlock)).map fun n => 256 * (before.length - 1) + n
    | none => none

/-- Whether the design's END is stored: END is accepted only at the last declared index and required there (R11). -/
def Design.endStored (d : Design) : Bool := d.stored == d.declared

/-! ### Opening (R6) -/

/-- R186: bits 0 to 3 hold the needle, bit 7 the pause flag, bits 4 to 6 are 0; anything else names no needle. -/
def seqEntryOf (needles : Nat) (b : Byte) : Option SeqEntry :=
  let n := b.toNat % 16
  if b.toNat / 16 % 8 = 0 ∧ 1 ≤ n ∧ n ≤ needles then some ⟨n, b.msb⟩ else none

/-- R186: a sequence entry as its byte. -/
def SeqEntry.byte (e : SeqEntry) : Byte := BitVec.ofNat 8 (e.needle % 16 + if e.pause then 128 else 0)

/-- The sequence the bytes spell, when every entry names a needle. -/
def seqOf (needles : Nat) : List Byte → Option (List SeqEntry)
  | [] => some []
  | b :: bs =>
      match seqEntryOf needles b, seqOf needles bs with
      | some e, some es => some (e :: es)
      | _, _ => none

/-! ### Blocks (R7 to R10) -/

/-- The trial values that R8 advances record by record. -/
structure Trial where
  x : Int
  y : Int
  stops : Nat
  index : Nat
  deriving DecidableEq, Repr

/-- A position within a box, its edges included (R8). -/
def Box.holds (b : Box) (x y : Int) : Bool := decide (b.xmin ≤ x ∧ x ≤ b.xmax ∧ b.ymin ≤ y ∧ y ≤ b.ymax)

/-- R8: the first reason, in table order, for which the record is refused. -/
def recordReason (d : Design) (t : Trial) (r : RawRecord) : Option Nat :=
  let dx := r.dx.toInt
  let dy := r.dy.toInt
  match RecKind.ofCode r.kind.toNat with
  | none => some 1
  | some kind =>
      let moves := kind == .stitch || kind == .jump
      if dx = -128 ∨ dy = -128 then some 2
      else if !moves ∧ (dx ≠ 0 ∨ dy ≠ 0) then some 3
      else if d.declared ≤ t.index then some 4
      else if kind = .endRec ∧ t.index + 1 < d.declared then some 5
      else if kind ≠ .endRec ∧ t.index + 1 = d.declared then some 6
      else if kind = .stop ∧ d.blocks ≤ t.stops + 1 then some 7
      else if moves ∧ !d.box.holds (t.x + dx) (t.y + dy) then some 8
      else none

/-- R8: the trial values after a record that passed. -/
def Trial.advance (t : Trial) (r : RawRecord) : Trial :=
  { x := t.x + r.dx.toInt, y := t.y + r.dy.toInt, stops := t.stops + (if r.kind.toNat = 3 then 1 else 0), index := t.index + 1 }

/-- R8: the offset of the first failing record and its reason. -/
def blockReason (d : Design) (t : Trial) (offset : Nat) : List RawRecord → Option (Nat × Nat)
  | [] => none
  | r :: rs =>
      match recordReason d t r with
      | some reason => some (offset, reason)
      | none => blockReason d (t.advance r) (offset + 1) rs

/-- R8: the trial starts from the entry's running position, STOP count and stored count. -/
def Design.trial (d : Design) : Trial := { x := d.runX, y := d.runY, stops := d.stops, index := d.stored }

/-- R10: one of the eight steps for a byte. -/
def crcBit (r : BitVec 32) : BitVec 32 := if r.getLsbD 0 then (r >>> 1) ^^^ 0xEDB88320 else r >>> 1

/-- R10: one byte. -/
def crcByte (r : BitVec 32) (b : Byte) : BitVec 32 :=
  crcBit (crcBit (crcBit (crcBit (crcBit (crcBit (crcBit (crcBit (r ^^^ b.setWidth 32))))))))

/-- R10: the check value, the register combined with all ones. -/
def checkValue (r : BitVec 32) : BitVec 32 := r ^^^ 0xFFFFFFFF

/-- R9: whether a block of `n` records needs a new page. -/
def Design.needsPage (d : Design) (n : Nat) : Bool := d.stored % 256 == 0 || decide (256 < d.stored % 256 + n)

/-- R9: the chain with one record more in its last page. -/
def holdOneMore (chain : List ChainPage) : List ChainPage :=
  updAt (chain.length - 1) (fun c => { c with held := c.held + 1 }) chain

/-- R9: where the next record goes: the first of a new page takes the lowest free page and writes its summary. -/
def takeSlot (d : Design) (free : List Nat) : List ChainPage × List Nat :=
  if d.stored % 256 = 0 then
    match free with
    | p :: rest =>
        (d.chain ++ [{ page := p, startX := d.runX, startY := d.runY, startBlock := d.stops, held := 1 }], rest)
    | [] => (d.chain, [])
  else (holdOneMore d.chain, free)

/-- R9: one record of an accepted block is stored. -/
def storeOne (acc : Design × List Nat × List Host.Cell) (r : RawRecord) : Design × List Nat × List Host.Cell :=
  let d := acc.1
  let slot := takeSlot d acc.2.1
  let page := (slot.1.getLast?.map ChainPage.page).getD 0
  ({ d with
      chain := slot.1
      runX := d.runX + r.dx.toInt
      runY := d.runY + r.dy.toInt
      stops := d.stops + (if r.kind.toNat = 3 then 1 else 0)
      crc := r.bytes.foldl crcByte d.crc
      stored := d.stored + 1 },
   slot.2, writeRecord acc.2.2 page (d.stored % 256) r)

/-- R9: a whole block is stored and the next expected block number grows by 1. -/
def Store.storeBlock (st : Store) (d : Design) (rs : List RawRecord) : Store :=
  let acc := rs.foldl storeOne (d, st.free, st.ram)
  let d' := { acc.1 with nextBlock := d.nextBlock + 1 }
  { (st.modDesign d.number fun _ => d') with free := acc.2.1, ram := acc.2.2 }

/-! ### Pins (R16) -/

/-- R16, R143: the repair-referenced pin of the design is set exactly while some repair record names it. -/
def State.pinRepairs (s : State) : State :=
  match s.player.armed with
  | some n => s.modStore fun st => st.modDesign n fun d => { d with repairPin := s.heads.repairs.any fun r => r.design == n }
  | none => s

/-- The armed design's directory entry (R16: it is never EMPTY). -/
def State.armedDesign (s : State) : Option Design := s.player.armed.bind s.store.find

/-- R18 for the armed design. -/
def State.positionOf (s : State) (i : Nat) : Int × Int :=
  match s.armedDesign with
  | some d => s.store.position d i
  | none => (0, 0)

/-- R19, R114 for the armed design. -/
def State.blockOf (s : State) (i : Nat) : Nat :=
  match s.armedDesign with
  | some d => s.store.block d i
  | none => 0

/-- R17 for the armed design. -/
def State.recordOf (s : State) (i : Nat) : Option Record :=
  match s.armedDesign with
  | some d => s.store.record d i
  | none => none

end Sys2Proof.Machine
end

