-- ==== Sys2Proof/Config.lean ====
section
/-! DEFINITION. The free values: what the manual leaves open and the part nevertheless goes on with. Each is an
opaque constant, so that no proof can rest on a value of it. -/

namespace Sys2Proof.Config

/-- R176: at the end of a reply "the queue head may be taken, and the transmitter chooses its next frame. These may
come in either order." The n-th time the order matters, true says that the queue head is taken first. Log entry 3. -/
opaque takeFirst : Nat → Bool

/-- R95, R178: the whole-unit value in which the reply of FRAME_GO carries a target that is not a whole number of
units (a relative move from a position off the unit grid). The manual states no rounding. Log entry 4. -/
opaque offGridUnits : Int → Int

/-- R122 reads the profile entry "of the needle at which the case stands"; the manual gives no entry for a case that
stands between positions (position 0), as it may in the pass-entry trim of R148. Field number n of that entry: 0 is
monitor, 1 base, 2 k, 3 Rlo, 4 Rhi, 5 B, 6 F. Log entry 5. -/
opaque betweenProfile : Nat → Nat

end Sys2Proof.Config
end

