-- ==== Sys2Proof/Machine/Thread.lean ====
section
/-! DEFINITION. The thread monitor: the profile read, the feed window, the expected count, the verdict, the suspicion run
and the tie-in countdown (R122 to R130). What a declared break does is in Breaks.lean. -/

namespace Sys2Proof.Machine

/-- The profile entry of a case that stands between positions: free values within the ranges of R122. Log entry 5. -/
def openProfile : NeedleProfile :=
  { monitor := Config.betweenProfile 0 % 2 == 1, base := Config.betweenProfile 1 % 256, k := Config.betweenProfile 2 % 1024,
    rlo := clampNat 0 16 (Config.betweenProfile 3), rhi := clampNat 16 64 (Config.betweenProfile 4),
    b := clampNat 1 15 (Config.betweenProfile 5), f := clampNat 0 15 (Config.betweenProfile 6) }

/-- R122: the entry of the needle at which the case stands. -/
def Thread.profileAt (t : Thread) (needle : Nat) : NeedleProfile :=
  if needle = 0 then openProfile else t.profiles.getD (needle - 1) openProfile

/-- R125: the count at which the feed window opens, in the turn that follows TDC within the revolution. -/
def feedOpens (m : Motion) : Nat := if 300 ≤ m.e then m.e + 1 else 300

/-- R125: the count at which it closes: 780 or W_open − 8, whichever is reached first. -/
def feedCloses (wOpen : Nat) : Nat := min 780 (wOpen - 8)

/-- R126: the thread length L_t. -/
def threadLength (dx dy : Int) : Nat := max dx.natAbs dy.natAbs + min dx.natAbs dy.natAbs / 2

/-- R126: the expected count Ex. -/
def expectedCount (p : NeedleProfile) (dx dy : Int) : Nat := p.base + p.k * threadLength dx dy / 64

/-- R126: the verdict on a count. -/
def verdictOf (p : NeedleProfile) (dx dy : Int) (count : Nat) : Verdict :=
  let ex := expectedCount p dx dy
  if count < ex * p.rlo / 16 then .low else if ex * p.rhi / 16 < count then .high else .normal

/-- R129: the kind of run a suspicious verdict belongs to. -/
def Verdict.runKind : Verdict → Option RunKind
  | .normal => none
  | .low => some .low
  | .high => some .high

/-- R129: the run after a verdict; its length is a count from 0 to 15. -/
def SuspicionRun.take (r : SuspicionRun) (v : Verdict) (index needle : Nat) : SuspicionRun :=
  match v.runKind with
  | none => .clear
  | some k =>
      if r.length ≠ 0 ∧ r.kind = some k then { r with length := min 15 (r.length + 1) }
      else { length := 1, first := some index, needle := some needle, kind := some k }

/-- Changes the monitor's record of head `h`, counted from 1. -/
def Thread.modMonitor (t : Thread) (h : Nat) (f : HeadMonitor → HeadMonitor) : Thread :=
  { t with monitors := updAt (h - 1) f t.monitors }

/-- R128: sets the tie-in countdown of the heads that a test picks (by number, from 1). -/
def Thread.setTieIn (t : Thread) (pick : Nat → Bool) (f : Nat) : Thread :=
  { t with monitors := mapFrom 1 (fun h m => if pick h then { m with tieIn := f } else m) t.monitors }

/-- R129: clears the suspicion runs of the heads that a test picks. -/
def Thread.clearRuns (t : Thread) (pick : Nat → Bool) : Thread :=
  { t with monitors := mapFrom 1 (fun h m => if pick h then { m with run := .clear } else m) t.monitors }

/-- R137: at ARM and at DISARM every run is cleared and every tie-in countdown becomes 0. -/
def Thread.disarm (t : Thread) : Thread :=
  { t with monitors := t.monitors.map fun m => { m with run := .clear, tieIn := 0 } }

/-- R125: the feed window opens: the counters of engaged heads are set to 0. -/
def Thread.open (t : Thread) (engaged : Nat → Bool) : Thread :=
  { t with feedOpen := true, monitors := mapFrom 1 (fun h m => if engaged h then { m with count := 0 } else m) t.monitors }

/-- R134: the selected head's verdict is written to the slot; a slot still fresh sets overrun. -/
def Thread.captureWrite (t : Thread) (slot : CaptureSlot) : Thread :=
  { t with slot := some slot, overrun := t.fresh || t.overrun, fresh := true }

end Sys2Proof.Machine
end

