-- ==== Sys2Proof/Machine/Heads.lean ====
section
/-! DEFINITION. The head table and the repair list: eligibility and engage-next, the order of the list, and the changes
of a head's condition with its record (R138 to R144, R151 to R157). -/

namespace Sys2Proof.Machine

/-- R141: eligibility, which is engage-next as the table stands. -/
def Head.eligible (mode : PassMode) (h : Head) : Bool :=
  h.enabled && h.switch &&
    match mode with
    | .normal => h.condition == .ok
    | .repair => h.role == .active

/-- R131: whether some head has engage-next yes. -/
def State.anyEngageNext (s : State) : Bool := s.heads.table.any (Head.eligible s.player.mode)

/-- The record of head `h`, counted from 1. -/
def Heads.head (hs : Heads) (h : Nat) : Option Head := if h = 0 then none else hs.table[h - 1]?

/-- Changes head `h`, counted from 1. -/
def Heads.modHead (hs : Heads) (h : Nat) (f : Head → Head) : Heads := { hs with table := updAt (h - 1) f hs.table }

/-- Whether some head's role is WAITING or ACTIVE: a pass is being entered or is under way (R145). -/
def Heads.inPass (hs : Heads) : Bool := hs.table.any fun h => h.role != .none

/-- The mask of the heads that a test picks from the table. -/
def Heads.mask (hs : Heads) (pick : Head → Bool) : Nat := maskOf (hs.table.map pick)

/-- R142: every engaged flag becomes no. -/
def Heads.disengage (hs : Heads) : Heads := { hs with table := hs.table.map fun h => { h with engaged := false } }

/-! ### The repair list (R143) -/

/-- R143: ascending repair point, and head number among equal ones. -/
def RepairRecord.before (a b : RepairRecord) : Bool := decide (a.point < b.point ∨ (a.point = b.point ∧ a.head ≤ b.head))

/-- R143: a record is placed at its place in the order. -/
def insertRepair (r : RepairRecord) : List RepairRecord → List RepairRecord
  | [] => [r]
  | q :: l => if r.before q then r :: q :: l else q :: insertRepair r l

/-- R143: records that are removed close up the list. -/
def removeRepairs (gone : Nat → Bool) (l : List RepairRecord) : List RepairRecord := l.filter fun r => !gone r.head

/-- The record a head holds. -/
def Heads.repairOf (hs : Heads) (h : Nat) : Option RepairRecord := hs.repairs.find? fun r => r.head == h

/-- R143: a record whose repair point changes is moved to its new place. -/
def Heads.replaceRepair (hs : Heads) (r : RepairRecord) : Heads :=
  { hs with repairs := insertRepair r (removeRepairs (· == r.head) hs.repairs) }

/-- R145, R155, R27: the records of the heads that a test picks are removed and those heads become OK. -/
def State.removeRecords (s : State) (gone : Nat → Bool) : State :=
  (s.modHeads fun hs =>
    { hs with
      repairs := removeRepairs gone hs.repairs
      table := mapFrom 1 (fun n h =>
        if gone n && (h.condition != .ok) then { h with condition := .ok, role := .none, start := none } else h) hs.table }).pinRepairs

/-- R151, R153, R156: a head in a pass becomes BROKEN with role NONE; its record gets a new repair point, block and
needle, and the cause given. R129: its suspicion run is cleared. -/
def State.rebreak (s : State) (h point needle : Nat) (cause : BreakCause) : State :=
  match s.heads.repairOf h with
  | some r =>
      let r' := { r with point := point, needle := needle, block := s.blockOf point, cause := cause }
      (s.modHeads fun hs =>
        (hs.modHead h fun d => { d with condition := .broken, role := .none, start := none }).replaceRepair r').modThread
          fun t => t.clearRuns (· == h)
  | none => s

/-- R144: a head that is OK becomes BROKEN with a record; the design's repair-referenced pin is set. -/
def State.firstBreak (s : State) (h point needle : Nat) (cause : BreakCause) : State :=
  let r : RepairRecord :=
    { head := h, design := s.player.armed.getD 0, point := point, cause := cause, needle := needle, block := s.blockOf point }
  ((s.modHeads fun hs => (hs.modHead h fun d => { d with condition := .broken }).replaceRepair r).modThread
    fun t => t.clearRuns (· == h)).pinRepairs

/-- R148: the entry to a pass is abandoned: the roles WAITING become NONE, the start points none. -/
def Heads.abandonEntry (hs : Heads) : Heads :=
  { hs with
    table := hs.table.map fun h => { h with role := .none, start := none }
    selection := none
    passEnd := none
    passStart := none }

/-- R156: the needle of a colour block's history entry; a block that was never entered leaves the record's own needle. -/
def State.historyNeedle (s : State) (block old : Nat) : Nat := (s.player.history.getD block none).getD old

/-- The numbers, from 1, of the heads whose table record passes a test. -/
def headNumbers (pick : Head → Bool) : Nat → List Head → List Nat
  | _, [] => []
  | n, h :: l => if pick h then n :: headNumbers pick (n + 1) l else headNumbers pick (n + 1) l

/-- R156: a pass is left for the NORMAL pass with this cursor: ACTIVE heads become BROKEN at it, WAITING heads stay
BROKEN; the left-pass flag and displaced are set. -/
def State.leavePass (s : State) : State :=
  let block := s.blockOf s.player.cursor
  let actives := headNumbers (fun h => h.role == .active) 1 s.heads.table
  let broke (s : State) (h : Nat) : State :=
    match s.heads.repairOf h with
    | some r => s.rebreak h s.player.cursor (s.historyNeedle block r.needle) r.cause
    | none => s
  let s' := actives.foldl broke s
  (s'.modHeads fun hs => { hs.abandonEntry with leftPass := true }).modPlayer
    fun p => { p with mode := .normal, displaced := true }

end Sys2Proof.Machine
end

