-- ==== Sys2Proof/Machine/Outputs.lean ====
section
/-! DEFINITION. The actuator outputs: what each drives, the kill effect, the return to AUTO (R79 to R86); and what the
shaft unit drives in each of its states (R67). -/

namespace Sys2Proof.Machine

/-- R83: the kill effect is in force while the kill latch is set or the E-STOP line is asserted. -/
def State.killEffect (s : State) : Bool := s.outs.kill || s.estop

/-- Whether head `h`, counted from 1, is engaged in the revolution in progress (R138). -/
def State.engaged (s : State) (h : Nat) : Bool := (s.heads.table[h - 1]?.map Head.engaged).getD false

/-- R79, R30: the kind of the revolution in progress; none while there is none. -/
def State.revolution (s : State) : Option RecKind := s.player.active.map ActiveRecord.kind

/-- R81, R82: the angle lies in a cam window of the turn that follows TDC within the revolution. -/
def State.inCam (s : State) (lo hi : Nat) : Bool :=
  decide (lo ≤ s.shaft.angle ∧ s.shaft.angle ≤ hi ∧ s.shaft.angle < s.gov.active.motion.wOpen)

/-- R80: the AUTO value of HOLD_h. -/
def State.autoHold (s : State) (h : Nat) : Bool :=
  !((s.revolution == some .stitch || s.revolution == some .trim) && s.engaged h)

/-- R81: the AUTO value of TRIM_h. -/
def State.autoTrim (s : State) (h : Nat) : Bool := s.revolution == some .trim && s.engaged h && s.inCam 420 719

/-- R82: the AUTO value of HOLDER. -/
def State.autoHolder (s : State) : Bool := s.outs.holderArmed && s.revolution.isSome && s.inCam 200 499

/-- R79: the value an output drives: active, inactive, or none for a line not driven. The kill effect overrides all four
modes. -/
def outputValue (killed killValue : Bool) (o : Output) (auto : Bool) : Option Bool :=
  if killed then some killValue
  else
    match o.mode with
    | .auto => some auto
    | .forceOn => some true
    | .forceOff => some false
    | .float => none

/-- R79, R80, R83: the value of HOLD_h; none too for a head that is not fitted, whose line is not driven. -/
def State.holdValue (s : State) (h : Nat) : Option Bool :=
  (s.outs.hold[h - 1]?).bind fun o => outputValue s.killEffect true o (s.autoHold h)

/-- R79, R81, R83: the value of TRIM_h. -/
def State.trimValue (s : State) (h : Nat) : Option Bool :=
  (s.outs.trim[h - 1]?).bind fun o => outputValue s.killEffect false o (s.autoTrim h)

/-- R79, R82, R83: the value of HOLDER. -/
def State.holderValue (s : State) : Option Bool := outputValue s.killEffect false s.outs.holder s.autoHolder

/-- R79: the level of a line by its output's value and polarity; none while the line is not driven. -/
def lineLevel (o : Output) (value : Option Bool) : Option Bool :=
  value.map fun v => if o.polarity = .activeHigh then v else !v

/-- R84: every output returns to AUTO, its polarity kept. -/
def Outputs.allAuto (o : Outputs) : Outputs :=
  { o with
    hold := o.hold.map fun c => { c with mode := .auto }
    trim := o.trim.map fun c => { c with mode := .auto }
    holder := { o.holder with mode := .auto } }

/-- R85: the code of an output's present value: active 0, inactive 1, undriven 2. -/
def valueCode : Option Bool → Nat
  | some true => 0
  | some false => 1
  | none => 2

/-! ### What the shaft unit drives (R67) -/

/-- R67: the drive enable. -/
def Shaft.driveEnable (h : Shaft) : Bool :=
  match h.state with
  | .held => true
  | .offPosition => true
  | .turning => true
  | .positioning => true
  | .off => false
  | .braking => false
  | .fault => false

/-- R67, R76, R77: the brake; it is applied in every state while the E-STOP line is asserted. -/
def State.brake (s : State) : Bool :=
  s.estop ||
    match s.shaft.state with
    | .off => false
    | .held => true
    | .offPosition => true
    | .turning => false
    | .positioning => s.shaft.phase == .braked
    | .braking => true
    | .fault => !s.shaft.faultStill

end Sys2Proof.Machine
end

