-- ==== Sys2Proof/Machine/Shaft.lean ====
section
/-! DEFINITION. The shaft unit by itself: the angle and its zones, the demand and the stall timer, the end of a revolution,
the OFF report and the brake request (R65 to R69, R74). -/

namespace Sys2Proof.Machine

/-- R65: the angle after one count. -/
def angleAfter (angle : Nat) (forward : Bool) : Nat := if forward then (angle + 1) % 1024 else (angle + 1023) % 1024

/-- R67: the angle lies within 0 ± 8. -/
def atTdc (angle : Nat) : Bool := decide (angle ≤ 8 ∨ 1016 ≤ angle)

/-- R65: the distance of an angle from 0. -/
def indexDistance (angle : Nat) : Nat := min angle (1024 - angle)

/-- R70, R75: the demand changes; the stall timer runs while it is at least S_stop and restarts at a change to such a
value. -/
def Shaft.setDemand (h : Shaft) (sStop demand : Nat) : Shaft :=
  { h with
    demand := demand
    stall := if demand < sStop then none else if demand = h.demand ∧ h.stall.isSome then h.stall else some 100 }

/-- R75: a new S_stop of the active set, the demand as it was (R71): the stall timer stops where the demand now lies below
S_stop; where it no longer does, the timer starts with 100 ms (DEDUCED, log entry 47); else it goes on as it was. -/
def Shaft.judgeStall (h : Shaft) (sStop : Nat) : Shaft := h.setDemand sStop h.demand

/-- R75: the stall timer restarts at every encoder count while it runs. -/
def Shaft.restartStall (h : Shaft) : Shaft := { h with stall := h.stall.map fun _ => 100 }

/-- One millisecond of the stall timer. -/
def Shaft.tick (h : Shaft) : Shaft := { h with stall := h.stall.map (· - 1) }

/-- Demand 0, and the stall timer stopped. -/
def Shaft.noDemand (h : Shaft) : Shaft := { h with demand := 0, stall := none }

/-- The kept hold and turn requests are dropped (R69, R76). -/
def Shaft.dropKept (h : Shaft) : Shaft := { h with keptHold := false, keptTurn := false }

/-- R57, R58: the governor's previous command becomes 0 at a report of HELD or OFF. -/
def Governor.rest (g : Governor) : Governor := { g with cPrev := 0 }

/-- R82: the holder countdown is set to 2. -/
def Outputs.oweHolder (o : Outputs) : Outputs := { o with holderCount := 2 }

/-- R83: the kill latch is set on an entry to HALTED; it then waits for RECOVER or DISARM, no longer for an OFF report. -/
def Outputs.setKill (o : Outputs) : Outputs := { o with kill := true, killUntilOff := false }

/-- R44, R27: the kill latch is cleared. -/
def Outputs.clearKill (o : Outputs) : Outputs := { o with kill := false, killUntilOff := false }

/-- R79, R128, R82, R142: the revolution in progress ends: the active record becomes absent. `completed` tells a
revolution that ends at a boundary or at the start of a positioning, whose kind becomes the last completed kind, from one
cut short by an entry to HALTED. A TRIM revolution sets the tie-in countdowns either way (R128), but the holder countdown
only when it is completed: an entry to HALTED leaves that as it stands (R82). -/
def State.endRevolution (s : State) (completed : Bool) : State :=
  match s.player.active with
  | none => s
  | some a =>
      let s1 := s.modPlayer fun p => { p with active := none }
      let s2 := if completed then s1.modHeads fun hs => { hs with lastKind := some a.kind } else s1
      let s3 :=
        if a.kind = .trim then
          (s2.modThread fun t => t.setTieIn s.engaged ((s.thread.rev.map fun r => r.profile.f).getD 0)).modOuts
            fun o => if completed then o.oweHolder else o
        else s2
      (s3.modOuts fun o => { o with holderArmed := false }).modThread fun t => { t with rev := none, feedOpen := false }

/-- R142: every engaged flag becomes no. -/
def State.disengage (s : State) : State := s.modHeads Heads.disengage

/-- R74, R69: the shaft unit enters OFF and reports OFF to the player and the governor; the kill latch of a RESTART is
cleared by that report (R83). -/
def State.enterOff (s : State) : State :=
  ((s.modShaft fun h => { h.noDemand with state := .off, phase := .creep, cause := none, faultStill := false, toOff := false }).modGov
    Governor.rest).modOuts fun o => if o.killUntilOff then o.clearKill else o

/-- R74: the shaft unit enters BRAKING; a shaft that is still already is at rest. -/
def State.enterBraking (s : State) : State :=
  let s1 := s.modShaft fun h => { h.noDemand with state := .braking, phase := .creep }
  if s.shaft.still then s1.enterOff else s1

/-- R69, R111: a brake request. From HELD the departure by OFF ends a case move and drops a kept request. -/
def State.brakeRequest (s : State) : State :=
  let s1 := s.modShaft Shaft.dropKept
  match s.shaft.state with
  | .turning => s1.enterBraking
  | .positioning => s1.enterBraking
  | .held => (s1.modCase NeedleCase.abandon).enterOff
  | .offPosition => s1.enterOff
  | .off => s1
  | .braking => s1
  | .fault => s1

end Sys2Proof.Machine
end

