-- ==== Sys2Proof/Machine/Halt.lean ====
section
/-! DEFINITION. The entry to HALTED, the report of a fault to the player, and the shaft, axis and case faults themselves
(R41, R42, R76, R88, R112); with them the hold, turn and position requests, which a drive that is not ready turns into a
shaft fault (R68 to R75). -/

namespace Sys2Proof.Machine

/-- R22: PLAYER_STATE latches with the new state, its reason or cause, and the cursor. -/
def State.reportPlayer (s : State) : State :=
  s.latch .playerState (b1 s.player.state.code ++ o1 s.player.state.reason ++ b4 s.player.cursor)

/-- R83: the halt causes that set the kill latch. -/
def HaltCause.kills : HaltCause → Bool
  | .halt => true
  | .estop => true
  | .shaft => true
  | .overrun => true
  | .axis => false
  | .needleCase => false
  | .design => false

/-- R93: the cause with which a frame move slows to a stop; for AXIS and ESTOP the frame unit has stopped it already. -/
def HaltCause.abort : HaltCause → Option AbortCause
  | .halt => some .halt
  | .shaft => some .shaft
  | .needleCase => some .needleCase
  | .design => some .design
  | .overrun => some .overrun
  | .axis => none
  | .estop => none

/-- The player's lead-in or return move is in flight. -/
def Errand.moving : Errand → Bool
  | .returnMove _ => true
  | .leadMove => true
  | .none => false
  | .returnWait _ => false
  | .changeWait _ _ => false
  | .changeMove _ _ => false
  | .leadWait => false

/-- R41: what the player itself notes on an entry to HALTED. -/
def Player.halt (p : Player) (c : HaltCause) : Player :=
  { p with
    state := .halted c
    interrupted := match p.active with
      | some a => if a.index.isSome then a.index else p.interrupted
      | none => p.interrupted
    active := none
    displaced := p.displaced || p.active.isSome || p.errand.moving
    stopReason := none
    stopIndex := none
    soonStop := false
    positionAsked := false
    queue := []
    recovering := false
    errand := .none
    entryTrim := .none }

/-- R146, R148: an entry to HALTED abandons a pass that is asked for or entered by way of its trim. An entry trim cut short
counts as the last completed kind: R148 says that a later REPAIR finds TRIM. One asked for whose first boundary has not come
leaves the earlier kind (DEDUCED, log entry 18). -/
def Heads.dropEntry (hs : Heads) (trim : EntryTrim) : Heads :=
  { hs.abandonEntry with lastKind := if trim = .active then some .trim else hs.lastKind }

/-- R41: every entry to HALTED. A frame move that it ends at once latches FRAME_DONE before PLAYER_STATE latches (DEDUCED,
log entry 46). -/
def State.enterHalted (s : State) (c : HaltCause) : State :=
  let dropsPass := s.player.stopReason == some .repair || s.player.entryTrim != .none
  let s1 := (s.endRevolution false).disengage
  let s2 := s1.modPlayer fun _ => s.player.halt c
  let s3 := if dropsPass then s2.modHeads fun hs => hs.dropEntry s.player.entryTrim else s2
  let s4 := if c = .overrun then s3 else s3.abandonSewing
  let s5 := (s4.brakeRequest.modCase NeedleCase.abandon)
  let s6 := match c.abort with
    | some a => s5.slowMove a
    | none => s5
  let s7 := if c.kills then s6.modOuts Outputs.setKill else s6
  s7.lend.reportPlayer

/-- R41, R44, R62: a report or HALT taken while HALTED: owed steps of an overrun are abandoned and a recovery in progress
ends; the cause becomes HALT for a HALT and is kept otherwise. -/
def State.haltAgain (s : State) (kept c : HaltCause) : State :=
  let s1 := s.abandonSewing
  if s.player.recovering then
    let c' := if c = .halt then .halt else kept
    let s2 := (s1.modPlayer fun p => { p with recovering := false, state := .halted c' }).brakeRequest
    if c.kills || c'.kills then s2.modOuts Outputs.setKill else s2
  else s1

/-- R42: a halting cause reported to the player. In IDLE the player stays IDLE; owed steps of an overrun that a DISARM has
left are abandoned there too (R62). -/
def State.reportFault (s : State) (c : HaltCause) : State :=
  match s.player.state with
  | .idle => s.abandonSewing
  | .halted kept => s.haltAgain kept c
  | .armed => s.enterHalted c
  | .running => s.enterHalted c
  | .stopping => s.enterHalted c
  | .changing => s.enterHalted c
  | .returning => s.enterHalted c
  | .paused _ => s.enterHalted c
  | .starved => s.enterHalted c
  | .finished => s.enterHalted c

/-! ### Faults -/

/-- R76, R111: what a shaft fault is to the case unit. In HELD and OFF_POSITION it is a departure from HELD, which drops a
kept request too; in other states a kept request stays kept, and the drive is not energised anyway (R107). -/
def NeedleCase.faulted (c : NeedleCase) (found : ShaftState) : NeedleCase :=
  match found with
  | .held => c.abandon
  | .offPosition => c.abandon
  | .off => c.endMove
  | .turning => c.endMove
  | .positioning => c.endMove
  | .braking => c.endMove
  | .fault => c.endMove

/-- R76: a shaft fault. One found while the player is IDLE goes to OFF once the shaft is still (R69). -/
def State.shaftFault (s : State) (c : ShaftCause) : State :=
  let s1 := s.latch .shaftFault
    (b1 c.code ++ b1 s.shaft.state.code ++ o2 (if s.shaft.refValid then some s.shaft.angle else none) ++ b2 s.shaft.sMeas)
  let s2 := s1.modShaft fun h =>
    { h.noDemand.dropKept with
      state := .fault, phase := .creep, cause := some c, faultStill := h.still, toOff := s.player.state == .idle }
  let s3 := (s2.modCase fun n => n.faulted s.shaft.state).reportFault .shaft
  if s3.shaft.faultStill && s3.shaft.toOff then s3.enterOff else s3

/-- R88: the player has a claim on the frame. -/
def Frame.claimed (f : Frame) : Bool :=
  match f.owner with
  | .player => true
  | .positioner => f.lent
  | .none => false

/-- R88: the kind of the move in flight, SEWING 0; none when there is none. -/
def State.moveKind (s : State) : Option Nat :=
  if s.gov.move.isSome then some 0 else s.frame.move.map fun m => m.op.faultCode

/-- R88: an axis fault. -/
def State.axisFault (s : State) (c : AxisCause) : State :=
  let s1 := s.modFrame fun f => { f with known := false }
  let s2 := s1.latch .axisFault (b1 c.code ++ o1 s.moveKind ++ sBytes4 s.frame.x ++ sBytes4 s.frame.y)
  let s3 := (s2.finishMove (some (.axis c))).abandonSewing
  if s.frame.claimed then s3.reportFault .axis else s3

/-- R112: a case fault. -/
def State.caseFault (s : State) (c : CaseCause) : State :=
  let s1 := s.latch .caseFault (b1 c.code ++ o1 (s.nc.job.map CaseJob.target) ++ b1 s.nc.pos ++ o1 s.nc.lastSeen)
  (s1.modCase fun n => n.fail c).reportFault .needleCase

/-! ### Requests to the shaft unit (R68, R69) -/

/-- R71: entry to POSITIONING; every output returns to AUTO (R84), a positioner operation slows to a stop (R93), and a
case move ends (R111). A drive that is not ready as its enable goes on is a shaft fault (R75). -/
def State.enterPositioning (s : State) : State :=
  let sStop := s.gov.active.motion.sStop
  let s1 := s.modShaft fun h =>
    { h.setDemand sStop sStop with
      state := .positioning, phase := .creep, retry := 0, extra := 0, cause := none, faultStill := false, toOff := false,
      keptHold := false }
  let s2 := if s.shaft.state = .held then s1.modCase NeedleCase.endMove else s1
  let s3 := (s2.modOuts Outputs.allAuto).slowPositioner .shaft
  if s3.shaft.driveReady then s3 else s3.shaftFault .drive

/-- R70: entry to TURNING from HELD, with the run-up speed as demand. -/
def State.enterTurning (s : State) : State :=
  let m := s.gov.active.motion
  let s1 := s.modShaft fun h => { h.setDemand m.sStop (min m.sStart s.gov.sCmd) with state := .turning, runUp := true }
  let s2 := ((s1.modCase NeedleCase.endMove).modOuts Outputs.allAuto).slowPositioner .shaft
  if s2.shaft.driveReady then s2 else s2.shaftFault .drive

/-- R68: a hold request. In HELD, HELD is reported at once: the pending set comes into force (R50) and the governor's
previous command becomes 0; what the player and the case unit were waiting for is done by `State.settle`. -/
def State.holdRequest (s : State) : State :=
  match s.shaft.state with
  | .off => s.enterPositioning
  | .offPosition => s.enterPositioning
  | .positioning => s.modShaft fun h => { h with keptHold := true }
  | .held => s.modGov fun g => g.force.rest
  | .fault => if s.shaft.still then s.enterPositioning else s.modShaft fun h => { h with keptHold := true }
  | .turning => s
  | .braking => s

/-- R68: a turn request. -/
def State.turnRequest (s : State) : State :=
  match s.shaft.state with
  | .held => s.enterTurning
  | .off => (s.modShaft fun h => { h with keptTurn := true }).enterPositioning
  | .offPosition => (s.modShaft fun h => { h with keptTurn := true }).enterPositioning
  | .positioning => s.modShaft fun h => { h with keptTurn := true }
  | .turning => s
  | .braking => s
  | .fault => s

/-- R69: a position request. -/
def State.positionRequest (s : State) : State :=
  match s.shaft.state with
  | .turning => s.enterPositioning
  | .off => s
  | .held => s
  | .offPosition => s
  | .positioning => s
  | .braking => s
  | .fault => s

end Sys2Proof.Machine
end

