-- ==== Sys2Proof/Machine/Player.lean ====
section
/-! DEFINITION. The stitch player: the prefetcher and the refill of the queue, the entries to PAUSED, FINISHED, STARVED and
RUNNING, planned stops, and the reports of the design store (R22 to R43). -/

namespace Sys2Proof.Machine

/-! ### The prefetcher (R28, R29) -/

/-- R28: the states in which the prefetcher appends. -/
def PlayerState.prefetches : PlayerState → Bool
  | .armed => true
  | .running => true
  | .stopping => true
  | .changing => true
  | .returning => true
  | .paused _ => true
  | .starved => true
  | .idle => false
  | .finished => false
  | .halted _ => false

/-- R28: the entry the prefetcher may append next, if it may. -/
def State.nextEntry (s : State) : Option QueueEntry :=
  let q := s.player.queue
  let ended := (q.getLast?.map fun e => e.kind == .endRec).getD false
  if s.player.state.prefetches && decide (q.length < 32) && !ended then
    let i := s.player.cursor + q.length
    (s.recordOf i).map fun r => queueEntry s.gov.active i (s.blockOf i) r
  else none

/-- At most `n` entries are appended one at a time. -/
def State.prefetchN : Nat → State → State
  | 0, s => s
  | n + 1, s =>
      match s.nextEntry with
      | some e => State.prefetchN n (s.modPlayer fun p => { p with queue := p.queue ++ [e] })
      | none => s

/-- R28: the prefetcher appends until the queue is full, ends in END, or the next record is not stored. -/
def State.prefetch (s : State) : State := s.prefetchN 32

/-- R29: the queue is emptied and refilled from the cursor. -/
def State.refill (s : State) : State := (s.modPlayer fun p => { p with queue := [] }).prefetch

/-! ### Entries to the states at rest -/

/-- The stop of a player at rest is over: no reason, no stop index, no chain of operations. -/
def Player.clearStop (p : Player) : Player :=
  { p with stopReason := none, stopIndex := none, soonStop := false, positionAsked := false, errand := .none, entryTrim := .none }

/-- R37: an entry to PAUSED lends the frame and latches PLAYER_STATE. -/
def State.enterPaused (s : State) (r : PauseReason) : State :=
  (s.modPlayer fun p => { p.clearStop with state := .paused r }).lend.reportPlayer

/-- R37, R40: an entry to FINISHED; the END leaves the queue, which stays empty. -/
def State.enterFinished (s : State) : State :=
  (s.modPlayer fun p => { p.clearStop with state := .finished, queue := [] }).lend.reportPlayer

/-- The reason with which a held stop-pending reason pauses the player (R37, R38, R36). A REPAIR or PASS_END reason is
never held where this is asked. -/
def StopReason.pause : StopReason → PauseReason
  | .hostStop => .hostStop
  | .buttonStop => .buttonStop
  | .breakStop => .breakStop
  | .bobbinStop => .bobbinStop
  | .passEmpty => .passEmpty
  | .repair => .hostStop
  | .passEnd => .hostStop
  | .design => .hostStop

/-- R152, R154: the reason with which a planned stop that has come to rest pauses the player. A REPAIR pass that is left with
no head ACTIVE or WAITING pauses as PASS_EMPTY, whichever reason was held first (R154 before R35, R37 and R38: DEDUCED, log
entry 53). -/
def State.pauseReason (s : State) (r : StopReason) : PauseReason :=
  if s.player.mode = .repair ∧ !s.heads.inPass then .passEmpty else r.pause

/-- A held reason is taken at the end of a held-shaft operation: HALTED for DESIGN, else PAUSED as `why` says (R36, R38,
R43). -/
def State.takeReason (s : State) (r : StopReason) (why : PauseReason) : State :=
  if r = .design then s.enterHalted .design else s.enterPaused why

/-! ### RUNNING and STARVED (R34, R39) -/

/-- R39: the exit from STARVED to RUNNING. -/
def State.exitStarved (s : State) : State :=
  ((s.modOuts Outputs.allAuto).modPlayer fun p => { p with state := .running }).turnRequest

/-- R39: the stored count is at least the mark + 16, or the END is stored. -/
def State.starvedMet (s : State) : Bool :=
  match s.armedDesign with
  | some d => decide (s.player.starvedMark + 16 ≤ d.stored) || d.endStored
  | none => false

/-- R39: an entry to STARVED, left at once when the stored count already meets the condition. -/
def State.enterStarved (s : State) : State :=
  let s1 := (s.modPlayer fun p => { p.clearStop with state := .starved, starvedMark := p.cursor }).reportPlayer
  if s1.starvedMet then s1.exitStarved else s1

/-! ### Planned stops (R35, R36, R43) -/

/-- R35: the reason kept when a new one comes: the first, but DESIGN replaces any. -/
def StopReason.combine (held : Option StopReason) (r : StopReason) : Option StopReason :=
  match held with
  | some h => if r = .design then some .design else some h
  | none => some r

/-- R35: a new stop index replaces one that is set only if it is lower. -/
def lowerIndex (held : Option Nat) (i : Nat) : Option Nat :=
  match held with
  | some h => some (min h i)
  | none => some i

/-- R35: the player holds the reason, with the index named or to be set at the next boundary. -/
def Player.combineStop (p : Player) (r : StopReason) (index : Option Nat) : Player :=
  { p with
    stopReason := StopReason.combine p.stopReason r
    stopIndex := match index with
      | some i => lowerIndex p.stopIndex i
      | none => p.stopIndex
    soonStop := p.soonStop || index.isNone }

/-- R146: a REPAIR reason lost to DESIGN takes the pass selection with it. -/
def State.dropSelection (s : State) (r : StopReason) : State :=
  if s.player.stopReason = some .repair ∧ r = .design then s.modHeads fun hs => { hs with selection := none } else s

/-- R35, R36, R43: a planned stop is asked for, as soon as possible or at a named index. -/
def State.plannedStop (s : State) (r : StopReason) (index : Option Nat) : State :=
  match s.player.state with
  | .running => s.modPlayer fun p => { (p.combineStop r index) with state := .stopping }
  | .stopping => (s.dropSelection r).modPlayer fun p => p.combineStop r index
  | .changing => s.modPlayer fun p => { p with stopReason := StopReason.combine p.stopReason r }
  | .returning => s.modPlayer fun p => { p with stopReason := StopReason.combine p.stopReason r }
  | .starved => s.takeReason r r.pause
  | .idle => s
  | .armed => s
  | .paused _ => s
  | .finished => s
  | .halted _ => s

/-- R43: the armed design has failed at its close. In HALTED the cause stays, owed steps of an overrun are abandoned (R62)
and a recovery in progress ends (R42, R44). -/
def State.designFailed (s : State) : State :=
  match s.player.state with
  | .running => s.plannedStop .design none
  | .stopping => s.plannedStop .design none
  | .changing => s.plannedStop .design none
  | .returning => s.plannedStop .design none
  | .armed => s.reportFault .design
  | .paused _ => s.reportFault .design
  | .starved => s.reportFault .design
  | .finished => s.reportFault .design
  | .halted _ => s.reportFault .design
  | .idle => s

/-- R20: the store's report of the armed design: the prefetcher asks again, and STARVED may be left. -/
def State.storeReport (s : State) : State :=
  let s1 := s.prefetch
  if s1.player.state = .starved ∧ s1.starvedMet then s1.exitStarved else s1

/-- The stops that end sewing (R36): the host's STOP, or a press of the stop button. None where it is not accepted. -/
def State.askStop (s : State) (r : StopReason) : Option State :=
  match s.player.state with
  | .running => some (s.plannedStop r none)
  | .stopping => some (s.plannedStop r none)
  | .changing => some (s.plannedStop r none)
  | .returning => some (s.plannedStop r none)
  | .starved => some (s.plannedStop r none)
  | .idle => none
  | .armed => none
  | .paused _ => none
  | .finished => none
  | .halted _ => none

end Sys2Proof.Machine
end

