-- ==== Sys2Proof/Machine/Pass.lean ====
section
/-! DEFINITION. Repair passes: their beginning, the entry trim, the pass proper and their end (R147 to R149, R155). -/

namespace Sys2Proof.Machine

/-- R146, R147: the mask names the head; 0 names every head. -/
def selects (mask h : Nat) : Bool := mask == 0 || maskHas mask (h - 1)

/-- R147: the records of the selected heads. -/
def Heads.selected (hs : Heads) (mask : Nat) : List RepairRecord := hs.repairs.filter fun r => selects mask r.head

/-- R147: a head's start point: its repair point less the overlap, but not before the first record of its block. -/
def State.startPoint (s : State) (r : RepairRecord) : Nat :=
  let first := (s.armedDesign.bind fun d => s.store.firstOfBlock d r.block).getD 0
  max (r.point - s.heads.overlap) first

/-- R147: p0, the lowest start point. -/
def lowestOf : List Nat → Nat
  | [] => 0
  | [n] => n
  | n :: l => min n (lowestOf l)

/-- R147: the selected heads get the role WAITING with their start points. -/
def Heads.wait (hs : Heads) (starts : List (Nat × Nat)) : Heads :=
  { hs with
    table := mapFrom 1 (fun n h =>
      match starts.find? fun p => p.1 == n with
      | some p => { h with role := .waiting, start := some p.2 }
      | none => h) hs.table }

/-- R148: an entry trim is due. -/
def Heads.trimDue (hs : Heads) : Bool := hs.trimOn && (hs.lastKind == some .stitch || hs.lastKind == some .jump)

/-- R149: the pass proper begins: REPAIR mode from p0, with a return move once the shaft is HELD. -/
def State.passProper (s : State) : State :=
  let p0 := s.heads.passStart.getD 0
  let s1 := s.modPlayer fun p =>
    { p.clearStop with state := .returning, mode := .repair, cursor := p0, displaced := true, errand := .returnWait .pass }
  ((s1.modHeads fun hs => { hs with leftPass := false }).refill).holdRequest

/-- R147: a pass is set up, and entered by way of the trim of R148 or at once. In STOPPING the prefetcher goes on (R28,
R148), as it does not in FINISHED. With the trim due the player makes the turn request of R148 and no hold request, so a
shaft that is HELD already reports nothing and a pending set stays pending through the trim; the hold request that R68 names
for the entry comes with the pass proper, after it (DEDUCED, log entry 55). -/
def State.passBegin (s : State) (saved : SavedReason) : State :=
  let h := if s.heads.leftPass then s.player.resume else s.player.cursor
  let starts := (s.heads.selected (s.heads.selection.getD 0)).map fun r => (r.head, s.startPoint r)
  let s1 := s.modPlayer fun p => { p.clearStop with resume := h, saved := saved }
  let s2 := s1.modHeads fun hs => { hs.wait starts with passEnd := some h, passStart := some (lowestOf (starts.map Prod.snd)) }
  if s2.heads.trimDue then
    (s2.modPlayer fun p => { p with state := .stopping, entryTrim := .asked }).prefetch.turnRequest
  else s2.passProper

/-- R148: HELD after the entry trim: a reason taken during it abandons the entry, else the pass goes on. -/
def State.entryTrimHeld (s : State) : State :=
  match s.player.stopReason with
  | some .design => s.enterHalted .design
  | some r => ((s.modHeads Heads.abandonEntry).enterPaused r.pause).refill
  | none => s.passProper

/-- R155: a pass ends at H: the ACTIVE heads become OK. -/
def State.passEnd (s : State) : State :=
  let h := s.player.resume
  let done := s.heads.mask fun d => d.role == .active
  let s1 := (s.removeRecords fun n => maskHas done (n - 1)).modHeads fun hs => hs.abandonEntry
  let s2 := s1.latch .repairDone (b2 done ++ b4 h)
  let s3 := (s2.modPlayer fun p => { p.clearStop with mode := .normal }).refill
  if ((s3.recordOf h).map Record.kind) = some .endRec then s3.enterFinished
  else
    match s3.player.saved with
    | .paused r => s3.enterPaused r
    | .finished => s3.enterFinished

end Sys2Proof.Machine
end

