-- ==== Sys2Proof/Machine/Chain.lean ====
section
/-! DEFINITION. The chains of held-shaft operations: return moves, colour changes and lead-ins, their completions, HELD at
the end of a planned stop, and `State.settle`, which begins whatever has become possible (R31 to R38, R107, R113 to R116,
R148). -/

namespace Sys2Proof.Machine

/-! ### RUNNING (R34, R152) -/

/-- R34, R152: the player enters RUNNING from a lead-in; in a REPAIR pass whose cursor is in the block of H the pass-end
stop is asked for. -/
def State.enterRunning (s : State) : State :=
  let s1 := s.modPlayer fun p => { p with state := .running, errand := .none }
  let s2 :=
    if s1.player.mode = .repair ∧ s1.blockOf s1.player.cursor = s1.blockOf s1.player.resume then
      s1.plannedStop .passEnd (some s1.player.resume)
    else s1
  s2.turnRequest

/-- R37 case 4, R34: the STOP record at the queue head is taken; the resume cursor is carried in a NORMAL pass. -/
def State.takeStop (s : State) (e : QueueEntry) : State :=
  (s.modPlayer fun p =>
    { p with
      state := .changing
      queue := p.queue.drop 1
      cursor := e.index + 1
      resume := if p.mode = .normal then max p.resume (e.index + 1) else p.resume
      stopIndex := none
      soonStop := false
      positionAsked := false
      errand := .changeWait .stopRecord (e.block + 1) }).prefetch

/-- R34: the completion of a lead-in. A reason remembered through the chain is taken first (R36). -/
def State.leadDone (s : State) : State :=
  match s.player.stopReason with
  | some r => s.takeReason r r.pause
  | none =>
      match s.player.queue with
      | [] => s.enterStarved
      | e :: _ => if e.kind = .stop then s.takeStop e else if e.kind = .endRec then s.enterFinished else s.enterRunning

/-! ### Return and lead-in moves (R33, R97) -/

/-- R33: origin + 4 × position(cursor). -/
def State.cursorTarget (s : State) : Int × Int :=
  let o := s.player.origin.getD (0, 0)
  let p := s.positionOf s.player.cursor
  (o.1 + 4 * p.1, o.2 + 4 * p.2)

/-- R33, R36, R43: the completion of a return move. -/
def State.returnDone (s : State) (source : ChangeSource) : State :=
  let s1 := s.modPlayer fun p => { p with displaced := false }
  match s1.player.stopReason with
  | some r => s1.takeReason r r.pause
  | none => s1.modPlayer fun p => { p with state := .changing, errand := .changeWait source 0 }

/-- The player's move has completed: it is in flight no more, so an entry to HALTED that its completion brings with it does
not set displaced for it (R33, R41). -/
def State.landed (s : State) : State := s.modPlayer fun p => { p with errand := .none }

/-- The completion of the player's move in flight. A completion of a move the player no longer waits for is ignored (R41). -/
def State.playerMoveDone (s : State) : State :=
  match s.player.errand with
  | .returnMove source => s.landed.returnDone source
  | .leadMove => s.landed.leadDone
  | .none => s
  | .returnWait _ => s
  | .changeWait _ _ => s
  | .changeMove _ _ => s
  | .leadWait => s

/-- R97: a move of the player is refused by a LIMIT input or a drive that is not ready, as an axis fault; X is looked at
before Y and a LIMIT input before a drive line. -/
def State.moveBlocked (s : State) (l : Leg) : Option AxisCause :=
  match s.limitAhead l with
  | some c => some c
  | none => if !s.frame.readyX then some .driveX else if !s.frame.readyY then some .driveY else none

/-- R97: the player asks the frame unit for a move to the cursor's position. One without steps completes at once. -/
def State.playerMove (s : State) (op : MoveOp) (errand : Errand) : State :=
  let t := s.cursorTarget
  let s1 := (s.modPlayer fun p => { p with state := .returning, errand := errand }).modFrame fun f => f.beginLegs op [t]
  match s.moveBlocked (Leg.between s.frame.x s.frame.y t.1 t.2) with
  | some c => s1.axisFault c
  | none => if (Leg.between s.frame.x s.frame.y t.1 t.2).isEmpty then (s1.finishMove none).playerMoveDone else s1

/-! ### Colour changes (R107, R113 to R116, R38) -/

/-- R38: the player after the completion of its colour change. A change made where a planned stop has come to rest ends as
that stop does, in an emptied pass as PASS_EMPTY (R154). -/
def State.changeDone (s : State) : State :=
  match s.player.errand with
  | .changeMove source block =>
      match s.player.stopReason with
      | some r => s.takeReason r (s.pauseReason r)
      | none =>
          let pause := ((s.armedDesign.bind fun d => d.seq[block]?).map SeqEntry.pause).getD false
          if s.player.mode = .normal ∧ (source = .start ∨ source = .stopRecord) ∧ pause then s.enterPaused .colourPause
          else s.modPlayer fun p => { p with state := .returning, errand := .leadWait }
  | .none => s
  | .returnWait _ => s
  | .returnMove _ => s
  | .changeWait _ _ => s
  | .leadWait => s
  | .leadMove => s

/-- R116, R82, R128: a case move completes. -/
def State.caseComplete (s : State) (j : CaseJob) (energised : Bool) : State :=
  let s1 := (s.modCase NeedleCase.complete).latch .colourDone (b1 j.target ++ b1 j.source.code ++ o2 j.block ++ bFlag energised)
  let f := (s.thread.profileAt j.target).f
  let s2 := (s1.modOuts Outputs.oweHolder).modThread fun t => t.setTieIn (fun _ => true) f
  if j.source = .direct then s2 else s2.changeDone

/-- R107: a case move begins; a target equal to the case position completes at once. -/
def State.beginCase (s : State) (j : CaseJob) : State :=
  let s1 := s.modCase fun c => { c with kept := none }
  if j.target = s.nc.pos then s1.caseComplete j false else s1.modCase fun c => c.energise s.straps.needles j

/-- R113: the needle of sequence entry b; 1 should the sequence not hold the entry, which no design allows (R6). -/
def State.sequenceNeedle (s : State) (block : Nat) : Nat :=
  ((s.armedDesign.bind fun d => d.seq[block]?).map SeqEntry.needle).getD 1

/-- R113: an entering change into a block: the preselect or the sequence gives the needle, and the history takes it. -/
def State.enteringChange (s : State) (source : ChangeSource) (block : Nat) : State :=
  let target := s.player.preselect.getD (s.sequenceNeedle block)
  (s.modPlayer fun p =>
    { p with
      state := .changing
      preselect := none
      history := updAt block (fun _ => some target) p.history
      errand := .changeMove source block }).beginCase ⟨target, source, some block⟩

/-- R114: a change that writes nothing; made at a STOP record always, elsewhere when the case does not stand there. R116 says
that the RESUME after RECOVER makes a restoring change with or without a drive move; the model makes none with the case at
the needle, as R32, R114 and R119 state (DEDUCED, log entry 54). -/
def State.restoringChange (s : State) (source : ChangeSource) (block target : Nat) : State :=
  if source ≠ .stopRecord ∧ s.nc.pos = target then
    s.modPlayer fun p => { p with state := .returning, errand := .leadWait }
  else
    (s.modPlayer fun p => { p with state := .changing, errand := .changeMove source block }).beginCase
      ⟨target, source, some block⟩

/-- R113, R114: the change asked for once the shaft is HELD and no direct move is in flight or kept. -/
def State.decideChange (s : State) (source : ChangeSource) (asked : Nat) : State :=
  let block :=
    match source with
    | .start => 0
    | .stopRecord => asked
    | .resume => s.blockOf s.player.cursor
    | .pass => s.blockOf s.player.cursor
    | .direct => s.blockOf s.player.cursor
  let entered := s.player.history.getD block none
  match s.player.mode with
  | .normal =>
      if source = .start ∨ source = .stopRecord then s.enteringChange source block
      else
        match entered with
        | some needle => s.restoringChange source block needle
        | none => s.enteringChange source block
  | .repair => s.restoringChange source block (entered.getD (s.sequenceNeedle block))

/-! ### HELD at the end of a planned stop (R37) -/

/-- R37: the first case that applies, and the refill of R29. -/
def State.plannedHeld (s : State) : State :=
  let s0 := s.modPlayer fun p => { p with positionAsked := false }
  if s0.player.entryTrim = .ending then s0.entryTrimHeld
  else if s0.player.stopReason = some .design then s0.enterHalted .design
  else if s0.player.mode = .repair ∧ s0.player.cursor = s0.player.resume then s0.passEnd
  else if s0.player.stopReason = some .repair then s0.passBegin (.paused .hostStop)
  else
    match s0.player.queue.head? with
    | some e =>
        if e.kind = .stop then (s0.takeStop e).refill
        else if e.kind = .endRec then s0.enterFinished
        else
          match s0.player.stopReason with
          | some r => (s0.enterPaused (s0.pauseReason r)).refill
          | none => s0.refill.enterStarved
    | none =>
        match s0.player.stopReason with
        | some r => (s0.enterPaused (s0.pauseReason r)).refill
        | none => s0.refill.enterStarved

/-- R44: a recovery completes at HELD. -/
def State.recovered (s : State) : State :=
  let s1 := s.modPlayer fun p => { p with recovering := false, cursor := p.interrupted.getD p.cursor, interrupted := none }
  let s2 := if s1.player.mode = .repair then s1.leavePass else s1
  (s2.enterPaused .recovered).refill

/-- The shaft unit has reported HELD and nothing has moved it since. -/
def State.isHeld (s : State) : Bool := s.shaft.state == .held

/-- R107: a kept case request begins when the case unit is IDLE and the shaft HELD. -/
def State.beginKept (s : State) : Option State :=
  match s.nc.kept with
  | some j => if s.nc.state = .idle ∧ s.isHeld then some (s.beginCase j) else none
  | none => none

/-- R68: a kept turn request enters TURNING once HELD has been reported as usual. -/
def State.turnKept (s : State) : State := if s.isHeld then s.enterTurning else s

/-- R72, R68, R50, R107: the shaft unit enters HELD and reports it to the player, the governor and the case unit; then a
kept turn request enters TURNING, which ends a case move that the report has begun (R111). Without one `State.settle`
begins the kept case request. The order of the reports is the model's reading (DEDUCED, log entry 19). -/
def State.reachHeld (s : State) : State :=
  let s1 := (s.modShaft fun h =>
    { h.noDemand with state := .held, phase := .creep, keptHold := false, keptTurn := false }).modGov fun g => g.force.rest
  let s2 :=
    if s1.player.recovering then s1.recovered else if s1.player.positionAsked then s1.plannedHeld else s1
  if s.shaft.keptTurn then (s2.beginKept.getD s2).turnKept else s2

/-! ### What has become possible -/

/-- No frame move and no owed steps are in flight. A START or RESUME takes the frame at once while an aborted move of the
player still slows down, and the return or lead-in that it asks for waits until that move has stopped (DEDUCED, log
entry 49). -/
def State.frameFree (s : State) : Bool := s.frame.move.isNone && s.gov.move.isNone

/-- One operation that has become possible: a kept case request (R107), a return move (R33), a colour change (R113,
R114), a lead-in (R33). None when nothing is waiting for what holds now. -/
def State.settleOne (s : State) : Option State :=
  match s.nc.kept with
  | some _ => s.beginKept
  | none =>
      match s.player.errand with
      | .returnWait source =>
          if s.isHeld ∧ s.frameFree then some (s.refill.playerMove .returnMove (.returnMove source)) else none
      | .changeWait source block =>
          if s.isHeld ∧ s.nc.state = .idle ∧ !s.nc.directBusy then some (s.decideChange source block) else none
      | .leadWait => if s.frameFree then some (s.playerMove .leadIn .leadMove) else none
      | .none => none
      | .returnMove _ => none
      | .changeMove _ _ => none
      | .leadMove => none

/-- At most `n` such operations. -/
def State.settleN : Nat → State → State
  | 0, s => s
  | n + 1, s =>
      match s.settleOne with
      | some s' => State.settleN n s'
      | none => s

/-- Everything that has become possible is begun. An operation without a move completes at once and may make the next
possible, as through a run of STOP records; 2,048 bounds that run (a design has at most 255 STOP records, each with
three such operations). -/
def State.settle (s : State) : State := s.settleN 2048

end Sys2Proof.Machine
end

