-- ==== Sys2Proof/Machine/DesignRequests.lean ====
section
/-! DEFINITION. The requests of the design store, DSN_OPEN to DSN_INFO: each answers the state after it and the reply's
payload (R6 to R15). -/

namespace Sys2Proof.Machine

/-- What a request does: the state after it and the payload of its reply (R179). -/
abbrev Served := State × List Byte

/-- A refusal leaves the state as it is and names its status. -/
def refuse (s : State) (st : Status) : Served := (s, replyOf st [])

/-- The reply OK with a detail. -/
def okWith (s : State) (detail : List Byte) : Served := (s, replyOf .ok detail)

/-- R6 check 2, with the sequence as read. -/
def openBad (design declared blocks : Nat) (box : Box) (seqLen : Nat) (seq : Option (List SeqEntry)) : Bool :=
  decide (design = 0 ∨ declared = 0 ∨ 524288 < declared ∨ blocks = 0 ∨ 256 < blocks ∨ declared < blocks ∨ seqLen ≠ blocks)
    || seq.isNone
    || decide (box.xmin = -32768 ∨ box.xmax = -32768 ∨ box.ymin = -32768 ∨ box.ymax = -32768)
    || !box.holds 0 0

/-- R6: the entry as DSN_OPEN sets it. -/
def Design.opened (design declared blocks : Nat) (box : Box) (seq : List SeqEntry) : Design :=
  { number := design, state := .loading, declared := declared, blocks := blocks, box := box, seq := seq, stored := 0, chain := [],
    nextBlock := 0, runX := 0, runY := 0, crc := 0xFFFFFFFF, stops := 0, armedPin := false, repairPin := false }

/-- R6: DSN_OPEN. -/
def State.serveDsnOpen (s : State) (design declared blocks : Nat) (box : Box) (seqLen : Nat) (entries : List Byte) : Served :=
  let seq := seqOf s.straps.needles entries
  if openBad design declared blocks box seqLen seq then refuse s .badValue
  else if !s.store.hasEmpty then refuse s .noSpace
  else if (s.store.find design).isSome then refuse s .inUse
  else
    (s.modStore fun st => { st with dir := insertLowest (.opened design declared blocks box (seq.getD [])) st.dir },
      replyOf .ok [])

/-- R9: the report of an accepted block (R20) is made when the design's armed pin is set. -/
def State.blockStored (s : State) (d : Design) (records : List RawRecord) : State :=
  let s1 := s.modStore fun st => st.storeBlock d records
  if d.armedPin then s1.storeReport else s1

/-- R7: the block number is out of order: not the next expected one, or above 8,191. -/
def Design.outOfOrder (d : Design) (block : Nat) : Bool := block != d.nextBlock || decide (8191 < block)

/-- R7 to R9: DSN_BLOCK. -/
def State.serveDsnBlock (s : State) (design block count : Nat) (records : List RawRecord) : Served :=
  if count = 0 ∨ 64 < count then refuse s .badValue
  else
    match s.store.find design with
    | none => refuse s .notFound
    | some d =>
        if d.state ≠ .loading then (s, replyOf .wrongState (b1 d.state.code))
        else if d.outOfOrder block then (s, replyOf .outOfOrder (b2 d.nextBlock))
        else
          match blockReason d d.trial 0 records with
          | some (offset, reason) => (s, replyOf .badRecord (b1 offset ++ b1 reason))
          | none =>
              if d.needsPage records.length && s.store.free.isEmpty then (s, replyOf .noSpace (b2 0))
              else
                let s1 := s.blockStored d records
                okWith s1 (b4 (d.stored + records.length) ++ b2 (d.nextBlock + 1) ++ b2 s1.store.free.length)

/-- R12: the design goes to FAILED at its close. -/
def State.closeFailed (s : State) (d : Design) (reason : Nat) : State :=
  let s1 := (s.modStore fun st => st.modDesign d.number fun e => { e with state := .failed }).latch .designFailed
    (b2 d.number ++ b1 reason)
  if d.armedPin then s1.designFailed else s1

/-- R11: the design goes to READY. -/
def State.closeReady (s : State) (d : Design) : State :=
  let s1 := (s.modStore fun st => st.modDesign d.number fun e => { e with state := .ready }).latch .designReady (b2 d.number)
  if d.armedPin then s1.storeReport else s1

/-- R11: DSN_CLOSE. -/
def State.serveDsnClose (s : State) (design check : Nat) : Served :=
  match s.store.find design with
  | none => refuse s .notFound
  | some d =>
      if d.state ≠ .loading then (s, replyOf .wrongState (b1 d.state.code))
      else if d.stored < d.declared then (s, replyOf .countShort (b4 d.stored ++ b2 d.nextBlock))
      else if (checkValue d.crc).toNat ≠ check then
        (s.closeFailed d 0, replyOf .mismatch (b1 0 ++ b4 (checkValue d.crc).toNat))
      else if d.stops + 1 ≠ d.blocks then (s.closeFailed d 1, replyOf .mismatch (b1 1 ++ b1 d.stops))
      else okWith (s.closeReady d) []

/-- R13: the entry with the number becomes EMPTY. -/
def dropDesign (number : Nat) (dir : List (Option Design)) : List (Option Design) :=
  dir.map fun o => o.filter fun d => d.number != number

/-- R13: DSN_DROP. -/
def State.serveDsnDrop (s : State) (design : Nat) : Served :=
  match s.store.find design with
  | none => refuse s .notFound
  | some d =>
      if d.armedPin || d.repairPin then refuse s .inUse
      else
        let s1 := s.modStore fun st => { st with dir := dropDesign design st.dir, free := freePages d.chain st.free }
        okWith s1 (b2 d.chain.length ++ b2 s1.store.free.length)

/-- R14: an entry as DSN_INFO reports it. -/
def Design.report (d : Design) : List Byte :=
  b1 d.state.code ++ b2 d.number ++ b4 d.declared ++ b2 d.blocks ++ bBox d.box ++ b4 d.stored ++ b2 d.nextBlock
    ++ sBytes2 d.runX ++ sBytes2 d.runY ++ b4 (checkValue d.crc).toNat ++ b1 d.stops ++ b2 d.chain.length
    ++ bFlag d.armedPin ++ bFlag d.repairPin ++ d.seq.map SeqEntry.byte

/-- R15: a slot report; the absent number is 0 and the absent count all ones (R178). -/
def slotReport : Option Design → List Byte
  | none => b1 0 ++ b2 0 ++ o4 none
  | some d => b1 d.state.code ++ b2 d.number ++ b4 d.stored

/-- R14, R15: DSN_INFO. -/
def State.serveDsnInfo (s : State) (design : Nat) : Served :=
  if design = 0 then okWith s (b2 s.store.free.length ++ s.store.dir.flatMap slotReport)
  else
    match s.store.find design with
    | none => refuse s .notFound
    | some d => okWith s d.report

end Sys2Proof.Machine
end

