-- ==== Sys2Proof/Machine/Starts.lean ====
section
/-! DEFINITION. START and RESUME as the host and the start button ask for them: the checks and the beginning of the chain
(R31, R32, R166). -/

namespace Sys2Proof.Machine

/-- A positioner operation is in flight (R31, R32, R95, R146). -/
def State.positionerBusy (s : State) : Bool := s.frame.owner == .positioner

/-- The shaft unit is in FAULT or BRAKING (R31, R32, R146). -/
def State.shaftStopped (s : State) : Bool := s.shaft.state == .fault || s.shaft.state == .braking

/-- R31: the first refusal of START that applies. -/
def State.startRefusal (s : State) : Option Status :=
  if s.player.state ≠ .armed then some .wrongState
  else if s.estop || s.shaftStopped || s.nc.state == .fault then some .wrongState
  else if !s.frame.known then some .notHomed
  else if s.positionerBusy then some .busy
  else none

/-- R31: the chain of START begins. -/
def State.startNow (s : State) : State :=
  let s1 := (s.modFrame Frame.take).modOuts Outputs.allAuto
  let s2 := s1.modPlayer fun p =>
    if p.displaced then { p with state := .returning, errand := .returnWait .start }
    else { p with state := .changing, errand := .changeWait .start 0 }
  s2.holdRequest

/-- R32: the player is PAUSED. -/
def PlayerState.isPaused : PlayerState → Bool
  | .paused _ => true
  | .idle => false
  | .armed => false
  | .running => false
  | .stopping => false
  | .changing => false
  | .returning => false
  | .starved => false
  | .finished => false
  | .halted _ => false

/-- R32: the first refusal of RESUME that applies. -/
def State.resumeRefusal (s : State) : Option Status :=
  if !s.player.state.isPaused then some .wrongState
  else if s.estop || s.shaftStopped then some .wrongState
  else if s.player.mode == .repair && !s.heads.inPass then some .wrongState
  else if !s.frame.known then some .notHomed
  else if s.positionerBusy then some .busy
  else none

/-- R156: a RESUME after a REPAIR_END first sets the cursor to the resume cursor and clears the left-pass flag. -/
def State.returnToPass (s : State) : State :=
  if s.heads.leftPass then
    (s.modPlayer fun p => { p with cursor := p.resume }).modHeads fun hs => { hs with leftPass := false }
  else s

/-- R32: the chain of RESUME begins. -/
def State.resumeNow (s : State) : State :=
  let s1 := ((s.returnToPass.modFrame Frame.take).modOuts Outputs.allAuto)
  let s2 := s1.modPlayer fun p =>
    if p.displaced then { p with state := .returning, errand := .returnWait .resume }
    else { p with state := .changing, errand := .changeWait .resume 0 }
  s2.holdRequest

end Sys2Proof.Machine
end

