-- ==== Sys2Proof/Machine/CaseRequests.lean ====
section
/-! DEFINITION. The requests about needles and the needle case (R117 to R120). -/

namespace Sys2Proof.Machine

/-- R117: PRESELECT; the design number field of the armed design decides whether one is armed. -/
def State.servePreselect (s : State) (needle : Nat) : Served :=
  if s.player.armed.isNone then refuse s .wrongState
  else if s.straps.needles < needle then refuse s .badValue
  else
    let v := if needle = 0 then none else some needle
    okWith (s.modPlayer fun p => { p with preselect := v }) (o1 v)

/-- R115: a colour block at or below the current block, the highest block whose history entry is set. -/
def Player.entered (p : Player) (block : Nat) : Bool := (p.history.drop block).any Option.isSome

/-- R118: the entries of a sequence from `first` on are replaced. -/
def spliceSeq (first : Nat) (new old : List SeqEntry) : List SeqEntry := old.take first ++ new ++ old.drop (first + new.length)

/-- R118: SEQ_EDIT. -/
def State.serveSeqEdit (s : State) (design first count : Nat) (entries : List Byte) : Served :=
  match s.store.find design with
  | none => refuse s .notFound
  | some d =>
      match seqOf s.straps.needles entries with
      | none => refuse s .badValue
      | some seq =>
          if d.blocks < first + count ∨ count = 0 then refuse s .badValue
          else if s.player.armed = some design ∧ (s.player.mode = .repair ∨ s.player.entered first) then refuse s .inUse
          else
            okWith (s.modStore fun st => st.modDesign design fun e => { e with seq := spliceSeq first seq e.seq })
              (b1 first ++ b1 count ++ seq.map SeqEntry.byte)

/-- R119 check 3: what the player's state refuses. -/
def PlayerState.needleRefusal : PlayerState → Option Status
  | .changing => some .busy
  | .running => some .wrongState
  | .stopping => some .wrongState
  | .returning => some .wrongState
  | .starved => some .wrongState
  | .halted _ => some .wrongState
  | .idle => none
  | .armed => none
  | .paused _ => none
  | .finished => none

/-- R119: the first failing check of NEEDLE_GO. -/
def State.needleRefusal (s : State) (needle : Nat) : Option Status :=
  if needle = 0 ∨ s.straps.needles < needle then some .badValue
  else if s.estop || s.shaft.state == .braking || s.shaft.state == .turning || s.shaft.state == .positioning then some .wrongState
  else
    match s.player.state.needleRefusal with
    | some st => some st
    | none =>
        if s.shaft.state = .fault ∨ (s.nc.state = .fault ∧ s.player.state ≠ .idle) then some .wrongState
        else if s.nc.state = .moving ∨ s.nc.state = .settling ∨ s.nc.kept.isSome then some .busy
        else if (s.shaft.state = .off ∨ s.shaft.state = .offPosition) ∧ s.positionerBusy then some .busy
        else none

/-- R119: the request becomes the case unit's, kept until the shaft is HELD; from OFF and OFF_POSITION a hold request is
made. With the shaft HELD already the move begins in `State.settle`. -/
def State.needleNow (s : State) (needle : Nat) : State :=
  let s1 := (s.modCase fun c => c.clearFault s.straps.needles).modCase fun c => { c with kept := some ⟨needle, .direct, none⟩ }
  if s.shaft.state = .off ∨ s.shaft.state = .offPosition then s1.holdRequest else s1

/-- R119: NEEDLE_GO. -/
def State.serveNeedleGo (s : State) (needle : Nat) : Served :=
  match s.needleRefusal needle with
  | some st => refuse s st
  | none => okWith (s.needleNow needle) []

/-- R120: CASE_INFO. -/
def State.serveCaseInfo (s : State) : Served :=
  let c := s.nc
  okWith s
    (b1 c.state.code ++ b1 c.pos ++ b1 c.raw ++ o1 c.lastSeen ++ o1 (c.job.map CaseJob.target)
      ++ o1 (c.job.map CaseJob.requesterCode) ++ o1 (c.dirUp.map fun u => if u then 0 else 1) ++ b1 c.overshoot ++ b2 c.timer
      ++ o1 (c.kept.map CaseJob.requesterCode) ++ o1 (c.kept.map CaseJob.target) ++ o1 (c.cause.map CaseCause.code))

end Sys2Proof.Machine
end

