-- ==== Sys2Proof/Machine/Breaks.lean ====
section
/-! DEFINITION. The close of a feed window: the verdict of each head, its run, the capture slot and the tie-in countdown,
and what a declared break does (R127 to R134, R144, R153, R154). -/

namespace Sys2Proof.Machine

/-- The monitor's record of head `h`, counted from 1. -/
def Thread.monitorOf (t : Thread) (h : Nat) : HeadMonitor := t.monitors.getD (h - 1) .powerOn

/-- R130: the cause a run gives. -/
def breakCause (kind : Option RunKind) (bobbinLow : Bool) : BreakCause :=
  match kind with
  | some .high => .tangle
  | some .low => if bobbinLow then .bobbin else .break
  | none => if bobbinLow then .bobbin else .break

/-- R131, R132, R144: a break handed over for an OK head in a NORMAL pass. -/
def State.normalBreak (s : State) (h point needle : Nat) (cause : BreakCause) : State :=
  let s1 := s.firstBreak h point needle cause
  if !s1.anyEngageNext || s1.thread.breakPolicy == .stop then s1.plannedStop .breakStop none else s1

/-- R153, R154, R132: a break handed over for an ACTIVE head. -/
def State.repairBreak (s : State) (h point needle : Nat) (cause : BreakCause) : State :=
  let s1 := s.rebreak h point needle cause
  if !s1.heads.inPass then s1.plannedStop .passEmpty none
  else if s1.thread.breakPolicy = .stop then s1.plannedStop .breakStop none
  else s1

/-- R130: a break is declared for head `h`. -/
def State.declareBreak (s : State) (h : Nat) : State :=
  match s.heads.head h with
  | none => s
  | some d =>
      let run := (s.thread.monitorOf h).run
      let cause := breakCause run.kind d.bobbinLow
      let point := run.first.getD 0
      let needle := run.needle.getD 0
      let s1 := s.modThread fun t => t.clearRuns (· == h)
      let s2 := s1.latch .headBreak (b1 h ++ b1 cause.code ++ b4 point ++ b1 needle)
      match s2.player.mode, d.condition with
      | .normal, .ok => s2.normalBreak h point needle cause
      | .repair, .repairing => s2.repairBreak h point needle cause
      | .normal, .broken => s2
      | .normal, .repairing => s2
      | .repair, .ok => s2
      | .repair, .broken => s2

/-- R126, R129, R134: a head receives its verdict. -/
def State.giveVerdict (s : State) (r : SewnRevolution) (h : Nat) : State :=
  let count := (s.thread.monitorOf h).count
  let v := verdictOf r.profile r.dx r.dy count
  let s1 := s.modThread fun t =>
    let t' := t.modMonitor h fun m => { m with run := m.run.take v r.index r.needle }
    if t.capture = h then t'.captureWrite ⟨count, expectedCount r.profile r.dx r.dy, r.index, r.needle, v⟩ else t'
  if v ≠ .normal ∧ r.profile.b ≤ (s1.thread.monitorOf h).run.length then s1.declareBreak h else s1

/-- R127, R128: one head at the close: a tie-in stitch, no verdict, or a verdict. -/
def State.closeHead (r : SewnRevolution) (s : State) (h : Nat) : State :=
  if !s.engaged h then s
  else if 0 < (s.thread.monitorOf h).tieIn then s.modThread fun t => t.modMonitor h fun m => { m with tieIn := m.tieIn - 1 }
  else if !r.profile.monitor || threadLength r.dx r.dy == 0 then s
  else s.giveVerdict r h

/-- R125, R127: the feed window closes, and the monitor takes each head in turn, in ascending number (DESIGN CHOICE, log
entry 48). -/
def State.closeWindow (s : State) (r : SewnRevolution) : State :=
  ((List.range s.straps.heads).map (· + 1)).foldl (State.closeHead r) (s.modThread fun t => { t with feedOpen := false })

end Sys2Proof.Machine
end

