-- ==== Sys2Proof/Machine/Revolution.lean ====
section
/-! DEFINITION. The revolution boundary with its handover, and what a forward count of a turning shaft does: scheduled
steps, the overrun check, the feed window (R30, R56 to R61, R70, R82, R125, R128, R142, R148, R150, R151). -/

namespace Sys2Proof.Machine

/-! ### Engagement (R142, R150, R151) -/

/-- R150: a WAITING head whose start point is the record handed over joins the pass, or drops out of it. -/
def Head.join (index : Nat) (h : Head) : Head :=
  if h.role = .waiting ∧ h.start = some index then
    (if h.enabled && h.switch then { h with role := .active, condition := .repairing }
     else { h with role := .none, start := none })
  else h

/-- R150: the head meets its start point at this record. -/
def Head.meets (index : Nat) (h : Head) : Bool := h.role == .waiting && h.start == some index

/-- R150: the heads that join get a clear suspicion run (R129). -/
def State.joinHeads (s : State) (index : Nat) : State :=
  let joined := s.heads.mask fun h => h.meets index && h.enabled && h.switch
  (s.modHeads fun hs => { hs with table := hs.table.map (Head.join index) }).modThread
    fun t => t.clearRuns fun h => maskHas joined (h - 1)

/-- R151: an ACTIVE head that is disabled or switched off drops out at the record handed over. -/
def State.dropHeads (s : State) (index block : Nat) : State :=
  let out := headNumbers (fun h => h.role == .active && !(h.enabled && h.switch)) 1 s.heads.table
  out.foldl (fun (s : State) (h : Nat) =>
    match s.heads.repairOf h with
    | some r => s.rebreak h index (s.historyNeedle block r.needle) r.cause
    | none => s) s

/-- R150, R151, R154: joins and drops at a boundary of a REPAIR pass; a pass that they leave empty asks for its stop. -/
def State.passHeads (s : State) (index block : Nat) : State :=
  match s.player.mode with
  | .normal => s
  | .repair =>
      let s1 := (s.joinHeads index).dropHeads index block
      if s.heads.inPass && !s1.heads.inPass then s1.plannedStop .passEmpty none else s1

/-- R142: every engaged flag is set to the head's eligibility. -/
def State.engage (s : State) : State :=
  s.modHeads fun hs => { hs with table := hs.table.map fun h => { h with engaged := h.eligible s.player.mode } }

/-- R122, R128: the monitor reads the needle's entry, and heads engaged anew get their tie-in stitches. `before` tells the
heads engaged in the revolution before. The needle noted is the case position, 0 for a case between positions (DEDUCED,
log entry 43). -/
def State.handMonitor (s : State) (kind : RecKind) (index : Nat) (dx dy : Int) (before : Nat → Bool) : State :=
  let p := s.thread.profileAt s.nc.pos
  s.modThread fun t =>
    { (t.setTieIn (fun h => s.engaged h && !before h) p.f) with
      rev := some { kind := kind, index := index, dx := dx, dy := dy, profile := p, needle := s.nc.pos }, feedOpen := false }

/-- R82: a STITCH revolution with a head engaged arms the holder from the countdown. -/
def State.armHolder (s : State) (kind : RecKind) : State :=
  if kind = .stitch ∧ s.heads.table.any Head.engaged ∧ 0 < s.outs.holderCount then
    s.modOuts fun o => { o with holderArmed := true, holderCount := o.holderCount - 1 }
  else s

/-! ### The boundary (R30, R56 to R59, R148) -/

/-- R30: nothing is handed over at this boundary. -/
def Player.holdsBack (p : Player) : Bool :=
  match p.queue with
  | [] => true
  | e :: _ => e.stops || (p.stopIndex.map fun i => decide (i ≤ e.index)).getD false

/-- R30, R69: the player hands nothing over and asks the shaft unit to position. -/
def State.noHandover (s : State) : State :=
  (((s.modPlayer fun p => { p with state := .stopping, positionAsked := true }).disengage)).positionRequest

/-- R57, R35: a soon-as-possible stop gets its stop index. -/
def Player.takeStopPosition (p : Player) (m : Motion) (first : Bool) (cPrev : Nat) (e : QueueEntry) : Player :=
  if p.soonStop then
    { p with
      stopIndex := lowerIndex p.stopIndex (e.index + min (stopPosition m (if first then 0 else cPrev)) p.queue.length)
      soonStop := false }
  else p

/-- R30: the head leaves the queue and becomes the active record. -/
def Player.handOver (p : Player) (e : QueueEntry) : Player :=
  { p with
    queue := p.queue.drop 1
    active := some { index := some e.index, kind := e.kind, dx := e.dx, dy := e.dy, block := e.block }
    cursor := e.index + 1
    resume := if p.mode = .normal then max p.resume (e.index + 1) else p.resume }

/-- R58: the governor commands a speed; C_prev takes it, and the shaft unit gets it as its demand (R70). -/
def State.command (s : State) (c : Nat) : State :=
  (s.modGov fun g => { g with cPrev := c }).modShaft fun h =>
    { h.setDemand s.gov.active.motion.sStop c with runUp := false }

/-- R30, R56 to R59, R142: the handover of the queue head `e` at a boundary. -/
def State.handover (s : State) (e : QueueEntry) : State :=
  let m := s.gov.active.motion
  let first := s.shaft.runUp
  let before := s.engaged
  let s1 := s.modPlayer fun p => p.takeStopPosition m first s.gov.cPrev e
  let c := commandedSpeed m first s.gov.sCmd s.gov.cPrev (speedBound m s1.player.queue s1.player.stopIndex)
  let s2 := (s1.modPlayer fun p => p.handOver e).command c
  let s3 := s2.modGov fun g => { g with move := beginMove g.active e }
  let s4 := (s3.passHeads e.index e.block).engage
  ((s4.handMonitor e.kind e.index e.dx e.dy before).armHolder e.kind).prefetch

/-- R148: the first boundary of a pass-entry trim. The trim has no record index, and R148 names no colour block for it; the
model gives it the block of the cursor (DESIGN CHOICE, log entry 51). -/
def State.beginEntryTrim (s : State) : State :=
  let before := s.engaged
  let s1 := s.modPlayer fun p =>
    { p with entryTrim := .active, active := some { index := none, kind := .trim, dx := 0, dy := 0, block := s.blockOf p.cursor } }
  let s2 := (s1.command (entryTrimSpeed s.gov.active.motion s.gov.sCmd)).engage
  s2.handMonitor .trim 0 0 0 before

/-- R148: the boundary that ends a pass-entry trim. -/
def State.endEntryTrim (s : State) : State :=
  (((s.endRevolution true).modPlayer fun p => { p with entryTrim := .ending, positionAsked := true }).disengage).positionRequest

/-- R30: the boundary with the player in RUNNING or STOPPING. -/
def State.playerBoundary (s : State) : State :=
  let s1 := s.endRevolution true
  match s1.player.queue with
  | [] => s1.noHandover
  | e :: _ => if s1.player.holdsBack then s1.noHandover else s1.handover e

/-- R70: a revolution boundary. -/
def State.boundary (s : State) : State :=
  match s.player.entryTrim with
  | .asked => s.beginEntryTrim
  | .active => s.endEntryTrim
  | .ending => s
  | .none =>
      match s.player.state with
      | .running => s.playerBoundary
      | .stopping => s.playerBoundary
      | .idle => s
      | .armed => s
      | .changing => s
      | .returning => s
      | .paused _ => s
      | .starved => s
      | .finished => s
      | .halted _ => s

/-! ### Counts of a revolution (R60, R61, R125) -/

/-- R59: the offset of an angle: its distance past W_open, counted forward. -/
def offsetOf (wOpen angle : Nat) : Nat := (angle + 1024 - wOpen) % 1024

/-- R60: the move after the steps of a count `t` µs after the count before it; `last` at the overrun angle. -/
def SewMove.emit (v : SewMove) (a t : Nat) (last : Bool) : SewMove :=
  let x := emitAt v.waitX v.ex (stepsDue v.profile v.slice v.nx (a - 1)) (stepsDue v.profile v.slice v.nx a) t last
  let y := emitAt v.waitY v.ey (stepsDue v.profile v.slice v.ny (a - 1)) (stepsDue v.profile v.slice v.ny a) t last
  { v with ex := v.ex + x.1, waitX := x.2, ey := v.ey + y.1, waitY := y.2 }

/-- R60, R94: the frame unit records the player as owner, the frame not lent. -/
def Frame.sewable (f : Frame) : Bool := f.owner == .player && !f.lent

/-- R60, R87: the steps that took a sewing move from `v` to `v'` are counted; when both axes have emitted their totals the
current move ends. -/
def State.sewn (s : State) (v v' : SewMove) : State :=
  (s.modGov fun g => { g with move := if v'.done then none else some v' }).modFrame fun f =>
    (f.stepX v.xNeg (v'.ex - v.ex)).stepY v.yNeg (v'.ey - v.ey)

/-- R60: the scheduled steps of a count; they are emitted while the player has the frame. -/
def State.sewSteps (s : State) (t : Nat) : State :=
  match s.gov.move with
  | some v =>
      if v.overrun || !s.frame.sewable then s
      else
        let m := s.gov.active.motion
        s.sewn v (v.emit (offsetOf m.wOpen s.shaft.angle) t (s.shaft.angle == overrunAngle m v.kind))
  | none => s

/-- R60: steps of a sewing move that were due at the last count already and go out, at the generators' spacing, within the
`t` µs that follow it without another forward count. -/
def State.heldSteps (s : State) (t : Nat) : State :=
  match s.gov.move with
  | some v =>
      if v.overrun || !s.frame.sewable then s
      else
        let a := offsetOf s.gov.active.motion.wOpen s.shaft.angle
        let x := emitWithin v.waitX (stepsDue v.profile v.slice v.nx a - v.ex) t
        let y := emitWithin v.waitY (stepsDue v.profile v.slice v.ny a - v.ey) t
        s.sewn v { v with ex := v.ex + x.1, waitX := x.2, ey := v.ey + y.1, waitY := y.2 }
  | none => s

/-- R61: the overrun check at its angle. -/
def State.overrunCheck (s : State) : State :=
  match s.gov.move with
  | some v =>
      if !v.overrun && s.shaft.angle == overrunAngle s.gov.active.motion v.kind then
        ((s.modGov fun g => { g with move := some { v with overrun := true } }).latch .moveOverrun
          (b4 v.index ++ b2 (v.nx - v.ex) ++ b2 (v.ny - v.ey))).reportFault .overrun
      else s
  | none => s

/-- R125: the feed window opens and closes at its angles, in STITCH revolutions, in the turn that follows TDC. -/
def State.feedWindow (s : State) : State :=
  match s.thread.rev with
  | some r =>
      let m := s.gov.active.motion
      if r.kind ≠ .stitch ∨ m.wOpen ≤ s.shaft.angle then s
      else if s.shaft.angle = feedOpens m then s.modThread fun t => t.open s.engaged
      else if s.thread.feedOpen ∧ s.shaft.angle = feedCloses m.wOpen then s.closeWindow r
      else s
  | none => s

/-- R70, R60, R61, R125: what a forward count does in TURNING once the angle has moved. -/
def State.turningCount (s : State) (t : Nat) : State :=
  if s.shaft.angle = s.gov.active.motion.wOpen then s.boundary
  else ((s.sewSteps t).overrunCheck).feedWindow

/-! ### Counts of a positioning (R71, R72) -/

/-- R71: a brake point: at creep speed the brake is applied; otherwise the shaft turns on, three times at most. -/
def State.brakePoint (s : State) : State :=
  if s.shaft.sMeas ≤ s.gov.active.motion.sStop + 20 then s.modShaft fun h => { h.noDemand with phase := .braked }
  else if 3 ≤ s.shaft.extra then s.shaftFault .position
  else s.modShaft fun h => { h with extra := h.extra + 1 }

/-- R71, R72: what a forward count does in POSITIONING once the angle has moved. -/
def State.positioningCount (s : State) : State :=
  match s.shaft.phase with
  | .creep => if s.shaft.angle = 1000 ∧ s.shaft.refValid then s.brakePoint else s
  | .correct => if s.shaft.angle = 1016 then s.modShaft fun h => { h.noDemand with phase := .braked } else s
  | .braked => s

/-- R73, R111: a count that takes a HELD shaft outside 0 ± 8: a case move in flight fails, a kept request is kept. -/
def State.leaveHeld (s : State) : State :=
  if atTdc s.shaft.angle then s
  else
    let s1 := s.modShaft fun h => { h with state := .offPosition }
    if s.nc.state = .moving ∨ s.nc.state = .settling then s1.caseFault .shaftMoved else s1

/-- R65, R75: the angle after a count, the stillness over and the stall timer restarted. -/
def Shaft.counted (h : Shaft) (forward : Bool) : Shaft :=
  { h.restartStall with angle := angleAfter h.angle forward, still := false }

/-- R65: one encoder count. A reverse count in TURNING is a shaft fault (R75); steps due before it have gone out (R60). -/
def State.count (s : State) (forward : Bool) (t : Nat) : State :=
  let s1 := s.modShaft fun h => h.counted forward
  match s.shaft.state with
  | .turning =>
      if forward then s1.turningCount t else ((s.heldSteps t).modShaft fun h => h.counted false).shaftFault .reverse
  | .positioning => if forward then s1.positioningCount else s1
  | .held => s1.leaveHeld
  | .off => s1
  | .offPosition => s1
  | .braking => s1
  | .fault => s1

/-! ### The index pulse and the still shaft (R65 to R67, R72, R74, R76) -/

/-- R66: the measured speed at an index pulse. -/
def Shaft.measure (h : Shaft) (forward : Bool) (period : Nat) : Shaft :=
  if forward then
    { h with
      indexForward := true
      sMeas := if h.indexForward then (if period ≤ 2000000 then 60000000 / period else 0) else h.sMeas }
  else { h with indexForward := false, sMeas := 0 }

/-- R65: the angle reference at an index pulse. -/
def State.index (s : State) (forward : Bool) (period : Nat) : State :=
  let s1 := s.modShaft fun h => h.measure forward period
  if !s.shaft.refValid then s1.modShaft fun h => { h with angle := 0, refValid := true }
  else if indexDistance s.shaft.angle ≤ 2 ∨ !s.shaft.driveEnable then s1.modShaft fun h => { h with angle := 0 }
  else s1.shaftFault .index

end Sys2Proof.Machine
end

