-- ==== Sys2Proof/Machine/Positioner.lean ====
section
/-! DEFINITION. The positioner: the checks of its requests, their grant, homing, and the steps of the axis generators
(R61, R91 to R102). -/

namespace Sys2Proof.Machine

/-! ### Requests (R91, R95) -/

/-- R95, checks 1 to 4. -/
def State.positionerRefusal (s : State) : Option Status :=
  if s.estop || !s.frame.readyX || !s.frame.readyY || s.shaft.state == .turning || s.shaft.state == .positioning
      || s.shaft.state == .braking then some .wrongState
  else if s.frame.owner = .positioner then some .busy
  else if s.frame.owner = .player ∧ !s.frame.lent then some .busy
  else if s.player.armed.isSome && s.player.keepFrame then some .inUse
  else none

/-- R95: the request is granted: the owner becomes POSITIONER, the lent flag is kept, an armed design is displaced. -/
def State.grant (s : State) : State :=
  (s.modFrame fun f => { f with owner := .positioner, after := .keep }).modPlayer fun p =>
    { p with displaced := p.displaced || p.armed.isSome }

/-- R95, R92: the operation begins; one without a step to make completes at once (R96). -/
def State.beginOperation (s : State) (op : MoveOp) (targets : List (Int × Int)) : State :=
  let s1 := s.grant.modFrame fun f => f.beginLegs op targets
  if (firstLeg s.frame.x s.frame.y targets).isNone then s1.finishMove none else s1

/-- R91: FIELD_LIMIT latches when a target was clamped, with the requested and the clamped target. -/
def State.fieldLimit (s : State) (asked made : Int × Int) : State :=
  if asked = made then s
  else s.latch .fieldLimit (sBytes4 asked.1 ++ sBytes4 asked.2 ++ sBytes4 made.1 ++ sBytes4 made.2)

/-- R178: a target in whole units of two bytes; a target that is none is a free value (log entry 4). -/
def unitsOf (steps : Int) : Int :=
  if steps % 4 = 0 ∧ fitsUnits (steps / 4) then steps / 4 else Config.offGridUnits steps

/-- The bytes of a target in a reply (R91). -/
def targetBytes (t : Int × Int) : List Byte := sBytes2 (unitsOf t.1) ++ sBytes2 (unitsOf t.2)

/-- R91, R95 check 6, R98, R102: a positioner move to one target, clamped to the active hoop when trust is KNOWN. -/
def State.positionTo (s : State) (op : MoveOp) (asked : Int × Int) : State × List Byte :=
  let made := s.frame.clampTo asked
  if (s.limitAhead (Leg.between s.frame.x s.frame.y made.1 made.2)).isSome then (s, replyOf .wrongState [])
  else ((s.fieldLimit asked made).beginOperation op [made], replyOf .ok (targetBytes made))

/-! ### Homing (R99, R100) -/

/-- R99: the first stage of homing an axis. -/
def State.homeStage (s : State) (a : Axis) : HomeStage := if s.homeActive a then .clear 0 else .search 0

/-- R99: an axis's homing begins. -/
def State.beginHoming (s : State) (a : Axis) : State :=
  s.modFrame fun f => { f with move := some (.homing a (s.homeStage a)) }

/-- R100: the length of the search on an axis. -/
def searchBound : Axis → Nat
  | .x => 56000
  | .y => 28000

/-- R99: what the HOME input's level means for the stage: clearing ends when it is inactive, the search when it is
active. -/
def HomeStage.see (active : Bool) : HomeStage → HomeStage
  | .clear n => if active then .clear n else .clearMore 0
  | .clearMore n => .clearMore n
  | .search n => if active then .backOff 0 else .search n
  | .backOff n => .backOff n

/-- R99: a change of a HOME input reaches the homing in flight. -/
def State.homeInput (s : State) : State :=
  match s.frame.move with
  | some (.homing a st) => s.modFrame fun f => { f with move := some (.homing a (st.see (s.homeActive a))) }
  | some (.legs _ _ _ _) => s
  | none => s

/-- R99: a step of the homing, away from the home direction or toward it, which leaves this stage. -/
def State.homeStep (s : State) (a : Axis) (away : Bool) (next : HomeStage) : State :=
  let positive := s.frame.settings.homePositive a
  s.modFrame fun f =>
    { (f.step a (if away then positive else !positive) 1) with move := some (.homing a next) }

/-- R99: the position of an axis is set to its home offset. -/
def Frame.setHome (f : Frame) (a : Axis) : Frame :=
  match a with
  | .x => { f with x := 4 * f.settings.offX }
  | .y => { f with y := 4 * f.settings.offY }

/-- R99: step 4 of an axis: after X comes Y, after Y the homing completes and trust is KNOWN. -/
def State.homeDone (s : State) (a : Axis) : State :=
  let s1 := s.modFrame fun f => f.setHome a
  match a with
  | .x => s1.beginHoming .y
  | .y => (s1.modFrame fun f => { f with known := true }).finishMove none

/-- R99, R100: one step of the homing in flight. At the bound of a stage no step is emitted: the homing has failed, which
HOMING_SEARCH_LIMIT reports. A HOME input that stands active again when the 40 more steps end leaves the search without a
step (DEDUCED, log entry 41). -/
def State.homingStep (s : State) (a : Axis) (stage : HomeStage) : State :=
  match stage.see (s.homeActive a) with
  | .clear n => if n < 4000 then s.homeStep a true (.clear (n + 1)) else s
  | .clearMore n =>
      if n + 1 < 40 then s.homeStep a true (.clearMore (n + 1))
      else s.homeStep a true ((HomeStage.search 0).see (s.homeActive a))
  | .search n => if n < searchBound a then s.homeStep a false (.search (n + 1)) else s
  | .backOff n =>
      if n + 1 < 40 then s.homeStep a true (.backOff (n + 1)) else (s.homeStep a true (.backOff (n + 1))).homeDone a

/-- R100: the homing in flight has exceeded its step bound. -/
def State.homingLimit (s : State) : State :=
  match s.frame.move with
  | some (.homing a (.clear n)) => if 4000 ≤ n ∧ s.homeActive a then s.axisFault .homeStuck else s
  | some (.homing a (.search n)) => if searchBound a ≤ n ∧ !s.homeActive a then s.axisFault .homeNotFound else s
  | some (.homing _ (.clearMore _)) => s
  | some (.homing _ (.backOff _)) => s
  | some (.legs _ _ _ _) => s
  | none => s

/-! ### Axis steps (R92, R93, R61) -/

/-- R92, R96, R97: a leg has made its last step: the next leg begins, or the move completes and the player is told.
FRAME_DONE latches before the PLAYER_STATE that the completion may bring (DEDUCED, log entry 46). -/
def State.legDone (s : State) (op : MoveOp) (rest : List (Int × Int)) : State :=
  match firstLeg s.frame.x s.frame.y rest with
  | some (leg, rest') => s.modFrame fun f => { f with move := some (.legs op leg rest' none) }
  | none =>
      let s1 := s.finishMove none
      match op with
      | .leadIn => s1.playerMoveDone
      | .returnMove => s1.playerMoveDone
      | .go => s1
      | .home => s1
      | .trace => s1
      | .park => s1

/-- R92, R93: the leading axis emits a step, with those of the other axis that go out with it. -/
def State.legStep (s : State) (op : MoveOp) (leg : Leg) (rest : List (Int × Int)) (slowing : Option AbortCause) : State :=
  let leg' := leg.advance s.frame.settings.rPos slowing.isSome
  let s1 := s.modFrame fun f => { (f.follow leg leg') with move := some (.legs op leg' rest slowing) }
  match slowing with
  | some c => if leg'.done || decide (leg'.rateSq ≤ 4000000) then s1.finishMove (some c) else s1
  | none => if leg'.done then s1.legDone op rest else s1

/-- R60, R61: the steps of an axis of a sewing move that may go out by now: all of them once the move is overrun, else
those due at the shaft angle. -/
def State.sewDue (s : State) (v : SewMove) (total : Nat) : Nat :=
  if v.overrun then total else stepsDue v.profile v.slice total (offsetOf s.gov.active.motion.wOpen s.shaft.angle)

/-- R60, R61: an axis emits a step of a sewing move that the generator's spacing held back, or an owed step of an overrun
move; its next one is 20 µs later. With the last of them the move ends and a lending that waited for it is made (R94). -/
def State.owedStep (s : State) (a : Axis) (v : SewMove) : State :=
  let v' : SewMove :=
    match a with
    | .x => if v.ex < s.sewDue v v.nx then { v with ex := v.ex + 1, waitX := v.waitX + 20 } else v
    | .y => if v.ey < s.sewDue v v.ny then { v with ey := v.ey + 1, waitY := v.waitY + 20 } else v
  let s1 := (s.modGov fun g => { g with move := some v' }).modFrame fun f =>
    (f.stepX v.xNeg (v'.ex - v.ex)).stepY v.yNeg (v'.ey - v.ey)
  if v'.done then s1.abandonSewing else s1

/-- R92, R99, R60, R61: an axis's generator emits its next timed step. A step of the axis that does not lead a held-shaft
move goes out with the leading axis's. -/
def State.axisStepNow (s : State) (a : Axis) : State :=
  match s.gov.move with
  | some v => if s.frame.sewable then s.owedStep a v else s
  | none =>
      match s.frame.move with
      | some (.legs op leg rest slowing) => if leg.leads = a then s.legStep op leg rest slowing else s
      | some (.homing b stage) => if b = a then s.homingStep a stage else s
      | none => s

end Sys2Proof.Machine
end

