-- ==== Sys2Proof/Machine/Inputs.lean ====
section
/-! DEFINITION. The condition inputs: their latches, their machine functions, a line's change and its settling; and the
E-STOP line (R133, R140, R161 to R167). -/

namespace Sys2Proof.Machine

/-- Changes input `n`. -/
def State.modInput (s : State) (n : Nat) (f : Input → Input) : State :=
  s.modEv fun e => { e with inputs := updAt n f e.inputs }

/-- R133: what the latching of BOBBIN_h does for a fitted head. -/
def State.bobbinLatched (s : State) (h : Nat) : State :=
  match s.heads.head h with
  | none => s
  | some d =>
      let s1 := (s.modHeads fun hs => hs.modHead h fun e => { e with bobbinLow := true }).latch .bobbinLow (b1 h)
      if s1.thread.bobbinPolicy = .stop ∧ d.enabled then s1.plannedStop .bobbinStop none else s1

/-- R163, R166: the latch of input `n` is set: the input is disarmed, INPUT latches where the report field is yes, and a
BOBBIN input acts. -/
def State.latchInput (s : State) (n : Nat) (i : Input) : State :=
  let s1 := s.modInput n fun j => { j with latch := true, armed := false }
  let s2 := if i.report then s1.latch .input (b1 n ++ bFlag i.levelNow) else s1
  if n < 12 then s2.bobbinLatched (n + 1) else s2

/-- R163: a level input that is active latches while its latch is clear. -/
def State.latchLevel (s : State) (n : Nat) : State :=
  match s.ev.inputs[n]? with
  | some i => if i.mode.isLevel && i.isActive && !i.latch then s.latchInput n i else s
  | none => s

/-- R163: whether an edge to this level is one that the mode takes. -/
def InputMode.takes (m : InputMode) (high : Bool) : Bool :=
  match m with
  | .rising => high
  | .falling => !high
  | .both => true
  | .levelHigh => false
  | .levelLow => false

/-- R140: the switch field of a fitted head follows the input. -/
def State.followSwitch (s : State) (n : Nat) (on : Bool) : State :=
  if 12 ≤ n ∧ n < 24 then s.modHeads fun hs => { hs with table := updAt (n - 12) (fun h => { h with switch := on }) hs.table }
  else s

/-- R88, R166: the axis fault that a LIMIT input's change to active is. -/
def limitCause (n : Nat) : Option AxisCause :=
  match n with
  | 26 => some .limitXN
  | 27 => some .limitXP
  | 28 => some .limitYN
  | 29 => some .limitYP
  | _ => none

/-- R166: a press of START_BTN, ignored wherever START and RESUME would be refused. -/
def State.startPress (s : State) : State :=
  if s.startRefusal.isNone then s.startNow else if s.resumeRefusal.isNone then s.resumeNow else s

/-- R166: a press of STOP_BTN. -/
def State.stopPress (s : State) : State := (s.askStop .buttonStop).getD s

/-- R166: the machine functions of a change to active. -/
def State.becameActive (s : State) (n : Nat) : State :=
  match limitCause n with
  | some c => s.axisFault c
  | none => if n = 24 then s.startPress else if n = 25 then s.stopPress else s

/-- R166: the machine functions of input `n` once its active state has changed to `on`. -/
def State.activeChanged (s : State) (n : Nat) (on : Bool) : State :=
  let s1 := (s.followSwitch n on).homeInput
  if on then s1.becameActive n else s1

/-- R162: the filtered level of input `n` takes the raw level. The first one taken after a reset is a starting level and
no change; a homing in flight, which reads the active state, sees it all the same (DEDUCED, log entry 52). -/
def State.takeLevel (s : State) (n : Nat) (i : Input) : State :=
  let now : Input := { i with level := some i.raw }
  let s1 := s.modInput n fun j => { j with level := some j.raw }
  match i.level with
  | none => ((s1.latchLevel n).followSwitch n now.isActive).homeInput
  | some l =>
      if l = i.raw then s
      else
        let s2 := if i.mode.takes i.raw && i.armed then s1.latchInput n now else s1.latchLevel n
        if now.isActive = i.isActive then s2 else s2.activeChanged n now.isActive

/-- R162: the raw line of the input has held its level for the filter time. -/
def State.settleInput (s : State) (n : Nat) : State :=
  match s.ev.inputs[n]? with
  | some i => s.takeLevel n i
  | none => s

/-- R162: a raw line changes; with a filter of 0 the filtered level follows at once. Line 32 is the E-STOP line. -/
def State.rawLine (s : State) (line : Nat) (high : Bool) : State :=
  if line = 32 then s.modEv fun e => { e with estopRaw := high } else s.modInput line fun i => { i with raw := high }

/-- R162: with a filter of 0 the filtered level follows the raw line at once. -/
def State.followUnfiltered (s : State) (line : Nat) : State :=
  match s.ev.inputs[line]? with
  | some i => if i.filter = 0 then s.takeLevel line i else s
  | none => s

/-- A clear of input `n`'s latch arms it again; a BOBBIN input's clear clears the head's flag (R133, R163). -/
def State.clearInput (s : State) (n : Nat) : State :=
  let s1 := s.modInput n fun i => { i with latch := false, armed := true }
  if n < 12 then s1.modHeads fun hs => hs.modHead (n + 1) fun h => { h with bobbinLow := false } else s1

/-! ### The E-STOP line (R167) -/

/-- R167: a frame move is in flight. -/
def State.frameMoving (s : State) : Bool := s.frame.move.isSome || s.gov.move.isSome

/-- R167: the assertion's report to each block. The manual leaves their order open; the frame unit's comes first, then the
shaft unit's, the needle case unit's and the player's (DEDUCED, log entry 44). -/
def State.estopReports (s : State) : State :=
  (((s.stopFrame .estop).brakeRequest).modCase NeedleCase.abandon).reportFault .estop

/-- R167: the assertion of the E-STOP line; a line that is asserted already cannot go low again. -/
def State.estopAssert (s : State) : State :=
  if s.ev.estop = some false then s
  else
  let s1 := s.modEv fun e => { e with estopRaw := false, estop := some false }
  (s1.latch .estop (b1 s.player.state.code ++ bFlag s.frameMoving)).estopReports

/-- R167: the release of the E-STOP line; nothing latches. -/
def State.estopReleaseNow (s : State) : State := s.modEv fun e => { e with estopRaw := true, estop := some true }

end Sys2Proof.Machine
end

