-- ==== Sys2Proof/Machine/EventRequests.lean ====
section
/-! DEFINITION. The requests of the input and event unit, and STATUS (R164, R165, R169, R180). -/

namespace Sys2Proof.Machine

/-- R169: NOTIFY_ON and NOTIFY_OFF. -/
def State.serveNotify (s : State) (mask : Nat) (on : Bool) : Served :=
  let m := BitVec.ofNat 16 mask
  let v := if on then s.ev.subscribed ||| m else s.ev.subscribed &&& ~~~m
  okWith (s.modEv fun e => { e with subscribed := v }) (b2 v.toNat)

/-- R169: EVENTS_CLEAR. -/
def State.serveEventsClear (s : State) (mask : Nat) : Served :=
  let v := s.ev.flags &&& ~~~(BitVec.ofNat 16 mask)
  okWith (s.modEv fun e => { e with flags := v }) (b2 v.toNat)

/-- R164: a LIMIT or HOME input while the frame unit has a move in flight. -/
def State.inputBusy (s : State) (input : Nat) : Bool := decide (26 ≤ input) && s.frameMoving

/-- R164: the input judged afresh after a new mode: a level mode may latch, and a change of the active level is a change
of the active state. -/
def State.judgeAfresh (s : State) (input : Nat) (wasActive : Bool) : State :=
  let s1 := s.latchLevel input
  let on := s1.inputActive input
  if on = wasActive then s1 else s1.activeChanged input on

/-- R164, R162: an accepted SET_INPUT. The filtered level is kept; a new filter time applies to the next timing. -/
def State.setInputNow (s : State) (input : Nat) (mode : InputMode) (filter : Nat) (report : Bool) : State :=
  let was := s.inputActive input
  let s1 := s.clearInput input
  let s2 := s1.modInput input fun i => { i with mode := mode, filter := filter, report := report }
  s2.judgeAfresh input was

/-- R164: SET_INPUT. -/
def State.serveSetInput (s : State) (input mode filter report : Nat) : Served :=
  match InputMode.ofCode mode, flagField report with
  | some m, some r =>
      if 31 < input then refuse s .badValue
      else if s.inputBusy input then refuse s .busy
      else
        let f := clampNat 0 31 filter
        okWith (s.setInputNow input m f r) (b1 m.code ++ b1 f ++ bFlag r)
  | _, _ => refuse s .badValue

/-- R165: the latches of all 32 inputs. -/
def State.latchMask (s : State) : Nat := maskOf (s.ev.inputs.map Input.latch)

/-- R165: one named input is cleared; a level input that is still active latches again at once. -/
def State.clearNamed (mask : Nat) (s : State) (n : Nat) : State :=
  if maskHas mask n then (s.clearInput n).latchLevel n else s

/-- R165: INPUT_CLEAR. Inputs that latch again do so in ascending number (DESIGN CHOICE, log entry 45). -/
def State.serveInputClear (s : State) (mask : Nat) : Served :=
  let s1 := (List.range 32).foldl (State.clearNamed mask) s
  okWith s1 (b4 s1.latchMask)

/-- R165: an input as INPUT_INFO reports it. A level is sent low 0, high 1, as R186 codes that of the INPUT notice (DEDUCED,
log entry 14). -/
def Input.reportBytes (i : Input) : List Byte :=
  b1 i.mode.code ++ b1 i.filter ++ bFlag i.report ++ bFlag i.raw ++ bFlag i.levelNow ++ bFlag i.isActive ++ bFlag i.latch
    ++ bFlag i.armed

/-- R165: INPUT_INFO; the E-STOP line's filtered level is high until a first one is taken (R162). -/
def State.serveInputInfo (s : State) : Served :=
  okWith s (s.ev.inputs.flatMap Input.reportBytes ++ bFlag s.ev.estopRaw ++ bFlag (s.ev.estop.getD true))

/-! ### STATUS (R180, R186) -/

/-- R169: the pending events are the latched flags that are subscribed. -/
def Events.pending (e : Events) : BitVec 16 := e.flags &&& e.subscribed

/-- R186: the frame byte. -/
def State.frameByte (s : State) : Nat :=
  s.frame.owner.code + (if s.frame.lent then 4 else 0) + (if s.player.displaced then 8 else 0) + (if s.frame.known then 16 else 0)

/-- R186: a head summary byte. -/
def Head.summary (h : Head) : Nat :=
  (if h.enabled then 1 else 0) + (if h.switch then 2 else 0) + 4 * h.condition.code + 16 * h.role.code
    + (if h.engaged then 64 else 0) + (if h.bobbinLow then 128 else 0)

/-- R186: the head summary, twelve bytes. -/
def Heads.summaries (hs : Heads) : List Byte :=
  (List.range 12).flatMap fun i => b1 ((hs.table[i]?.map Head.summary).getD 0)

/-- R180, R186: the detail of the STATUS reply, 49 bytes. -/
def State.statusDetail (s : State) : List Byte :=
  b1 s.player.state.code ++ o1 s.player.state.reason ++ b1 s.player.mode.code ++ b2 (s.player.armed.getD 0)
    ++ b4 s.player.cursor ++ b4 s.player.resume ++ b2 s.gov.sCmd ++ b2 s.gov.cPrev ++ b2 s.shaft.sMeas ++ b1 s.shaft.state.code
    ++ b1 s.nc.pos ++ o1 s.player.preselect ++ b1 s.frameByte ++ sBytes4 s.frame.x ++ sBytes4 s.frame.y
    ++ b1 s.heads.repairs.length ++ b2 s.ev.pending.toNat ++ b1 s.ev.cause.code ++ b1 s.straps.heads ++ b1 s.straps.needles
    ++ s.heads.summaries

/-- R180: STATUS. -/
def State.serveStatus (s : State) : Served := okWith s s.statusDetail

end Sys2Proof.Machine
end

