-- ==== Sys2Proof/Machine/FrameRequests.lean ====
section
/-! DEFINITION. The requests of the frame unit: the positioner operations, the settings and tables, and FRAME_INFO (R90,
R91, R95, R98 to R103). -/

namespace Sys2Proof.Machine

/-- R95: a positioner request: its own checks follow checks 1 to 4. -/
def State.positioner (s : State) (own : State → Served) : Served :=
  match s.positionerRefusal with
  | some st => refuse s st
  | none => own s

/-- R98: FRAME_GO: mode 0 ABSOLUTE, 1 RELATIVE. -/
def State.serveFrameGo (s : State) (mode : Nat) (x y : Int) : Served :=
  s.positioner fun s =>
    if 1 < mode ∨ x = -32768 ∨ y = -32768 then refuse s .badValue
    else if mode = 0 then
      (if s.frame.known then s.positionTo .go (4 * x, 4 * y) else refuse s .notHomed)
    else s.positionTo .go (s.frame.x + 4 * x, s.frame.y + 4 * y)

/-- R99: FRAME_HOME. -/
def State.serveFrameHome (s : State) : Served :=
  s.positioner fun s =>
    if s.homeBlocked .x || s.homeBlocked .y then refuse s .wrongState else okWith (s.grant.beginHoming .x) []

/-- R101: the six legs of a trace. -/
def traceLegs (o : Int × Int) (b : Box) (p : Int × Int) : List (Int × Int) :=
  [(o.1 + 4 * b.xmin, o.2 + 4 * b.ymin), (o.1 + 4 * b.xmax, o.2 + 4 * b.ymin), (o.1 + 4 * b.xmax, o.2 + 4 * b.ymax),
   (o.1 + 4 * b.xmin, o.2 + 4 * b.ymax), (o.1 + 4 * b.xmin, o.2 + 4 * b.ymin), p]

/-- R101: FRAME_TRACE. -/
def State.serveFrameTrace (s : State) : Served :=
  s.positioner fun s =>
    match s.armedDesign with
    | none => refuse s .wrongState
    | some d =>
        if !s.frame.known then refuse s .notHomed
        else
          let o := s.player.origin.getD (0, 0)
          let first : Leg := Leg.between s.frame.x s.frame.y (o.1 + 4 * d.box.xmin) (o.2 + 4 * d.box.ymin)
          if (s.limitAhead first).isSome then refuse s .wrongState
          else okWith (s.beginOperation .trace (traceLegs o d.box (s.frame.x, s.frame.y))) []

/-- R102: FRAME_PARK. -/
def State.serveFramePark (s : State) : Served :=
  s.positioner fun s =>
    if s.frame.known then s.positionTo .park (4 * s.frame.settings.parkX, 4 * s.frame.settings.parkY)
    else refuse s .notHomed

/-- R102: the positioner settings in the order of SET_FRAME. -/
def FrameSettings.bytes (f : FrameSettings) : List Byte :=
  bFlag f.dirX ++ bFlag f.dirY ++ sBytes2 f.offX ++ sBytes2 f.offY ++ sBytes2 f.parkX ++ sBytes2 f.parkY ++ b2 f.rPos

/-- R102: SET_FRAME. -/
def State.serveSetFrame (s : State) (dirX dirY : Nat) (offX offY parkX parkY : Int) (rPos : Nat) : Served :=
  match flagField dirX, flagField dirY with
  | some dx, some dy =>
      if s.positionerBusy || s.frame.move.isSome then refuse s .busy
      else
        let f : FrameSettings :=
          { dirX := dx, dirY := dy, offX := clampInt (-6000) 6000 offX, offY := clampInt (-2500) 2500 offY,
            parkX := clampInt (-6000) 6000 parkX, parkY := clampInt (-2500) 2500 parkY, rPos := clampNat 2000 40000 rPos }
        okWith (s.modFrame fun g => { g with settings := f }) f.bytes
  | _, _ => refuse s .badValue

/-- R90: SET_HOOP. -/
def State.serveSetHoop (s : State) (entry : Nat) (xmin xmax ymin ymax : Int) : Served :=
  if entry = 0 ∨ 7 < entry ∨ xmin = -32768 ∨ xmax = -32768 ∨ ymin = -32768 ∨ ymax = -32768 ∨ xmax < xmin ∨ ymax < ymin then
    refuse s .badValue
  else if entry = s.frame.hoop ∧ s.player.state ≠ .idle then refuse s .inUse
  else
    let b : Box :=
      { xmin := clampInt (-6000) 6000 xmin, xmax := clampInt (-6000) 6000 xmax, ymin := clampInt (-2500) 2500 ymin,
        ymax := clampInt (-2500) 2500 ymax }
    okWith (s.modFrame fun f => { f with hoops := updAt entry (fun _ => b) f.hoops }) (bBox b)

/-- R91: HOOP_SELECT. -/
def State.serveHoopSelect (s : State) (entry : Nat) : Served :=
  if 7 < entry then refuse s .badValue
  else if s.player.state ≠ .idle then refuse s .wrongState
  else okWith (s.modFrame fun f => { f with hoop := entry }) (bBox (s.frame.hoops.getD entry fullTravel))

/-- R103: the axis of a homing, X 0 and Y 1. -/
def axisCode : Axis → Nat
  | .x => 0
  | .y => 1

/-- R103: the positioner operation in flight. -/
def Frame.operation (f : Frame) : Option MoveOp :=
  match f.owner with
  | .positioner => f.move.map FrameMove.op
  | .player => none
  | .none => none

/-- R103, R178: the leg of a trace in flight, coded by its position, counted from 0, in R101's list of six moves. -/
def FrameMove.traceLeg : FrameMove → Option Nat
  | .legs .trace _ rest _ => some (5 - rest.length)
  | .legs .go _ _ _ => none
  | .legs .home _ _ _ => none
  | .legs .park _ _ _ => none
  | .legs .leadIn _ _ _ => none
  | .legs .returnMove _ _ _ => none
  | .homing _ _ => none

/-- R103: the axis of a homing in flight. -/
def FrameMove.homingAxis : FrameMove → Option Nat
  | .homing a _ => some (axisCode a)
  | .legs _ _ _ _ => none

/-- R103: the held-shaft move in flight, LEAD_IN 0 or RETURN 1. -/
def FrameMove.heldMove : FrameMove → Option Nat
  | .legs .leadIn _ _ _ => some 0
  | .legs .returnMove _ _ _ => some 1
  | .legs .go _ _ _ => none
  | .legs .home _ _ _ => none
  | .legs .trace _ _ _ => none
  | .legs .park _ _ _ => none
  | .homing _ _ => none

/-- R103: FRAME_INFO; KNOWN is 0 and UNKNOWN 1 in the order of R87. -/
def State.serveFrameInfo (s : State) : Served :=
  let f := s.frame
  okWith s
    (sBytes4 f.x ++ sBytes4 f.y ++ b1 (if f.known then 0 else 1) ++ b1 f.owner.code ++ bFlag f.lent
      ++ o1 (f.operation.map MoveOp.code) ++ o1 (f.move.bind FrameMove.traceLeg) ++ o1 (f.move.bind FrameMove.homingAxis)
      ++ o1 (f.move.bind FrameMove.heldMove) ++ b1 f.hoop ++ f.hoops.flatMap bBox ++ f.settings.bytes
      ++ [26, 27, 28, 29, 30, 31].flatMap (fun n => bFlag (s.inputActive n)) ++ bFlag f.readyX ++ bFlag f.readyY)

end Sys2Proof.Machine
end

