-- ==== Sys2Proof/Machine/GovernorRequests.lean ====
section
/-! DEFINITION. The requests of the speed governor and of the actuator outputs (R51 to R54, R84, R85). -/

namespace Sys2Proof.Machine

/-- The derived windows and slice widths of a set: W_open, Wm, effective Wj and the two slice widths (R51). -/
def Motion.derived (m : Motion) : List Byte :=
  b2 m.wOpen ++ b2 m.wm ++ b2 m.wjEff ++ b2 (m.wm / 16) ++ b2 (m.wjEff / 16)

/-- R51, R52: the set a write went to, active 0 or pending 1. -/
def setCode (toPending : Bool) : List Byte := b1 (if toPending then 1 else 0)

/-- R50, R75: the governor's sets after an accepted write. One to the active set may change the S_stop that the stall timer
is held against; one to the pending set leaves the active set alone. -/
def State.setsWritten (s : State) (g : Governor) : State :=
  let s1 := s.modGov fun _ => g
  if s.player.state.writesPending then s1 else s1.modShaft fun h => h.judgeStall g.active.motion.sStop

/-- R51: SET_MOTION. -/
def State.serveSetMotion (s : State) (settings : List Nat) : Served :=
  let m := Motion.clamped settings
  let toPending := s.player.state.writesPending
  match s.gov.write toPending fun set => { set with motion := m } with
  | (_, some c) => (s, replyOf .badValue (b1 c.code))
  | (g, none) => okWith (s.setsWritten g) (m.toList.flatMap b2 ++ m.derived ++ setCode toPending)

/-- R52: SET_PROFILE. -/
def State.serveSetProfile (s : State) (points : List Nat) : Served :=
  let toPending := s.player.state.writesPending
  match s.gov.write toPending fun set => { set with profile := points } with
  | (_, some c) => (s, replyOf .badValue (b1 c.code))
  | (g, none) => okWith (s.setsWritten g) (points.flatMap b2 ++ b2 (steepest points) ++ setCode toPending)

/-- R53: a set with its derived values. -/
def MotionSet.report (s : MotionSet) : List Byte :=
  s.motion.toList.flatMap b2 ++ s.profile.flatMap b2 ++ b2 (steepest s.profile) ++ s.motion.derived

/-- R53: GET_SETTINGS. -/
def State.serveGetSettings (s : State) : Served :=
  let g := s.gov
  okWith s (g.active.report ++ bFlag g.pendingFlag ++ (if g.pendingFlag then g.pending else g.active).report ++ b2 g.sCmd)

/-- R54: SPEED. -/
def State.serveSpeed (s : State) (rpm : Nat) : Served :=
  let v := clampNat s.gov.active.motion.sStop s.gov.active.motion.sMax rpm
  okWith (s.modGov fun g => { g with sCmd := v }) (b2 v)

/-! ### Outputs -/

/-- R84: the outputs of SET_OUTPUT. -/
inductive OutKind where
  | hold
  | trim
  | holder
  deriving DecidableEq, Repr

/-- R84: the kind a code names. -/
def OutKind.ofCode : Nat → Option OutKind
  | 0 => some .hold
  | 1 => some .trim
  | 2 => some .holder
  | _ => none

/-- R84: head 0 names the output of every head. -/
def named (head h : Nat) : Bool := head == 0 || head == h

/-- R84: the named outputs. -/
def Outputs.pick (o : Outputs) (kind : OutKind) (head : Nat) : List Output :=
  match kind with
  | .hold => (o.hold.zipIdx 1).filterMap fun p => if named head p.2 then some p.1 else none
  | .trim => (o.trim.zipIdx 1).filterMap fun p => if named head p.2 then some p.1 else none
  | .holder => [o.holder]

/-- R84: the named outputs take a mode and a polarity. -/
def Outputs.set (o : Outputs) (kind : OutKind) (head : Nat) (v : Output) : Outputs :=
  match kind with
  | .hold => { o with hold := mapFrom 1 (fun h c => if named head h then v else c) o.hold }
  | .trim => { o with trim := mapFrom 1 (fun h c => if named head h then v else c) o.trim }
  | .holder => { o with holder := v }

/-- R84: forced modes and changes of polarity are taken with the shaft HELD or OFF and the player not RUNNING. -/
def State.outputsFree (s : State) : Bool :=
  (s.shaft.state == .held || s.shaft.state == .off) && s.player.state != .running

/-- R84: SET_OUTPUT. -/
def State.serveSetOutput (s : State) (kind head mode polarity : Nat) : Served :=
  match OutKind.ofCode kind, OutMode.ofCode mode, Polarity.ofCode polarity with
  | some k, some m, some p =>
      if k ≠ .holder ∧ s.straps.heads < head then refuse s .badValue
      else if (m ≠ .auto ∨ (s.outs.pick k head).any fun c => c.polarity != p) ∧ !s.outputsFree then refuse s .inUse
      else okWith (s.modOuts fun o => o.set k head ⟨m, p⟩) (b1 m.code ++ b1 p.code)
  | _, _, _ => refuse s .badValue

/-- R85: an output with its present value. -/
def Output.report (o : Output) (value : Option Bool) : List Byte := b1 o.mode.code ++ b1 o.polarity.code ++ b1 (valueCode value)

/-- R85: OUTPUT_INFO. -/
def State.serveOutputInfo (s : State) : Served :=
  okWith s
    ((s.outs.hold.zipIdx 1).flatMap (fun p => p.1.report (s.holdValue p.2))
      ++ (s.outs.trim.zipIdx 1).flatMap (fun p => p.1.report (s.trimValue p.2))
      ++ s.outs.holder.report s.holderValue ++ bFlag s.outs.kill ++ bFlag s.estop ++ b1 s.outs.holderCount)

end Sys2Proof.Machine
end

