-- ==== Sys2Proof/Machine/HeadRequests.lean ====
section
/-! DEFINITION. The requests of the head and repair unit (R139, R145, R146, R156, R158, R159). -/

namespace Sys2Proof.Machine

/-- R139: the enabled flags of every head. -/
def Heads.enabledMask (hs : Heads) : Nat := hs.mask Head.enabled

/-- R139: the named heads are enabled or disabled together. -/
def Heads.enable (hs : Heads) (mask : Nat) (on : Bool) : Heads :=
  { hs with table := mapFrom 0 (fun i h => if maskHas mask i then { h with enabled := on } else h) hs.table }

/-- R139: HEADS_ON and HEADS_OFF. -/
def State.serveEnable (s : State) (mask : Nat) (on : Bool) : Served :=
  if maskAbove s.straps.heads mask then refuse s .badValue
  else
    let hs := s.heads.enable mask on
    okWith (s.modHeads fun _ => hs) (b2 hs.enabledMask)

/-- R145: a pass is under way, being entered, or asked for. -/
def State.passHeld (s : State) : Bool :=
  s.player.mode == .repair || s.heads.inPass || s.player.stopReason == some .repair

/-- R145: REPAIR_CANCEL. -/
def State.serveRepairCancel (s : State) (mask : Nat) : Served :=
  if maskAbove s.straps.heads mask then refuse s .badValue
  else if s.passHeld then refuse s .wrongState
  else if (s.heads.selected mask).isEmpty then refuse s .notFound
  else
    let gone := fun h => (s.heads.selected mask).any fun r => r.head == h
    okWith (s.removeRecords gone) (b2 (maskOf ((List.range s.straps.heads).map fun i => gone (i + 1))))

/-- R146: the first failing check of REPAIR. A pass is being entered while some role is WAITING or ACTIVE, and while the
player holds the reason REPAIR or makes the entry trim. -/
def State.repairRefusal (s : State) (mask : Nat) : Option Status :=
  if maskAbove s.straps.heads mask then some .badValue
  else if s.player.mode == .repair || s.heads.inPass then some .busy
  else if !(s.player.state.isPaused || s.player.state == .finished || s.player.state == .running) then some .wrongState
  else if s.estop || s.shaftStopped then some .wrongState
  else if (s.heads.selected mask).isEmpty then some .notFound
  else if !s.frame.known then some .notHomed
  else if s.positionerBusy then some .busy
  else none

/-- R146: an accepted REPAIR: in RUNNING a planned stop, else the pass begins at once. -/
def State.repairNow (s : State) (mask : Nat) : State :=
  let s1 := s.modHeads fun hs => { hs with selection := some mask }
  match s.player.state with
  | .running => s1.plannedStop .repair none
  | .paused r => ((s1.modFrame Frame.take).modOuts Outputs.allAuto).passBegin (.paused r)
  | .finished => ((s1.modFrame Frame.take).modOuts Outputs.allAuto).passBegin .finished
  | .idle => s1
  | .armed => s1
  | .stopping => s1
  | .changing => s1
  | .returning => s1
  | .starved => s1
  | .halted _ => s1

/-- R146: REPAIR. -/
def State.serveRepair (s : State) (mask : Nat) : Served :=
  match s.repairRefusal mask with
  | some st => refuse s st
  | none => okWith (s.repairNow mask) []

/-- R156: REPAIR_END; the reply carries the heads made BROKEN. -/
def State.serveRepairEnd (s : State) : Served :=
  if s.player.state.isPaused && s.player.mode == .repair then
    okWith s.leavePass.refill (b2 (s.heads.mask fun h => h.role == .active))
  else refuse s .wrongState

/-- R158: REPAIR_SETUP. -/
def State.serveRepairSetup (s : State) (overlap trim : Nat) : Served :=
  match flagField trim with
  | none => refuse s .badValue
  | some on =>
      let o := clampNat 0 15 overlap
      okWith (s.modHeads fun hs => { hs with overlap := o, trimOn := on }) (b1 o ++ bFlag on)

/-- R159: a head's fields in the order of R138. -/
def Head.report (mode : PassMode) (h : Head) : List Byte :=
  bFlag h.enabled ++ bFlag h.switch ++ b1 h.condition.code ++ b1 h.role.code ++ o4 h.start ++ bFlag h.engaged
    ++ bFlag (h.eligible mode) ++ bFlag h.bobbinLow

/-- R143, R159: a repair record's fields in their order. -/
def RepairRecord.report (r : RepairRecord) : List Byte :=
  b1 r.head ++ b2 r.design ++ b4 r.point ++ b1 r.cause.code ++ b1 r.needle ++ b2 r.block

/-- R159: the pass selection as it is reported: none while no pass is begun or entered, so not yet while a REPAIR taken in
RUNNING waits for its stop (R146, R147). -/
def Heads.reportedSelection (hs : Heads) : Option Nat := hs.passEnd.bind fun _ => hs.selection

/-- R159: HEAD_INFO. -/
def State.serveHeadInfo (s : State) : Served :=
  let hs := s.heads
  okWith s
    (hs.table.flatMap (Head.report s.player.mode) ++ b1 hs.repairs.length ++ hs.repairs.flatMap RepairRecord.report
      ++ b1 s.player.mode.code ++ o4 hs.passEnd ++ o4 hs.passStart ++ o2 hs.reportedSelection ++ o1 (hs.lastKind.map RecKind.code)
      ++ bFlag hs.leftPass ++ b1 hs.overlap ++ bFlag hs.trimOn)

end Sys2Proof.Machine
end

