-- ==== Sys2Proof/Machine/PlayerRequests.lean ====
section
/-! DEFINITION. The requests of the stitch player, ARM to KEEP_FRAME (R24 to R27, R31, R32, R36, R41, R44). -/

namespace Sys2Proof.Machine

/-- R25 check 1, R27: ARM is taken in IDLE, ARMED and FINISHED. -/
def PlayerState.armable : PlayerState → Bool
  | .idle => true
  | .armed => true
  | .finished => true
  | .running => false
  | .stopping => false
  | .changing => false
  | .returning => false
  | .paused _ => false
  | .starved => false
  | .halted _ => false

/-- R25 check 8: the declared box, placed at the frame's position, lies within the hoop field. -/
def boxFits (field box : Box) (x y : Int) : Bool :=
  decide (4 * field.xmin ≤ x + 4 * box.xmin ∧ x + 4 * box.xmax ≤ 4 * field.xmax ∧ 4 * field.ymin ≤ y + 4 * box.ymin ∧
    y + 4 * box.ymax ≤ 4 * field.ymax)

/-- R25: the first failing check of ARM. -/
def State.armRefusal (s : State) (design hoop : Nat) : Option Status :=
  if !s.player.state.armable then some .wrongState
  else if 7 < hoop then some .badValue
  else
    match s.store.find design with
    | none => some .notFound
    | some d =>
        if d.state = .failed then some .wrongState
        else if !s.heads.repairs.isEmpty then some .inUse
        else if !s.frame.known then some .notHomed
        else if s.positionerBusy then some .busy
        else if !boxFits (s.frame.hoops.getD hoop fullTravel) d.box s.frame.x s.frame.y then some .outOfField
        else none

/-- R26: the armed pin moves to the design. -/
def Store.moveArmedPin (st : Store) (design : Nat) : Store :=
  { st with dir := st.dir.map fun o => o.map fun d => { d with armedPin := d.number == design } }

/-- R26: the player after an ARM, before the prefetcher fills the queue. -/
def Player.armAt (p : Player) (design : Nat) (x y : Int) : Player :=
  { p.clearStop with
    state := .armed, armed := some design, origin := some (x, y), mode := .normal, cursor := 0, resume := 0,
    saved := .paused .hostStop, active := none, interrupted := none, displaced := false,
    history := List.replicate 256 none, preselect := none, queue := [], recovering := false }

/-- R26, R82, R137, R160, R156: an accepted ARM. -/
def State.armNow (s : State) (design hoop : Nat) : State :=
  let s1 := (s.modStore fun st => st.moveArmedPin design).modPlayer fun p => p.armAt design s.frame.x s.frame.y
  let s2 := (s1.modFrame fun f => { f with hoop := hoop }).modOuts fun o => { o with holderCount := 0 }
  ((s2.modThread Thread.disarm).modHeads fun hs => { hs.abandonEntry with lastKind := none, leftPass := false }).prefetch

/-- R25, R26: ARM. -/
def State.serveArm (s : State) (design hoop : Nat) : Served :=
  match s.armRefusal design hoop with
  | some st => refuse s st
  | none => okWith (s.armNow design hoop) []

/-- R27: the refusal of DISARM. -/
def State.disarmRefusal (s : State) : Option Status :=
  match s.player.state with
  | .armed => none
  | .paused _ => none
  | .finished => none
  | .halted _ => if s.player.recovering then some .busy else if s.estop then some .wrongState else none
  | .idle => some .wrongState
  | .running => some .wrongState
  | .stopping => some .wrongState
  | .changing => some .wrongState
  | .returning => some .wrongState
  | .starved => some .wrongState

/-- R27: the player after a DISARM. -/
def Player.disarm (p : Player) : Player :=
  { p.clearStop with
    state := .idle, armed := none, origin := none, mode := .normal, cursor := 0, resume := 0, active := none,
    interrupted := none, displaced := false, history := List.replicate 256 none, preselect := none, queue := [] }

/-- R27, R69: what a DISARM taken in HALTED releases as well: the kill latch, a case in FAULT, and a shaft in FAULT, which
goes to OFF once it is still. -/
def State.releaseHalted (s : State) : State :=
  let s1 := (s.modOuts Outputs.clearKill).modCase fun c => c.clearFault s.straps.needles
  if s1.shaft.state = .fault then
    (if s1.shaft.still then s1.enterOff else s1.modShaft fun h => { h with toOff := true })
  else s1

/-- R27: an accepted DISARM. -/
def State.disarmNow (s : State) : State :=
  let halted := match s.player.state with
    | .halted _ => true
    | _ => false
  let s1 := s.removeRecords fun _ => true
  let s2 := s1.modStore fun st => { st with dir := st.dir.map fun o => o.map fun d => { d with armedPin := false } }
  let s3 := (s2.modPlayer Player.disarm).modHeads fun hs => { hs.abandonEntry with lastKind := none, leftPass := false }
  let s4 := ((s3.modThread Thread.disarm).modOuts fun o => { o with holderCount := 0 }).release
  if halted then s4.releaseHalted else s4

/-- R27: DISARM. -/
def State.serveDisarm (s : State) : Served :=
  match s.disarmRefusal with
  | some st => refuse s st
  | none => okWith s.disarmNow []

/-- R31: START. -/
def State.serveStart (s : State) : Served :=
  match s.startRefusal with
  | some st => refuse s st
  | none => okWith s.startNow []

/-- R32: RESUME. -/
def State.serveResume (s : State) : Served :=
  match s.resumeRefusal with
  | some st => refuse s st
  | none => okWith s.resumeNow []

/-- R36: STOP. -/
def State.serveStop (s : State) : Served :=
  match s.askStop .hostStop with
  | some s' => okWith s' []
  | none => refuse s .wrongState

/-- R41: a HALT taken in IDLE. Owed steps of an overrun that a DISARM has left are abandoned (R62). -/
def State.haltIdle (s : State) : State :=
  let s1 := (s.abandonSewing.slowPositioner .halt).modCase NeedleCase.abandon
  if s1.shaft.state = .positioning then s1.brakeRequest else s1

/-- R41: HALT. -/
def State.serveHalt (s : State) : Served :=
  okWith (if s.player.state = .idle then s.haltIdle else s.reportFault .halt) []

/-- R44: the first refusal of RECOVER that applies. -/
def State.recoverRefusal (s : State) : Option Status :=
  match s.player.state with
  | .halted _ =>
      if s.player.recovering || s.shaft.state == .braking then some .busy
      else if s.estop || !s.shaft.driveReady || !s.frame.readyX || !s.frame.readyY || s.anyLimit
          || ((s.armedDesign.map Design.state) == some .failed) then some .wrongState
      else none
  | .idle => some .wrongState
  | .armed => some .wrongState
  | .running => some .wrongState
  | .stopping => some .wrongState
  | .changing => some .wrongState
  | .returning => some .wrongState
  | .paused _ => some .wrongState
  | .starved => some .wrongState
  | .finished => some .wrongState

/-- R44: the recovery begins. -/
def State.recoverNow (s : State) : State :=
  let s1 := (s.modOuts Outputs.clearKill).modCase fun c => c.clearFault s.straps.needles
  (s1.modPlayer fun p => { p with recovering := true }).holdRequest

/-- R44: RECOVER. -/
def State.serveRecover (s : State) : Served :=
  match s.recoverRefusal with
  | some st => refuse s st
  | none => okWith s.recoverNow []

/-- R24: KEEP_FRAME. -/
def State.serveKeepFrame (s : State) (value : Nat) : Served :=
  match flagField value with
  | some b => okWith (s.modPlayer fun p => { p with keepFrame := b }) (bFlag b)
  | none => refuse s .badValue

end Sys2Proof.Machine
end

