-- ==== Sys2Proof/Machine/Resets.lean ====
section
/-! DEFINITION. The three resets: power-on, the RESET line and RESTART (R21, R45, R64, R78, R86, R104, R121, R137, R160,
R171, R181 to R184). -/

namespace Sys2Proof.Machine

/-! ### RESTART -/

/-- R21: LOADING designs become FAILED and every pin is cleared. -/
def Design.restart (d : Design) : Design :=
  { d with state := if d.state = .loading then .failed else d.state, armedPin := false, repairPin := false }

/-- R21. -/
def Store.restart (st : Store) : Store := { st with dir := st.dir.map fun o => o.map Design.restart }

/-- R64: a pending set comes into force; C_prev becomes 0 with the OFF report. -/
def Governor.restart (g : Governor) : Governor := { g.force with move := none }

/-- R137. -/
def Thread.restart (t : Thread) : Thread :=
  { t with monitors := t.monitors.map fun _ => .powerOn, slot := none, fresh := false, overrun := false, rev := none, feedOpen := false }

/-- R160: a head after a RESTART; R133 clears its bobbin-low flag with the input's latch. -/
def Head.restart (h : Head) : Head :=
  { h with condition := .ok, role := .none, start := none, engaged := false, bobbinLow := false }

/-- R160: the pass bookkeeping is cleared and the repair list emptied; the enabled flags and the settings are kept. -/
def Heads.restart (hs : Heads) : Heads :=
  { hs with
    table := hs.table.map Head.restart, repairs := [], selection := none, passEnd := none, passStart := none, lastKind := none,
    leftPass := false }

/-- R69, R78: the brake request of a RESTART; a FAULT goes to OFF once it is still. -/
def State.restartShaft (s : State) : State :=
  let s1 := s.brakeRequest
  if s1.shaft.state = .fault then
    (if s1.shaft.still then s1.enterOff else s1.modShaft fun h => { h with toOff := true })
  else s1

/-- R83, R86: the kill latch is set until the shaft unit reports OFF, or cleared at once when the shaft is OFF already;
every output returns to AUTO and the holder countdown is 0. -/
def Outputs.restart (o : Outputs) (off : Bool) : Outputs :=
  { o.allAuto with kill := !off, killUntilOff := !off, holderCount := 0, holderArmed := false }

/-- R171: the inputs after a RESTART: latches clear, edge inputs armed, all else kept. -/
def Input.restart (i : Input) : Input := { i with latch := false, armed := true }

/-- R171: flags cleared, subscriptions kept, the cause REQUEST. -/
def Events.restart (e : Events) : Events := { e with inputs := e.inputs.map Input.restart, flags := 0, cause := .request }

/-- R181: the blocks that change at once. The player is left IDLE, so that no fault or report of these effects halts it. -/
def State.restartBlocks (s : State) : State :=
  let s1 := (s.modStore Store.restart).modPlayer fun p => .powerOn p.keepFrame
  let s2 := ((s1.modGov Governor.restart).modThread Thread.restart).modHeads Heads.restart
  s2.modCase fun c => c.abandon.clearFault s.straps.needles

/-- R104, R93: every frame move is stopped and the owner becomes NONE. -/
def State.restartFrame (s : State) : State :=
  (s.stopFrame .restart).modFrame fun f => { f with owner := .none, lent := false, after := .keep }

/-- R181: RESTART. Its own latchings are cleared after its effects, with the notice queue; level inputs that stand active
latch again (R171), in ascending number (DESIGN CHOICE, log entry 45). -/
def State.restartNow (s : State) : State :=
  let s1 := s.restartFrame.restartBlocks.restartShaft
  let s2 := s1.modOuts fun o => o.restart (s1.shaft.state == .off)
  let s3 := (s2.modEv Events.restart).modLink fun l => { l with notices := [] }
  (List.range 32).foldl State.latchLevel s3

/-! ### Power-on and line resets -/

/-- The state after a reset of every block with these straps and this cause. The levels of the machine's lines, the
contents of the serial RAM, the waiting commands and the RESET line itself are not the part's to reset. An axis drive-ready
line that stands negated then raises no axis fault (DEDUCED, log entry 50). -/
def State.resetAll (s : State) (straps : Straps) (cause : ResetCause) : State :=
  let r := State.powerOn straps s.store.ram s.shaft.driveReady s.shaft.still s.frame.readyX s.frame.readyY s.nc.raw
    (s.ev.inputs.map Input.raw) s.ev.estopRaw cause
  { r with pending := s.pending, resetHeld := s.resetHeld, choices := s.choices }

/-- R183: a power-on reset samples the straps. -/
def State.powerReset (s : State) (headPins needlePins ratePins : Nat) : State :=
  s.resetAll (.sample headPins needlePins ratePins) .power

/-- R182: while the RESET line is asserted every block is held at the values of a line reset; the straps are kept. -/
def State.resetLine (s : State) (held : Bool) : State := { s.resetAll s.straps .line with resetHeld := held }

end Sys2Proof.Machine
end

