-- ==== Sys2Proof/Machine/ThreadRequests.lean ====
section
/-! DEFINITION. The requests of the thread monitor (R123, R124, R134 to R136). -/

namespace Sys2Proof.Machine

/-- R122: an entry's fields in their order. -/
def NeedleProfile.bytes (p : NeedleProfile) : List Byte :=
  bFlag p.monitor ++ b1 p.base ++ b2 p.k ++ b1 p.rlo ++ b1 p.rhi ++ b1 p.b ++ b1 p.f

/-- R122, R123: the entry as stored, every field but the first clamped to its range. -/
def NeedleProfile.clamped (monitor : Bool) (base k rlo rhi b f : Nat) : NeedleProfile :=
  { monitor := monitor, base := clampNat 0 255 base, k := clampNat 0 1023 k, rlo := clampNat 0 16 rlo, rhi := clampNat 16 64 rhi,
    b := clampNat 1 15 b, f := clampNat 0 15 f }

/-- R123: NEEDLE_PROFILE; needle 0 names every needle up to the needle count. -/
def State.serveNeedleProfile (s : State) (needle monitor base k rlo rhi b f : Nat) : Served :=
  match flagField monitor with
  | none => refuse s .badValue
  | some m =>
      if s.straps.needles < needle then refuse s .badValue
      else
        let p := NeedleProfile.clamped m base k rlo rhi b f
        let hit := fun n => decide (n = needle ∨ (needle = 0 ∧ n ≤ s.straps.needles))
        okWith (s.modThread fun t => { t with profiles := mapFrom 1 (fun n q => if hit n then p else q) t.profiles }) p.bytes

/-- R124: the break policy a code names. -/
def BreakPolicy.ofCode : Nat → Option BreakPolicy
  | 0 => some .exclude
  | 1 => some .stop
  | _ => none

/-- R124: the bobbin policy a code names. -/
def BobbinPolicy.ofCode : Nat → Option BobbinPolicy
  | 0 => some .notify
  | 1 => some .stop
  | _ => none

/-- R124: THREAD_POLICY. -/
def State.serveThreadPolicy (s : State) (onBreak onBobbin : Nat) : Served :=
  match BreakPolicy.ofCode onBreak, BobbinPolicy.ofCode onBobbin with
  | some p, some q =>
      okWith (s.modThread fun t => { t with breakPolicy := p, bobbinPolicy := q }) (b1 p.code ++ b1 q.code)
  | _, _ => refuse s .badValue

/-- R134: CAPTURE_ARM; 0 turns the capture off. -/
def State.serveCaptureArm (s : State) (head : Nat) : Served :=
  if s.straps.heads < head then refuse s .badValue
  else okWith (s.modThread fun t => { t with capture := head, slot := none, fresh := false, overrun := false }) (b1 head)

/-- R135: the capture selection and the slot. A selection that is off is sent as 0, as in the other replies that carry it
(DEDUCED, log entry 14). -/
def Thread.captureReport (t : Thread) : List Byte :=
  b1 t.capture ++ o2 (t.slot.map CaptureSlot.count) ++ o2 (t.slot.map CaptureSlot.expected) ++ o4 (t.slot.map CaptureSlot.index)
    ++ o1 (t.slot.map CaptureSlot.needle) ++ o1 (t.slot.map fun c => c.verdict.code) ++ bFlag t.fresh ++ bFlag t.overrun

/-- R135: CAPTURE_READ. -/
def State.serveCaptureRead (s : State) : Served :=
  okWith (s.modThread fun t => { t with fresh := false, overrun := false }) s.thread.captureReport

/-- R136: a head as THREAD_INFO reports it. -/
def HeadMonitor.report (m : HeadMonitor) (bobbinLow : Bool) : List Byte :=
  b2 m.count ++ b1 m.run.length ++ o4 m.run.first ++ o1 m.run.needle ++ o1 (m.run.kind.map RunKind.code) ++ b1 m.tieIn
    ++ bFlag bobbinLow

/-- R136: THREAD_INFO. -/
def State.serveThreadInfo (s : State) : Served :=
  let t := s.thread
  okWith s
    (t.profiles.flatMap NeedleProfile.bytes ++ b1 t.breakPolicy.code ++ b1 t.bobbinPolicy.code
      ++ (t.monitors.zipIdx 0).flatMap (fun p => p.1.report ((s.heads.table[p.2]?.map Head.bobbinLow).getD false))
      ++ b1 t.capture)

end Sys2Proof.Machine
end

