-- ==== Sys2Proof/Machine/Serve.lean ====
section
/-! DEFINITION. The link interface: handing a request to its block, the request queue and the reply slot, the transmitter
and the receiver (R172 to R177, R181). -/

namespace Sys2Proof.Machine

/-- R185: the request is handed to its owning block. A machine event is no request and does
nothing here; a frame of a TYPE that is not assigned reaches no block (R177). -/
def State.serve (s : State) (i : Instr) : Served :=
  match i with
  | .status => s.serveStatus
  | .restart => okWith s.restartNow []
  | .notifyOn mask => s.serveNotify mask true
  | .notifyOff mask => s.serveNotify mask false
  | .eventsClear mask => s.serveEventsClear mask
  | .setInput input mode filter report => s.serveSetInput input mode filter report
  | .inputClear mask => s.serveInputClear mask
  | .inputInfo => s.serveInputInfo
  | .dsnOpen design declared blocks xmin xmax ymin ymax seqLen entries =>
      s.serveDsnOpen design declared blocks ⟨xmin, xmax, ymin, ymax⟩ seqLen entries
  | .dsnBlock design block count records => s.serveDsnBlock design block count records
  | .dsnClose design check => s.serveDsnClose design check
  | .dsnDrop design => s.serveDsnDrop design
  | .dsnInfo design => s.serveDsnInfo design
  | .arm design hoop => s.serveArm design hoop
  | .disarm => s.serveDisarm
  | .start => s.serveStart
  | .stop => s.serveStop
  | .resume => s.serveResume
  | .halt => s.serveHalt
  | .recover => s.serveRecover
  | .keepFrame value => s.serveKeepFrame value
  | .preselect needle => s.servePreselect needle
  | .seqEdit design first count entries => s.serveSeqEdit design first count entries
  | .needleGo needle => s.serveNeedleGo needle
  | .caseInfo => s.serveCaseInfo
  | .setMotion settings => s.serveSetMotion settings
  | .setProfile points => s.serveSetProfile points
  | .getSettings => s.serveGetSettings
  | .speed rpm => s.serveSpeed rpm
  | .setOutput kind head mode polarity => s.serveSetOutput kind head mode polarity
  | .outputInfo => s.serveOutputInfo
  | .frameGo mode x y => s.serveFrameGo mode x y
  | .frameHome => s.serveFrameHome
  | .frameTrace => s.serveFrameTrace
  | .framePark => s.serveFramePark
  | .setFrame dirX dirY offX offY parkX parkY rPos => s.serveSetFrame dirX dirY offX offY parkX parkY rPos
  | .setHoop entry xmin xmax ymin ymax => s.serveSetHoop entry xmin xmax ymin ymax
  | .hoopSelect entry => s.serveHoopSelect entry
  | .frameInfo => s.serveFrameInfo
  | .needleProfile needle monitor base k rlo rhi b f => s.serveNeedleProfile needle monitor base k rlo rhi b f
  | .threadPolicy onBreak onBobbin => s.serveThreadPolicy onBreak onBobbin
  | .captureArm head => s.serveCaptureArm head
  | .captureRead => s.serveCaptureRead
  | .threadInfo => s.serveThreadInfo
  | .headsOn mask => s.serveEnable mask true
  | .headsOff mask => s.serveEnable mask false
  | .repair mask => s.serveRepair mask
  | .repairEnd => s.serveRepairEnd
  | .repairCancel mask => s.serveRepairCancel mask
  | .repairSetup overlap trim => s.serveRepairSetup overlap trim
  | .headInfo => s.serveHeadInfo
  | .unknownType _ _ => (s, [])
  | .receiveFrame _ => (s, [])
  | .byteReceived _ _ => (s, [])
  | .linkGapTimeout => (s, [])
  | .frameSent => (s, [])
  | .powerOnReset _ _ _ => (s, [])
  | .resetAssert => (s, [])
  | .resetRelease => (s, [])
  | .inputLineChange _ _ => (s, [])
  | .inputFilterSettled _ => (s, [])
  | .estopAssertion => (s, [])
  | .estopRelease => (s, [])
  | .axisDriveNotReady _ => (s, [])
  | .axisDriveReady _ => (s, [])
  | .shaftDriveNotReady => (s, [])
  | .shaftDriveReady => (s, [])
  | .encoderCount _ _ => (s, [])
  | .indexPulse _ _ => (s, [])
  | .speedTimeout => (s, [])
  | .stallTimeout => (s, [])
  | .shaftStill => (s, [])
  | .feedPulse _ => (s, [])
  | .caseCodeLineChange _ => (s, [])
  | .caseCodeSettled => (s, [])
  | .caseSettleExpiry => (s, [])
  | .caseTimeout => (s, [])
  | .axisStep _ => (s, [])
  | .homingSearchLimit => (s, [])

/-! ### Taking a request (R175, R177) -/

/-- R176: the reply is placed in the slot; an idle transmitter begins it. -/
def State.placeReply (s : State) (f : LinkFrame) : State :=
  s.modLink fun l => Link.choose { l with reply := some f, taking := false }

/-- R175, R177: a request of this TYPE is answered by its block, and its reply placed. -/
def State.answer (s : State) (ty : Nat) (i : Instr) : State :=
  let r := (s.modLink fun l => { l with taking := true }).serve i
  r.1.placeReply ⟨ty + 0x80, r.2⟩

/-- R177: the reply to a TYPE that is not assigned. -/
def unknownReply (ty : Nat) : LinkFrame :=
  if ty < 0x70 then ⟨ty + 0x80, replyOf .unknownType []⟩ else ⟨0xFF, replyOf .unknownType (b1 ty)⟩

/-- R177: a frame is taken, judged by its TYPE and length, and answered. -/
def State.takeFrame (s : State) (f : LinkFrame) : State :=
  match decodeRequest f.ty f.payload with
  | .request i => s.answer f.ty i
  | .badLength => s.placeReply ⟨f.ty + 0x80, replyOf .badLength []⟩
  | .unknown => s.placeReply (unknownReply f.ty)

/-- R175: the head of the request queue is taken when the reply slot is empty. -/
def State.takeHead (s : State) : State :=
  match s.link.reply, s.link.requests with
  | none, f :: rest => (s.modLink fun l => { l with requests := rest }).takeFrame f
  | none, [] => s
  | some _, _ => s

/-- The kinds of LINK_ERROR (R174, R175). -/
inductive LinkFault where
  | length
  | gap
  | framing
  | check
  | queueFull
  deriving DecidableEq, Repr

/-- R186. -/
def LinkFault.code : LinkFault → Nat
  | .length => 0
  | .gap => 1
  | .framing => 2
  | .check => 3
  | .queueFull => 4

/-- R174: LINK_ERROR latches with the kind of error. -/
def State.linkError (s : State) (e : LinkFault) : State := s.latch .linkError (b1 e.code)

/-- R175: a good frame is offered to the request queue; one that comes with the queue and the slot empty is taken at
once. -/
def State.offerFrame (s : State) (f : LinkFrame) : State :=
  if 2 ≤ s.link.requests.length then s.linkError .queueFull
  else (s.modLink fun l => { l with requests := l.requests ++ [f] }).takeHead

/-- The frame that carries a request (R185). -/
def frameOf (i : Instr) : LinkFrame :=
  match encodeRequest i with
  | some (ty, p) => ⟨ty, p⟩
  | none => ⟨0, []⟩

/-- R175, R177: a request arrives as a good frame. With the queue and the reply slot empty it is taken at once: answered
by its block, or BAD_LENGTH when its announced counts do not fit its length. Otherwise its frame is offered to the
queue. -/
def State.submit (s : State) (i : Instr) : State :=
  if s.link.requests.isEmpty && s.link.reply.isNone then
    (if i.counted then s.answer (frameOf i).ty i else s.placeReply ⟨(frameOf i).ty + 0x80, replyOf .badLength []⟩)
  else s.offerFrame (frameOf i)

/-! ### The transmitter (R176) -/

/-- R176: the transmitter, idle again, chooses its next frame. -/
def State.chooseNext (s : State) : State := s.modLink Link.choose

/-- R176: the last byte of a reply: the slot empties, the queue head may be taken and the transmitter chooses its next
frame, in either order. Where the order matters it is a free choice (log entry 3). -/
def State.replySent (s : State) : State :=
  let s1 := s.modLink fun l => { l with reply := none, transmitter := .idle }
  if s1.link.requests.isEmpty then s1.chooseNext
  else if s1.link.notices.isEmpty then s1.takeHead
  else
    let s2 := { s1 with choices := s1.choices + 1 }
    if Config.takeFirst s1.choices then s2.takeHead else s2.chooseNext.takeHead

/-- R176: the last byte of the frame being sent. -/
def State.frameSentNow (s : State) : State :=
  match s.link.transmitter with
  | .idle => s
  | .reply _ => s.replySent
  | .notice _ => (s.modLink fun l => { l with transmitter := .idle }).chooseNext

/-! ### The receiver (R174) -/

/-- R174: the receiver moves to a phase. -/
def State.toPhase (s : State) (r : Receiver) : State := s.modLink fun l => { l with receiver := r }

/-- R174: a frame is discarded. -/
def State.discard (s : State) (e : LinkFault) : State := (s.toPhase .hunt).linkError e

/-- R173, R174: both CHECK bytes are in. -/
def State.frameChecked (s : State) (f : LinkFrame) (check : Nat) : State :=
  if (frameCheck f.checked).toNat = check then (s.toPhase .hunt).offerFrame f else s.discard .check

/-- R174: one byte without a framing error. -/
def State.goodByte (s : State) (b : Byte) : State :=
  match s.link.receiver with
  | .hunt => if b = 0xC3 then s.toPhase (.length none) else s
  | .length none => s.toPhase (.length (some b))
  | .length (some lo) =>
      let len := lo.toNat + 256 * b.toNat
      if 300 < len then s.discard .length else s.toPhase (.type len)
  | .type len => if len = 0 then s.toPhase (.check b.toNat [] none) else s.toPhase (.payload len b.toNat [])
  | .payload len ty taken =>
      if taken.length + 1 < len then s.toPhase (.payload len ty (taken ++ [b]))
      else s.toPhase (.check ty (taken ++ [b]) none)
  | .check ty taken none => s.toPhase (.check ty taken (some b))
  | .check ty taken (some lo) => s.frameChecked ⟨ty, taken⟩ (lo.toNat + 256 * b.toNat)

/-- R174: one byte; a framing error in HUNT is passed over, elsewhere it discards the frame. -/
def State.receiveByte (s : State) (b : Byte) (framed : Bool) : State :=
  if framed then s.goodByte b
  else if s.link.receiver = .hunt then s
  else s.discard .framing

/-- R174: a gap of more than 5 ms after a byte of a frame. -/
def State.gapNow (s : State) : State := if s.link.receiver = .hunt then s else s.discard .gap

/-- R174: the bytes of a frame, one after another. -/
def State.receiveBytes (s : State) (bytes : List Byte) : State := bytes.foldl (fun s b => (s.receiveByte b true).settle) s

end Sys2Proof.Machine
end

