-- ==== Sys2Proof/Machine/LinkCommands.lean ====
section
/-! DEFINITION. The meanings of the link's commands: every request of R185 as it arrives, and the events of the serial line
(R174 to R177). -/

namespace Sys2Proof.Machine

/-- What a command of this part answers: it always goes on. -/
abbrev Next := Host.Outcome State Fault Refusal

/-- While the RESET line is asserted nothing happens (R182); else the change is made and whatever it has made possible
begins. -/
def State.event (s : State) (f : State → State) : State := if s.resetHeld then s else (f s).settle

/-- A request of the host arrives as a good frame (R175). The receiver takes no bytes while RESET is asserted (R182). -/
def State.request (s : State) (i : Instr) : Next := .next (s.event fun t => t.submit i)

/-- STATUS (R180). -/
def execStatus (s : State) : Next := s.request .status

/-- RESTART (R181). -/
def execRestart (s : State) : Next := s.request .restart

/-- NOTIFY_ON (R169). -/
def execNotifyOn (mask : Nat) (s : State) : Next := s.request (.notifyOn mask)

/-- NOTIFY_OFF (R169). -/
def execNotifyOff (mask : Nat) (s : State) : Next := s.request (.notifyOff mask)

/-- EVENTS_CLEAR (R169). -/
def execEventsClear (mask : Nat) (s : State) : Next := s.request (.eventsClear mask)

/-- SET_INPUT (R164). -/
def execSetInput (input mode filter report : Nat) (s : State) : Next := s.request (.setInput input mode filter report)

/-- INPUT_CLEAR (R165). -/
def execInputClear (mask : Nat) (s : State) : Next := s.request (.inputClear mask)

/-- INPUT_INFO (R165). -/
def execInputInfo (s : State) : Next := s.request .inputInfo

/-- DSN_OPEN (R6). -/
def execDsnOpen (design declared blocks : Nat) (xmin xmax ymin ymax : Int) (seqLen : Nat) (entries : List Byte) (s : State) : Next :=
  s.request (.dsnOpen design declared blocks xmin xmax ymin ymax seqLen entries)

/-- DSN_BLOCK (R9). -/
def execDsnBlock (design block count : Nat) (records : List RawRecord) (s : State) : Next :=
  s.request (.dsnBlock design block count records)

/-- DSN_CLOSE (R11). -/
def execDsnClose (design check : Nat) (s : State) : Next := s.request (.dsnClose design check)

/-- DSN_DROP (R13). -/
def execDsnDrop (design : Nat) (s : State) : Next := s.request (.dsnDrop design)

/-- DSN_INFO (R14). -/
def execDsnInfo (design : Nat) (s : State) : Next := s.request (.dsnInfo design)

/-- ARM (R25). -/
def execArm (design hoop : Nat) (s : State) : Next := s.request (.arm design hoop)

/-- DISARM (R27). -/
def execDisarm (s : State) : Next := s.request .disarm

/-- START (R31). -/
def execStart (s : State) : Next := s.request .start

/-- STOP (R36). -/
def execStop (s : State) : Next := s.request .stop

/-- RESUME (R32). -/
def execResume (s : State) : Next := s.request .resume

/-- HALT (R41). -/
def execHalt (s : State) : Next := s.request .halt

/-- RECOVER (R44). -/
def execRecover (s : State) : Next := s.request .recover

/-- KEEP_FRAME (R24). -/
def execKeepFrame (value : Nat) (s : State) : Next := s.request (.keepFrame value)

/-- PRESELECT (R117). -/
def execPreselect (needle : Nat) (s : State) : Next := s.request (.preselect needle)

/-- SEQ_EDIT (R118). -/
def execSeqEdit (design first count : Nat) (entries : List Byte) (s : State) : Next :=
  s.request (.seqEdit design first count entries)

/-- NEEDLE_GO (R119). -/
def execNeedleGo (needle : Nat) (s : State) : Next := s.request (.needleGo needle)

/-- CASE_INFO (R120). -/
def execCaseInfo (s : State) : Next := s.request .caseInfo

/-- SET_MOTION (R51). -/
def execSetMotion (settings : List Nat) (s : State) : Next := s.request (.setMotion settings)

/-- SET_PROFILE (R52). -/
def execSetProfile (points : List Nat) (s : State) : Next := s.request (.setProfile points)

/-- GET_SETTINGS (R53). -/
def execGetSettings (s : State) : Next := s.request .getSettings

/-- SPEED (R54). -/
def execSpeed (rpm : Nat) (s : State) : Next := s.request (.speed rpm)

/-- SET_OUTPUT (R84). -/
def execSetOutput (kind head mode polarity : Nat) (s : State) : Next := s.request (.setOutput kind head mode polarity)

/-- OUTPUT_INFO (R85). -/
def execOutputInfo (s : State) : Next := s.request .outputInfo

/-- FRAME_GO (R98). -/
def execFrameGo (mode : Nat) (x y : Int) (s : State) : Next := s.request (.frameGo mode x y)

/-- FRAME_HOME (R99). -/
def execFrameHome (s : State) : Next := s.request .frameHome

/-- FRAME_TRACE (R101). -/
def execFrameTrace (s : State) : Next := s.request .frameTrace

/-- FRAME_PARK (R102). -/
def execFramePark (s : State) : Next := s.request .framePark

/-- SET_FRAME (R102). -/
def execSetFrame (dirX dirY : Nat) (offX offY parkX parkY : Int) (rPos : Nat) (s : State) : Next :=
  s.request (.setFrame dirX dirY offX offY parkX parkY rPos)

/-- SET_HOOP (R90). -/
def execSetHoop (entry : Nat) (xmin xmax ymin ymax : Int) (s : State) : Next :=
  s.request (.setHoop entry xmin xmax ymin ymax)

/-- HOOP_SELECT (R91). -/
def execHoopSelect (entry : Nat) (s : State) : Next := s.request (.hoopSelect entry)

/-- FRAME_INFO (R103). -/
def execFrameInfo (s : State) : Next := s.request .frameInfo

/-- NEEDLE_PROFILE (R123). -/
def execNeedleProfile (needle monitor base k rlo rhi b f : Nat) (s : State) : Next :=
  s.request (.needleProfile needle monitor base k rlo rhi b f)

/-- THREAD_POLICY (R124). -/
def execThreadPolicy (onBreak onBobbin : Nat) (s : State) : Next := s.request (.threadPolicy onBreak onBobbin)

/-- CAPTURE_ARM (R134). -/
def execCaptureArm (head : Nat) (s : State) : Next := s.request (.captureArm head)

/-- CAPTURE_READ (R135). -/
def execCaptureRead (s : State) : Next := s.request .captureRead

/-- THREAD_INFO (R136). -/
def execThreadInfo (s : State) : Next := s.request .threadInfo

/-- HEADS_ON (R139). -/
def execHeadsOn (mask : Nat) (s : State) : Next := s.request (.headsOn mask)

/-- HEADS_OFF (R139). -/
def execHeadsOff (mask : Nat) (s : State) : Next := s.request (.headsOff mask)

/-- REPAIR (R146). -/
def execRepair (mask : Nat) (s : State) : Next := s.request (.repair mask)

/-- REPAIR_END (R156). -/
def execRepairEnd (s : State) : Next := s.request .repairEnd

/-- REPAIR_CANCEL (R145). -/
def execRepairCancel (mask : Nat) (s : State) : Next := s.request (.repairCancel mask)

/-- REPAIR_SETUP (R158). -/
def execRepairSetup (overlap trim : Nat) (s : State) : Next := s.request (.repairSetup overlap trim)

/-- HEAD_INFO (R159). -/
def execHeadInfo (s : State) : Next := s.request .headInfo

/-- UNKNOWN_TYPE (R177): the frame is offered to the queue like any other; its reply names the status when it is taken. -/
def execUnknownType (ty : Nat) (payload : List Byte) (s : State) : Next := .next (s.event fun t => t.offerFrame ⟨ty, payload⟩)

/-- RECEIVE_FRAME (R174). Each byte's effect has settled before the next byte is taken. -/
def execReceiveFrame (bytes : List Byte) (s : State) : Next := .next (if s.resetHeld then s else s.receiveBytes bytes)

/-- BYTE_RECEIVED (R174). -/
def execByteReceived (byte : Byte) (framed : Bool) (s : State) : Next := .next (s.event fun t => t.receiveByte byte framed)

/-- LINK_GAP_TIMEOUT (R174). -/
def execLinkGapTimeout (s : State) : Next := .next (s.event State.gapNow)

/-- FRAME_SENT (R176). -/
def execFrameSent (s : State) : Next := .next (s.event State.frameSentNow)

end Sys2Proof.Machine
end

