-- ==== Sys2Proof/Machine/ShaftEvents.lean ====
section
/-! DEFINITION. The shaft's and the axes' machine lines: the still shaft, the drive-ready lines, the timers of the shaft
unit, and the code lines and timers of the needle case (R66, R67, R72, R74 to R76, R88, R105, R108 to R110, R112). -/

namespace Sys2Proof.Machine

/-! ### The shaft -/

/-- R72: a correction creep: short of TDC the shaft is braked at 1016, past it a full revolution on. -/
def State.correction (s : State) : State :=
  let sStop := s.gov.active.motion.sStop
  s.modShaft fun h =>
    { h.setDemand sStop sStop with
      retry := h.retry + 1, phase := if 1000 ≤ h.angle ∧ h.angle ≤ 1015 then .correct else .creep }

/-- R72: the check of a positioning once the shaft is still after the brake. -/
def State.positionCheck (s : State) : State :=
  if atTdc s.shaft.angle then s.reachHeld
  else if 2 ≤ s.shaft.retry then s.shaftFault .position
  else s.correction

/-- R76, R68, R69: a FAULT that has become still: its brake is released; a kept hold request positions; else it goes to
OFF where no RECOVER can follow. -/
def State.faultStillNow (s : State) : State :=
  let s1 := s.modShaft fun h => { h with faultStill := true }
  if s1.shaft.keptHold then s1.enterPositioning else if s1.shaft.toOff then s1.enterOff else s1

/-- R67: 20 ms have passed without a count. -/
def State.stillNow (s : State) : State :=
  let s1 := s.modShaft fun h => { h with still := true }
  match s.shaft.state with
  | .positioning => if s.shaft.phase = .braked then s1.positionCheck else s1
  | .braking => s1.enterOff
  | .fault => s1.faultStillNow
  | .off => s1
  | .held => s1
  | .offPosition => s1
  | .turning => s1

/-- R75: the states in which the drive-ready line and the index are watched: those with the drive enabled. -/
def State.driveLost (s : State) : State :=
  let s1 := s.modShaft fun h => { h with driveReady := false }
  if s.shaft.driveEnable then s1.shaftFault .drive else s1

/-- R75: the stall timer expires; it runs in TURNING and POSITIONING only. In the 100 ms without a count the steps of a
sewing move that were due have gone out (R60). -/
def State.stalled (s : State) : State :=
  if s.shaft.stall.isNone then s
  else
    match s.shaft.state with
    | .turning => (s.heldSteps 100000).shaftFault .stall
    | .positioning => s.shaftFault .stall
    | .off => s
    | .held => s
    | .offPosition => s
    | .braking => s
    | .fault => s

/-! ### The axis drives (R88) -/

/-- R88: an axis drive-ready line is negated; a line that stays negated does not fault again, and one that stands negated
when a reset ends does not fault until it is negated anew (DEDUCED, log entry 50). -/
def State.axisLost (s : State) (a : Axis) : State :=
  match a with
  | .x => if s.frame.readyX then (s.modFrame fun f => { f with readyX := false }).axisFault .driveX else s
  | .y => if s.frame.readyY then (s.modFrame fun f => { f with readyY := false }).axisFault .driveY else s

/-! ### The needle case (R105, R108 to R112) -/

/-- R108: a new case position in MOVING. The position is recorded as last seen after it has been judged. -/
def State.judgeCase (s : State) (j : CaseJob) (before : Option Nat) : State :=
  let c := s.nc.pos
  let up := s.nc.dirUp.getD true
  if c = 0 then s
  else
    match judge up j.target before c with
    | .arrival => s.modCase fun n => n.see.settleAt
    | .approach => s.modCase NeedleCase.see
    | .blind => s.modCase fun n => { n.see with dirUp := n.dirUp.map (! ·) }
    | .overshoot =>
        if s.nc.overshoot = 0 then s.modCase fun n => n.see.turnBack
        else (s.caseFault .overshoot).modCase NeedleCase.see
    | .away => (s.caseFault .away).modCase NeedleCase.see

/-- R112: the shaft states in which a change of code with the case IDLE is a fault. -/
def ShaftState.caseFixed : ShaftState → Bool
  | .turning => true
  | .positioning => true
  | .off => false
  | .held => false
  | .offPosition => false
  | .braking => false
  | .fault => false

/-- R105, R112: a changed case position is recorded and judged by the case unit's state. -/
def State.casePositionChanged (s : State) : State :=
  match s.nc.state with
  | .moving =>
      match s.nc.job with
      | some j => s.judgeCase j s.nc.lastSeen
      | none => s.modCase NeedleCase.see
  | .settling => s.modCase NeedleCase.see
  | .fault => s.modCase NeedleCase.see
  | .idle =>
      if s.shaft.state.caseFixed then (s.caseFault .drift).modCase NeedleCase.see else s.modCase NeedleCase.see

/-- R105: the code lines have held their value for 1 ms. -/
def State.codeSettled (s : State) : State :=
  let pos := casePosition s.straps.needles s.nc.raw
  let s1 := s.modCase fun n => { n with code := n.raw, pos := pos }
  if pos = s.nc.pos then s1 else s1.casePositionChanged

/-- R109: the settle timer expires and the case position is read once. -/
def State.settleExpired (s : State) : State :=
  match s.nc.state, s.nc.job with
  | .settling, some j =>
      if s.nc.pos = j.target then s.caseComplete j true
      else
        let up := s.nc.dirUp.getD true
        let short := s.nc.pos ≠ 0 ∧ (if up then s.nc.pos < j.target else j.target < s.nc.pos)
        if short then s.modCase NeedleCase.driveOn
        else if s.nc.overshoot = 0 then s.modCase NeedleCase.turnBack
        else s.caseFault .overshoot
  | .settling, none => s
  | .idle, _ => s
  | .moving, _ => s
  | .fault, _ => s

/-- R110: the timeout timer expires; only MOVING runs it. -/
def State.caseTimedOut (s : State) : State :=
  match s.nc.state with
  | .moving => s.caseFault .timeout
  | .idle => s
  | .settling => s
  | .fault => s

end Sys2Proof.Machine
end

