-- ==== Sys2Proof/Machine/MachineCommands.lean ====
section
/-! DEFINITION. The meanings of the machine's commands: resets, input lines, drives, the shaft, the needle case and the axis
generators. -/

namespace Sys2Proof.Machine

/-- POWER_ON_RESET (R183). -/
def execPowerOnReset (headPins needlePins ratePins : Nat) (s : State) : Next :=
  .next (s.powerReset headPins needlePins ratePins)

/-- RESET_ASSERT (R182). -/
def execResetAssert (s : State) : Next := .next (s.resetLine true)

/-- RESET_RELEASE (R182). -/
def execResetRelease (s : State) : Next := .next (s.resetLine false)

/-- INPUT_LINE_CHANGE (R162): the raw line takes its level, also while RESET is asserted. -/
def execInputLineChange (line : Nat) (high : Bool) (s : State) : Next :=
  .next ((s.rawLine line high).event fun t => t.followUnfiltered line)

/-- INPUT_FILTER_SETTLED (R162). -/
def execInputFilterSettled (input : Nat) (s : State) : Next := .next (s.event fun t => t.settleInput input)

/-- ESTOP_ASSERTION (R167). -/
def execEstopAssertion (s : State) : Next := .next ((s.rawLine 32 false).event State.estopAssert)

/-- ESTOP_RELEASE (R167). -/
def execEstopRelease (s : State) : Next := .next ((s.rawLine 32 true).event State.estopReleaseNow)

/-- An axis's drive-ready line as it reads. -/
def Frame.setReady (f : Frame) (axis : Axis) (ready : Bool) : Frame :=
  match axis with
  | .x => { f with readyX := ready }
  | .y => { f with readyY := ready }

/-- AXIS_DRIVE_NOT_READY (R88). While RESET is asserted only the line is noted (DEDUCED, log entry 50). -/
def execAxisDriveNotReady (axis : Axis) (s : State) : Next :=
  .next (if s.resetHeld then s.modFrame fun f => f.setReady axis false else (s.axisLost axis).settle)

/-- AXIS_DRIVE_READY (R88): a new negation faults again. -/
def execAxisDriveReady (axis : Axis) (s : State) : Next :=
  .next ((s.modFrame fun f => f.setReady axis true).event fun t => t)

/-- SHAFT_DRIVE_NOT_READY (R75). -/
def execShaftDriveNotReady (s : State) : Next :=
  .next (if s.resetHeld then s.modShaft fun h => { h with driveReady := false } else s.driveLost.settle)

/-- SHAFT_DRIVE_READY (R75). -/
def execShaftDriveReady (s : State) : Next :=
  .next ((s.modShaft fun h => { h with driveReady := true }).event fun t => t)

/-- ENCODER_COUNT (R65). While RESET is asserted the angle is held at 0, but the shaft is not still. -/
def execEncoderCount (forward : Bool) (elapsed : Nat) (s : State) : Next :=
  .next (if s.resetHeld then s.modShaft fun h => { h with still := false } else (s.count forward elapsed).settle)

/-- INDEX_PULSE (R65, R66). -/
def execIndexPulse (forward : Bool) (period : Nat) (s : State) : Next := .next (s.event fun t => t.index forward period)

/-- SPEED_TIMEOUT (R66). -/
def execSpeedTimeout (s : State) : Next := .next (s.event fun t => t.modShaft fun h => { h with sMeas := 0 })

/-- STALL_TIMEOUT (R75). -/
def execStallTimeout (s : State) : Next := .next (s.event State.stalled)

/-- SHAFT_STILL (R67). -/
def execShaftStill (s : State) : Next :=
  .next (if s.resetHeld then s.modShaft fun h => { h with still := true } else s.stillNow.settle)

/-- R125: a feed pulse counts in an open feed window on an engaged head, up to 65,535. -/
def State.feed (s : State) (head : Nat) : State :=
  if s.thread.feedOpen && decide (1 ≤ head) && s.engaged head then
    s.modThread fun t => t.modMonitor head fun m => { m with count := min 65535 (m.count + 1) }
  else s

/-- FEED_PULSE (R125). -/
def execFeedPulse (head : Nat) (s : State) : Next := .next (s.event fun t => t.feed head)

/-- CASE_CODE_LINE_CHANGE (R105): the lines read a new number, also while RESET is asserted; it is not yet taken. -/
def execCaseCodeLineChange (code : Nat) (s : State) : Next := .next ((s.modCase fun c => { c with raw := code }).event fun t => t)

/-- CASE_CODE_SETTLED (R105). -/
def execCaseCodeSettled (s : State) : Next := .next (s.event State.codeSettled)

/-- CASE_SETTLE_EXPIRY (R109). -/
def execCaseSettleExpiry (s : State) : Next := .next (s.event State.settleExpired)

/-- CASE_TIMEOUT (R110). -/
def execCaseTimeout (s : State) : Next := .next (s.event State.caseTimedOut)

/-- AXIS_STEP (R92, R99, R61). -/
def execAxisStep (axis : Axis) (s : State) : Next := .next (s.event fun t => t.axisStepNow axis)

/-- HOMING_SEARCH_LIMIT (R100). -/
def execHomingSearchLimit (s : State) : Next := .next (s.event State.homingLimit)

end Sys2Proof.Machine
end

