-- ==== Sys2Proof/Machine/Dispatch.lean ====
section
/-! DEFINITION. One arm per command. -/

namespace Sys2Proof.Machine

def exec (i : Instr) (s : State) : Host.Outcome State Fault Refusal :=
  match i with
  | .receiveFrame bytes => Sys2Proof.Machine.execReceiveFrame bytes s
  | .byteReceived byte framed => Sys2Proof.Machine.execByteReceived byte framed s
  | .linkGapTimeout => Sys2Proof.Machine.execLinkGapTimeout s
  | .frameSent => Sys2Proof.Machine.execFrameSent s
  | .unknownType ty payload => Sys2Proof.Machine.execUnknownType ty payload s
  | .status => Sys2Proof.Machine.execStatus s
  | .restart => Sys2Proof.Machine.execRestart s
  | .notifyOn mask => Sys2Proof.Machine.execNotifyOn mask s
  | .notifyOff mask => Sys2Proof.Machine.execNotifyOff mask s
  | .eventsClear mask => Sys2Proof.Machine.execEventsClear mask s
  | .setInput input mode filter report => Sys2Proof.Machine.execSetInput input mode filter report s
  | .inputClear mask => Sys2Proof.Machine.execInputClear mask s
  | .inputInfo => Sys2Proof.Machine.execInputInfo s
  | .dsnOpen design declared blocks xmin xmax ymin ymax seqLen entries => Sys2Proof.Machine.execDsnOpen design declared blocks xmin xmax ymin ymax seqLen entries s
  | .dsnBlock design block count records => Sys2Proof.Machine.execDsnBlock design block count records s
  | .dsnClose design check => Sys2Proof.Machine.execDsnClose design check s
  | .dsnDrop design => Sys2Proof.Machine.execDsnDrop design s
  | .dsnInfo design => Sys2Proof.Machine.execDsnInfo design s
  | .arm design hoop => Sys2Proof.Machine.execArm design hoop s
  | .disarm => Sys2Proof.Machine.execDisarm s
  | .start => Sys2Proof.Machine.execStart s
  | .stop => Sys2Proof.Machine.execStop s
  | .resume => Sys2Proof.Machine.execResume s
  | .halt => Sys2Proof.Machine.execHalt s
  | .recover => Sys2Proof.Machine.execRecover s
  | .keepFrame value => Sys2Proof.Machine.execKeepFrame value s
  | .preselect needle => Sys2Proof.Machine.execPreselect needle s
  | .seqEdit design first count entries => Sys2Proof.Machine.execSeqEdit design first count entries s
  | .needleGo needle => Sys2Proof.Machine.execNeedleGo needle s
  | .caseInfo => Sys2Proof.Machine.execCaseInfo s
  | .setMotion settings => Sys2Proof.Machine.execSetMotion settings s
  | .setProfile points => Sys2Proof.Machine.execSetProfile points s
  | .getSettings => Sys2Proof.Machine.execGetSettings s
  | .speed rpm => Sys2Proof.Machine.execSpeed rpm s
  | .setOutput kind head mode polarity => Sys2Proof.Machine.execSetOutput kind head mode polarity s
  | .outputInfo => Sys2Proof.Machine.execOutputInfo s
  | .frameGo mode x y => Sys2Proof.Machine.execFrameGo mode x y s
  | .frameHome => Sys2Proof.Machine.execFrameHome s
  | .frameTrace => Sys2Proof.Machine.execFrameTrace s
  | .framePark => Sys2Proof.Machine.execFramePark s
  | .setFrame dirX dirY offX offY parkX parkY rPos => Sys2Proof.Machine.execSetFrame dirX dirY offX offY parkX parkY rPos s
  | .setHoop entry xmin xmax ymin ymax => Sys2Proof.Machine.execSetHoop entry xmin xmax ymin ymax s
  | .hoopSelect entry => Sys2Proof.Machine.execHoopSelect entry s
  | .frameInfo => Sys2Proof.Machine.execFrameInfo s
  | .needleProfile needle monitor base k rlo rhi b f => Sys2Proof.Machine.execNeedleProfile needle monitor base k rlo rhi b f s
  | .threadPolicy onBreak onBobbin => Sys2Proof.Machine.execThreadPolicy onBreak onBobbin s
  | .captureArm head => Sys2Proof.Machine.execCaptureArm head s
  | .captureRead => Sys2Proof.Machine.execCaptureRead s
  | .threadInfo => Sys2Proof.Machine.execThreadInfo s
  | .headsOn mask => Sys2Proof.Machine.execHeadsOn mask s
  | .headsOff mask => Sys2Proof.Machine.execHeadsOff mask s
  | .repair mask => Sys2Proof.Machine.execRepair mask s
  | .repairEnd => Sys2Proof.Machine.execRepairEnd s
  | .repairCancel mask => Sys2Proof.Machine.execRepairCancel mask s
  | .repairSetup overlap trim => Sys2Proof.Machine.execRepairSetup overlap trim s
  | .headInfo => Sys2Proof.Machine.execHeadInfo s
  | .powerOnReset headPins needlePins ratePins => Sys2Proof.Machine.execPowerOnReset headPins needlePins ratePins s
  | .resetAssert => Sys2Proof.Machine.execResetAssert s
  | .resetRelease => Sys2Proof.Machine.execResetRelease s
  | .inputLineChange line high => Sys2Proof.Machine.execInputLineChange line high s
  | .inputFilterSettled input => Sys2Proof.Machine.execInputFilterSettled input s
  | .estopAssertion => Sys2Proof.Machine.execEstopAssertion s
  | .estopRelease => Sys2Proof.Machine.execEstopRelease s
  | .axisDriveNotReady axis => Sys2Proof.Machine.execAxisDriveNotReady axis s
  | .axisDriveReady axis => Sys2Proof.Machine.execAxisDriveReady axis s
  | .shaftDriveNotReady => Sys2Proof.Machine.execShaftDriveNotReady s
  | .shaftDriveReady => Sys2Proof.Machine.execShaftDriveReady s
  | .encoderCount forward elapsed => Sys2Proof.Machine.execEncoderCount forward elapsed s
  | .indexPulse forward period => Sys2Proof.Machine.execIndexPulse forward period s
  | .speedTimeout => Sys2Proof.Machine.execSpeedTimeout s
  | .stallTimeout => Sys2Proof.Machine.execStallTimeout s
  | .shaftStill => Sys2Proof.Machine.execShaftStill s
  | .feedPulse head => Sys2Proof.Machine.execFeedPulse head s
  | .caseCodeLineChange code => Sys2Proof.Machine.execCaseCodeLineChange code s
  | .caseCodeSettled => Sys2Proof.Machine.execCaseCodeSettled s
  | .caseSettleExpiry => Sys2Proof.Machine.execCaseSettleExpiry s
  | .caseTimeout => Sys2Proof.Machine.execCaseTimeout s
  | .axisStep axis => Sys2Proof.Machine.execAxisStep axis s
  | .homingSearchLimit => Sys2Proof.Machine.execHomingSearchLimit s

end Sys2Proof.Machine
end

