-- ==== Sys2Proof/Machine/Idle.lean ====
section
/-! DEFINITION. What passes when no command waits: one millisecond of the timers the part lets the host or a rule read.
DESIGN CHOICE, log entry 7. -/

namespace Sys2Proof.Machine

/-- R109, R110, R75: a millisecond of the case timers and the stall timer. What follows when one expires comes as its own
command (CASE_TIMEOUT, CASE_SETTLE_EXPIRY, STALL_TIMEOUT). -/
def State.idle (s : State) : State := (s.modCase NeedleCase.tick).modShaft Shaft.tick

end Sys2Proof.Machine
end

