-- ==== Sys2Proof/Safety.lean ====
section
/-! DEFINITION. What counts as a sound state of the part, in the terms the statements use: a link that takes a request at
once, a part in which nothing waits to begin, the form of the design store, the bounds of the queues, and a needle bar
that is released. -/

namespace Sys2Proof.Machine

/-! ### The link -/

/-- RESET is not asserted, and the request queue and the reply slot are empty: a request is taken at once (R175, R182). -/
def State.linkFree (s : State) : Bool := !s.resetHeld && s.link.requests.isEmpty && s.link.reply.isNone

/-- Nothing waits that could begin. -/
def State.quiet (s : State) : Bool := s.settleOne.isNone

/-- A request is taken at once and nothing else waits to begin. -/
def State.ready (s : State) : Bool := s.linkFree && s.quiet

/-- R175, R176: the state with a reply of this TYPE and payload in its slot; an idle transmitter has begun to send it. -/
def State.replied (s : State) (ty : Nat) (payload : List Byte) : State :=
  { s with
    link :=
      { s.link with
        reply := some ⟨ty, payload⟩
        taking := false
        transmitter := match s.link.transmitter with
          | .idle => .reply ⟨ty, payload⟩
          | .reply f => .reply f
          | .notice f => .notice f } }

/-! ### The design store (R1 to R3) -/

/-- The designs of the directory, in slot order. -/
def Store.designs (st : Store) : List Design := st.dir.filterMap id

/-- Every page that stands in a chain, slot after slot. -/
def Store.chained (st : Store) : List Nat := st.designs.flatMap fun d => d.chain.map ChainPage.page

/-- R3, R9: the chain of a design has a page for every 256 stored records, each full but the last. -/
structure Design.Chained (d : Design) : Prop where
  length : d.chain.length = (d.stored + 255) / 256
  held : ∀ (k : Nat) (c : ChainPage), d.chain[k]? = some c → c.held = min 256 (d.stored - 256 * k)

/-- R1 to R3: eight entries with distinct numbers; the free list ascends; each of the 2,048 pages is on the free list or in
exactly one chain; every chain fits its stored count; the serial RAM keeps its canonical form. -/
structure Store.Sound (st : Store) : Prop where
  slots : st.dir.length = 8
  numbers : (st.designs.map Design.number).Nodup
  ascending : st.free.Pairwise (· < ·)
  pages : (st.free ++ st.chained).Perm (List.range 2048)
  chains : ∀ d ∈ st.designs, d.Chained
  ram : memWf st.ram = true

/-- The stored records of a design, in record order (R17). -/
def Store.recordsOf (st : Store) (d : Design) : List Record := (List.range d.stored).filterMap (st.record d)

/-- R4: the sum of the moves of a run of records. -/
def moveSum (l : List Record) : Int × Int := ((l.map Record.dx).sum, (l.map Record.dy).sum)

/-- R4: the number of STOP records in a run of records. -/
def stopCount (l : List Record) : Nat := l.countP fun r => r.kind == .stop

/-- R1, R3: the running position and the STOP count are those of the stored records, and every page summary those of the
records before its page. -/
structure Store.Summed (st : Store) (d : Design) : Prop where
  run : (d.runX, d.runY) = moveSum (st.recordsOf d)
  stops : d.stops = stopCount (st.recordsOf d)
  starts : ∀ (k : Nat) (c : ChainPage), d.chain[k]? = some c →
    (c.startX, c.startY) = moveSum ((st.recordsOf d).take (256 * k)) ∧
      c.startBlock = stopCount ((st.recordsOf d).take (256 * k))

/-- R4: the record that three bytes in link form spell. -/
def RawRecord.record (r : RawRecord) : Record :=
  { kind := (RecKind.ofCode r.kind.toNat).getD .stitch, dx := r.dx.toInt, dy := r.dy.toInt }

/-! ### Queues and chains (R28, R31 to R38, R148, R170, R175) -/

/-- What no step breaks: the request queue, the notice queue and the lookahead queue keep within their places; a chain of
held-shaft operations stands in CHANGING and RETURNING only; the player waits for a positioning, or makes an entry trim, in
STOPPING only, and never for a positioning before the trim's revolution has ended. R87, R102: the position counts keep
within their range, and the home offsets, which a homing puts into them, within the machine's travel. -/
structure State.InForm (s : State) : Prop where
  requests : s.link.requests.length ≤ 2
  notices : s.link.notices.length ≤ 8
  lookahead : s.player.queue.length ≤ 32
  chains : s.player.errand ≠ .none → s.player.state = .changing ∨ s.player.state = .returning
  stops : s.player.positionAsked = true ∨ s.player.entryTrim ≠ .none → s.player.state = .stopping
  trims : s.player.positionAsked = true → s.player.entryTrim = .none ∨ s.player.entryTrim = .ending
  countX : -262143 ≤ s.frame.x ∧ s.frame.x ≤ 262143
  countY : -262143 ≤ s.frame.y ∧ s.frame.y ≤ 262143
  homeX : -6000 ≤ s.frame.settings.offX ∧ s.frame.settings.offX ≤ 6000
  homeY : -2500 ≤ s.frame.settings.offY ∧ s.frame.settings.offY ≤ 2500

/-- R35, R36: what a request for a stop as soon as the governor allows, with the reason `r`, makes of the state in which it is
made, by player state; `why` is the reason with which STARVED pauses. A reason held already is kept; a player at rest holds
none. `answers` tells of the state that results. -/
def State.StopsSoon (s : State) (r : StopReason) (why : PauseReason) (answers : State → Prop) : Prop :=
  let held := some (s.player.stopReason.getD r)
  match s.player.state with
  | .running => answers { s with player := { s.player with state := .stopping, stopReason := held, soonStop := true } }
  | .stopping => answers { s with player := { s.player with stopReason := held, soonStop := true } }
  | .changing => answers { s with player := { s.player with stopReason := held } }
  | .returning => answers { s with player := { s.player with stopReason := held } }
  | .starved =>
      s.frame.owner = .player → s.frame.move = none → s.gov.move = none →
      answers ({ s with
        frame := { s.frame with lent := true }
        player := { s.player with
          state := .paused why, stopReason := none, stopIndex := none, soonStop := false, positionAsked := false
          errand := .none, entryTrim := .none } }.latch .playerState (6 :: b1 why.code ++ b4 s.player.cursor))
  | .idle => answers s
  | .armed => answers s
  | .paused _ => answers s
  | .finished => answers s
  | .halted _ => answers s

/-! ### Needle bars (R79, R80, R83) -/

/-- The needle bar of head `h` is released: its HOLD output is driven inactive. -/
def State.released (s : State) (h : Nat) : Bool := s.holdValue h == some false

/-- R80: the head may sew in this pass mode: enabled, switched on, and OK in a NORMAL pass or ACTIVE in a REPAIR pass. -/
def Head.maySew (mode : PassMode) (h : Head) : Prop :=
  h.enabled = true ∧ h.switch = true ∧ (match mode with | .normal => h.condition = .ok | .repair => h.role = .active)

end Sys2Proof.Machine
end

