-- ==== Sys2Proof/Certificates/Slice0/Obligations.lean ====
section
/-! DEFINITION. The statements about the ZH12 that the provers are asked for. `State.ready` says that a request is taken at
once (RESET not asserted, request queue and reply slot empty) and that nothing else waits to begin; `State.replied` is the
state with the reply placed. An equation with one record update on its right is a frame as well: every field that the
update does not name is as it was. -/

open Sys2Proof Sys2Proof.Machine

/-! ### The queue of commands -/

/-- The model's own step (log entries 7 and 8): the command at the front runs on the queue's rest; with none waiting, a
millisecond of the case timers and of the stall timer passes. -/
def Obligations.StepRunsTheFrontCommand : Prop :=
  ∀ s : State,
    (∀ (c : Instr) (rest : List Instr), s.pending = c :: rest → step s = exec c { s with pending := rest }) ∧
    (s.pending = [] → step s = .next { s with nc := s.nc.tick, shaft := s.shaft.tick })

/-! ### Frames and the serial line (R173 to R178) -/

/-- R177, R178, R185: the frame that carries a well-formed request is read back as that request; one whose announced counts
do not fit its length is read as BAD_LENGTH, and a TYPE that is not assigned as unknown. -/
def Obligations.RequestFrameReadsBack : Prop :=
  ∀ (i : Instr) (ty : Nat) (payload : List Byte), i.wf = true → encodeRequest i = some (ty, payload) →
    ty < 256 ∧
    decodeRequest ty payload =
      (match i with
        | .unknownType _ _ => .unknown
        | _ => if i.counted then .request i else .badLength)

/-- R173 to R177: the bytes of a request's frame, arriving at a receiver in HUNT, do exactly what the request does: the
framing, the check and the field layout carry the whole request and nothing more. That a request comes as a command
beside its frame is the model's (log entry 11). -/
def Obligations.ReceivedFrameActsAsItsRequest : Prop :=
  ∀ (s : State) (i : Instr) (ty : Nat) (payload : List Byte), i.wf = true → encodeRequest i = some (ty, payload) →
    payload.length ≤ 300 → s.resetHeld = false → s.link.receiver = .hunt → s.quiet = true →
    ∃ t : State, exec (.receiveFrame (LinkFrame.bytes ⟨ty, payload⟩)) s = .next t ∧ exec i s = .next t

/-- R174: what one byte does in each phase of the receiver before a good frame is complete, and a gap; a LEN above 300, a
gap, a framing error and a CHECK that differs each discard the frame, latch LINK_ERROR with their kind and leave the
receiver in HUNT, where a framing error and a gap do nothing. The gap and the framing error come as commands (log entry
9). -/
def Obligations.ReceiverPhases : Prop :=
  ∀ (s : State) (b : Byte), s.resetHeld = false → s.quiet = true →
    let phase := fun r : Receiver => Host.Outcome.next { s with link := { s.link with receiver := r } }
    let discarded := fun kind : Byte =>
      Host.Outcome.next ({ s with link := { s.link with receiver := .hunt } }.latch .linkError [kind])
    (s.link.receiver = .hunt → exec (.byteReceived b true) s = if b = 0xC3 then phase (.length none) else .next s) ∧
    (s.link.receiver = .length none → exec (.byteReceived b true) s = phase (.length (some b))) ∧
    (∀ lo : Byte, s.link.receiver = .length (some lo) →
      exec (.byteReceived b true) s =
        if lo.toNat + 256 * b.toNat ≤ 300 then phase (.type (lo.toNat + 256 * b.toNat)) else discarded 0) ∧
    (s.link.receiver = .type 0 → exec (.byteReceived b true) s = phase (.check b.toNat [] none)) ∧
    (∀ len : Nat, 0 < len → s.link.receiver = .type len → exec (.byteReceived b true) s = phase (.payload len b.toNat [])) ∧
    (∀ (len ty : Nat) (taken : List Byte), s.link.receiver = .payload len ty taken →
      exec (.byteReceived b true) s =
        if taken.length + 1 < len then phase (.payload len ty (taken ++ [b])) else phase (.check ty (taken ++ [b]) none)) ∧
    (∀ (ty : Nat) (taken : List Byte), s.link.receiver = .check ty taken none →
      exec (.byteReceived b true) s = phase (.check ty taken (some b))) ∧
    (∀ (ty : Nat) (taken : List Byte) (lo : Byte), s.link.receiver = .check ty taken (some lo) →
      (frameCheck (LinkFrame.checked ⟨ty, taken⟩)).toNat ≠ lo.toNat + 256 * b.toNat →
      exec (.byteReceived b true) s = discarded 3) ∧
    exec (.byteReceived b false) s = (if s.link.receiver = .hunt then .next s else discarded 2) ∧
    exec .linkGapTimeout s = (if s.link.receiver = .hunt then .next s else discarded 1)

/-- R175, R177: what the link interface does itself, the blocks untouched: a request that arrives while a reply stands in
its slot joins the request queue at its tail, or is discarded behind two others, LINK_ERROR latched with QUEUE_FULL; a
request whose announced counts do not fit its length, and a TYPE that is not assigned, are refused by name. A request
that comes as a command while the link is busy waits as its frame (DESIGN CHOICE, log entry 11). -/
def Obligations.LinkQueuesAndRefusesRequests : Prop :=
  (∀ (s : State) (i : Instr) (ty : Nat) (payload : List Byte), encodeRequest i = some (ty, payload) →
    s.resetHeld = false → s.quiet = true → s.link.reply.isSome = true →
    (s.link.requests.length < 2 →
      exec i s = .next { s with link := { s.link with requests := s.link.requests ++ [⟨ty, payload⟩] } }) ∧
    (2 ≤ s.link.requests.length → exec i s = .next (s.latch .linkError [4]))) ∧
  (∀ (s : State) (i : Instr) (ty : Nat) (payload : List Byte), s.ready = true → encodeRequest i = some (ty, payload) →
    i.counted = false → exec i s = .next (s.replied (ty + 0x80) [2])) ∧
  (∀ (s : State) (ty : Nat) (payload : List Byte), s.ready = true → ty < 256 → assignedTypes.contains ty = false →
    exec (.unknownType ty payload) s =
      .next (if ty < 0x70 then s.replied (ty + 0x80) [1] else s.replied 0xFF [1, BitVec.ofNat 8 ty]))

/-- R176, R170: the end of the frame being sent. With requests and notices both waiting behind a reply the two orders of
R176 are both allowed. Which is made is a free choice (log entry 3). -/
def Obligations.FrameSentChoosesTheNext : Prop :=
  ∀ s : State, s.resetHeld = false → s.quiet = true →
    (s.link.transmitter = .idle → exec .frameSent s = .next s) ∧
    (∀ f : LinkFrame, s.link.transmitter = .notice f →
      exec .frameSent s = .next { s with
        link := (match s.link.reply, s.link.notices with
          | some r, _ => { s.link with transmitter := .reply r }
          | none, n :: rest => { s.link with transmitter := .notice n.frame, notices := rest }
          | none, [] => { s.link with transmitter := .idle }) }) ∧
    (∀ f : LinkFrame, s.link.transmitter = .reply f → s.link.requests = [] →
      exec .frameSent s = .next { s with
        link := (match s.link.notices with
          | n :: rest => { s.link with reply := none, transmitter := .notice n.frame, notices := rest }
          | [] => { s.link with reply := none, transmitter := .idle }) }) ∧
    (∀ (f q : LinkFrame) (rest : List LinkFrame), s.link.transmitter = .reply f → s.link.requests = q :: rest →
      s.link.notices = [] →
      exec .frameSent s =
        .next ({ s with link := { s.link with reply := none, transmitter := .idle, requests := rest } }.takeFrame q).settle) ∧
    (∀ (f q : LinkFrame) (rest : List LinkFrame) (n : Notice) (ns : List Notice), s.link.transmitter = .reply f →
      s.link.requests = q :: rest → s.link.notices = n :: ns →
      exec .frameSent s =
        .next ({ s with
          choices := s.choices + 1
          link := { s.link with reply := none, transmitter := .idle, requests := rest } }.takeFrame q).settle ∨
      exec .frameSent s =
        .next ({ s with
          choices := s.choices + 1
          link := { s.link with reply := none, transmitter := .notice n.frame, notices := ns, requests := rest } }.takeFrame q).settle)

/-- R28, R170, R175: no step makes a queue longer than its place: 2 requests, 8 notices, 32 records of lookahead; R31 to
R38, R148: a chain of held-shaft operations stands in CHANGING and RETURNING only, a planned stop and an entry trim in
STOPPING. R87, R102: both position counts keep within −262,143 to +262,143, and the home offsets within the machine's
travel. The fields named are the model's own form (log entry 8 and State.InForm). -/
def Obligations.StepKeepsQueuesAndChains : Prop :=
  ∀ s t : State, s.InForm → step s = .next t → t.InForm

/-! ### Events and inputs (R161 to R171) -/

/-- R168 to R170: a latching sets its flag and nothing else among the flags; only a subscribed flag offers a notice,
which is lost when 8 wait; an idle transmitter begins the oldest at once, but not between the taking of a request and its
reply. NOTIFY_ON, NOTIFY_OFF and EVENTS_CLEAR change the named bits and reply with the mask as it then stands. The mark
that a request is being answered is the model's (DEDUCED, log entry 12). -/
def Obligations.EventFlagsAndMasks : Prop :=
  (∀ (s : State) (e : Event) (detail : List Byte),
    (s.ev.subscribed &&& e.bit = 0 → s.latch e detail = { s with ev := { s.ev with flags := s.ev.flags ||| e.bit } }) ∧
    (s.ev.subscribed &&& e.bit ≠ 0 → (s.link.transmitter ≠ .idle ∨ s.link.taking = true) →
      s.latch e detail = { s with
        ev := { s.ev with flags := s.ev.flags ||| e.bit }
        link := { s.link with
          notices := if s.link.notices.length < 8 then s.link.notices ++ [⟨e.number, detail⟩] else s.link.notices } }) ∧
    (s.ev.subscribed &&& e.bit ≠ 0 → s.link.transmitter = .idle → s.link.taking = false → s.link.reply = none →
      s.link.notices = [] →
      s.latch e detail = { s with
        ev := { s.ev with flags := s.ev.flags ||| e.bit }
        link := { s.link with
          transmitter := .notice ⟨0xF0, BitVec.ofNat 8 e.number :: BitVec.ofNat 8 detail.length :: detail⟩ } })) ∧
  (∀ (s : State) (mask : Nat), s.ready = true →
    (let on := s.ev.subscribed ||| BitVec.ofNat 16 mask
     exec (.notifyOn mask) s =
       .next ({ s with ev := { s.ev with subscribed := on } }.replied 0x83 (replyOf .ok (b2 on.toNat)))) ∧
    (let off := s.ev.subscribed &&& ~~~(BitVec.ofNat 16 mask)
     exec (.notifyOff mask) s =
       .next ({ s with ev := { s.ev with subscribed := off } }.replied 0x84 (replyOf .ok (b2 off.toNat)))) ∧
    (let left := s.ev.flags &&& ~~~(BitVec.ofNat 16 mask)
     exec (.eventsClear mask) s =
       .next ({ s with ev := { s.ev with flags := left } }.replied 0x85 (replyOf .ok (b2 left.toNat)))))

/-- R180, R186: STATUS changes nothing, and its reply of 50 bytes holds each value at its offset. -/
def Obligations.StatusReportsTheState : Prop :=
  ∀ s : State, s.ready = true →
    ∃ p : List Byte, exec .status s = .next (s.replied 0x81 p) ∧ p.length = 50 ∧ fieldAt p 0 1 = 0 ∧
      fieldAt p 1 1 = s.player.state.code ∧
      fieldAt p 2 1 = s.player.state.reason.getD 0xFF ∧
      fieldAt p 3 1 = s.player.mode.code ∧
      fieldAt p 4 2 = s.player.armed.getD 0 % 65536 ∧
      fieldAt p 6 4 = s.player.cursor % 4294967296 ∧
      fieldAt p 10 4 = s.player.resume % 4294967296 ∧
      fieldAt p 14 2 = s.gov.sCmd % 65536 ∧
      fieldAt p 16 2 = s.gov.cPrev % 65536 ∧
      fieldAt p 18 2 = s.shaft.sMeas % 65536 ∧
      fieldAt p 20 1 = s.shaft.state.code ∧
      fieldAt p 21 1 = s.nc.pos % 256 ∧
      fieldAt p 22 1 = s.player.preselect.getD 0xFF % 256 ∧
      fieldAt p 23 1 = s.frame.owner.code + (if s.frame.lent then 4 else 0) + (if s.player.displaced then 8 else 0)
        + (if s.frame.known then 16 else 0) ∧
      fieldAt p 24 4 = (s.frame.x % 4294967296).toNat ∧
      fieldAt p 28 4 = (s.frame.y % 4294967296).toNat ∧
      fieldAt p 32 1 = s.heads.repairs.length % 256 ∧
      fieldAt p 33 2 = (s.ev.flags &&& s.ev.subscribed).toNat ∧
      fieldAt p 35 1 = s.ev.cause.code ∧
      fieldAt p 36 1 = s.straps.heads % 256 ∧
      fieldAt p 37 1 = s.straps.needles % 256 ∧
      ∀ h : Nat, h < 12 → fieldAt p (38 + h) 1 = (match s.heads.table[h]? with
        | some d => (if d.enabled then 1 else 0) + (if d.switch then 2 else 0) + 4 * d.condition.code + 16 * d.role.code
            + (if d.engaged then 64 else 0) + (if d.bobbinLow then 128 else 0)
        | none => 0)

/-! ### The design store (R1 to R21) -/

/-- R6: DSN_OPEN: its checks in their order, and the entry it sets in the lowest EMPTY slot. -/
def Obligations.DsnOpenFillsTheLowestSlot : Prop :=
  ∀ (s : State) (design declared blocks : Nat) (xmin xmax ymin ymax : Int) (seqLen : Nat) (entries : List Byte),
    s.ready = true →
    let answer := exec (.dsnOpen design declared blocks xmin xmax ymin ymax seqLen entries) s
    let good := design ≠ 0 ∧ 1 ≤ declared ∧ declared ≤ 524288 ∧ 1 ≤ blocks ∧ blocks ≤ 256 ∧ blocks ≤ declared ∧
      seqLen = blocks ∧
      (∀ b ∈ entries, b.toNat / 16 % 8 = 0 ∧ 1 ≤ b.toNat % 16 ∧ b.toNat % 16 ≤ s.straps.needles) ∧
      xmin ≠ -32768 ∧ xmax ≠ -32768 ∧ ymin ≠ -32768 ∧ ymax ≠ -32768 ∧ xmin ≤ 0 ∧ 0 ≤ xmax ∧ ymin ≤ 0 ∧ 0 ≤ ymax
    (seqLen ≠ entries.length → answer = .next (s.replied 0x90 [2])) ∧
    (seqLen = entries.length → ¬good → answer = .next (s.replied 0x90 [3])) ∧
    (seqLen = entries.length → good → none ∉ s.store.dir → answer = .next (s.replied 0x90 [7])) ∧
    (seqLen = entries.length → good → none ∈ s.store.dir → design ∈ s.store.designs.map Design.number →
      answer = .next (s.replied 0x90 [6])) ∧
    (seqLen = entries.length → good → design ∉ s.store.designs.map Design.number →
      ∀ before after : List (Option Design), s.store.dir = before ++ none :: after → none ∉ before →
      let d : Design :=
        { number := design, state := .loading, declared := declared, blocks := blocks, box := ⟨xmin, xmax, ymin, ymax⟩,
          seq := entries.map fun b => ⟨b.toNat % 16, decide (128 ≤ b.toNat)⟩, stored := 0, chain := [], nextBlock := 0,
          runX := 0, runY := 0, crc := 0xFFFFFFFF, stops := 0, armedPin := false, repairPin := false }
      answer = .next ({ s with store := { s.store with dir := before ++ some d :: after } }.replied 0x90 [0]))

/-- R7, R8: the refusals of DSN_BLOCK in their order; a refused block changes nothing. The first failing record gives the
offset and the reason, which is the first that applies in the table's order; the trial values it is judged by start from
the entry's and advance with each record before it. A block that needs a page while none is free is refused NO_SPACE
(R9). The layout of the details is DEDUCED (log entry 14), and so is the refusal of a block number above 8,191 (log
entry 38). -/
def Obligations.DsnBlockRefusals : Prop :=
  (∀ (s : State) (design block count : Nat) (records : List RawRecord), s.ready = true →
    let answer := exec (.dsnBlock design block count records) s
    (count ≠ records.length → answer = .next (s.replied 0x91 [2])) ∧
    (count = records.length → (count = 0 ∨ 64 < count) → answer = .next (s.replied 0x91 [3])) ∧
    (count = records.length → 1 ≤ count → count ≤ 64 →
      (s.store.find design = none → answer = .next (s.replied 0x91 [8])) ∧
      (∀ d : Design, s.store.find design = some d →
        (d.state ≠ .loading → answer = .next (s.replied 0x91 (4 :: b1 d.state.code))) ∧
        (d.state = .loading → (block ≠ d.nextBlock ∨ 8191 < block) →
          answer = .next (s.replied 0x91 (9 :: b2 d.nextBlock))) ∧
        (d.state = .loading → block = d.nextBlock → block ≤ 8191 →
          let passes := fun l : List RawRecord => ∀ (j : Nat) (q : RawRecord), l[j]? = some q →
            recordReason d ((l.take j).foldl Trial.advance d.trial) q = none
          (∀ (passed failing : List RawRecord) (r : RawRecord) (reason : Nat), records = passed ++ r :: failing →
            passes passed → recordReason d (passed.foldl Trial.advance d.trial) r = some reason →
            answer = .next (s.replied 0x91 (10 :: b1 passed.length ++ b1 reason))) ∧
          (passes records → s.store.free = [] →
            (d.stored % 256 = 0 ∨ 256 < d.stored % 256 + count) → answer = .next (s.replied 0x91 [7, 0, 0])))))) ∧
  (∀ (d : Design) (t : Trial) (r : RawRecord),
    d.trial = ⟨d.runX, d.runY, d.stops, d.stored⟩ ∧
    t.advance r = ⟨t.x + r.dx.toInt, t.y + r.dy.toInt, if r.kind = 3 then t.stops + 1 else t.stops, t.index + 1⟩) ∧
  (∀ (d : Design) (t : Trial) (r : RawRecord),
    recordReason d t r =
      if 4 < r.kind.toNat then some 1
      else if r.dx = 0x80 ∨ r.dy = 0x80 then some 2
      else if 2 ≤ r.kind.toNat ∧ (r.dx ≠ 0 ∨ r.dy ≠ 0) then some 3
      else if d.declared ≤ t.index then some 4
      else if r.kind = 4 ∧ t.index < d.declared - 1 then some 5
      else if r.kind ≠ 4 ∧ t.index = d.declared - 1 then some 6
      else if r.kind = 3 ∧ d.blocks - 1 < t.stops + 1 then some 7
      else if r.kind.toNat < 2 ∧ ¬(d.box.xmin ≤ t.x + r.dx.toInt ∧ t.x + r.dx.toInt ≤ d.box.xmax ∧
        d.box.ymin ≤ t.y + r.dy.toInt ∧ t.y + r.dy.toInt ≤ d.box.ymax) then some 8
      else none)

/-- R9: an accepted block of a design that is not armed: it is stored whole, and the reply holds the new stored count,
the next block number and the free page count. R20, R28: one of the armed design is reported to the player as well; the
prefetcher appends what it can in the states in which it works, and in FINISHED and HALTED nothing follows. R39: in STARVED
the prefetcher comes first; 16 records past the mark, or with the END stored, the player leaves STARVED for RUNNING: every
output returns to AUTO, a HELD shaft turns from TDC at the run-up speed, and one in OFF_POSITION positions first, the turn
request kept (R68, R71). The layout of the detail is DEDUCED (log entry 14). -/
def Obligations.DsnBlockIsStoredWhole : Prop :=
  ∀ (s : State) (design block count : Nat) (records : List RawRecord) (d : Design), s.ready = true →
    count = records.length → 1 ≤ count → count ≤ 64 → s.store.find design = some d → d.state = .loading →
    block = d.nextBlock → block ≤ 8191 → blockReason d d.trial 0 records = none →
    ∀ pages : Nat, pages = (if d.stored % 256 = 0 ∨ 256 < d.stored % 256 + count then 1 else 0) →
      pages ≤ s.store.free.length →
      let answer := exec (.dsnBlock design block count records) s
      let detail := 0 :: b4 (d.stored + count) ++ b2 (d.nextBlock + 1) ++ b2 (s.store.free.length - pages)
      let stored : State := { s with store := s.store.storeBlock d records }
      (d.armedPin = false → answer = .next (stored.replied 0x91 detail)) ∧
      (d.armedPin = true →
        (s.player.state = .armed ∨ s.player.state = .running ∨ s.player.state = .stopping ∨ s.player.state = .changing ∨
            s.player.state = .returning ∨ (∃ r : PauseReason, s.player.state = .paused r) →
          answer = .next (stored.prefetch.replied 0x91 detail)) ∧
        (s.player.state = .idle ∨ s.player.state = .finished ∨ (∃ c : HaltCause, s.player.state = .halted c) →
          answer = .next (stored.replied 0x91 detail))) ∧
      (d.armedPin = true → s.player.armed = some design → s.player.state = .starved → s.player.errand = .none →
        s.nc.kept = none →
        let enough := s.player.starvedMark + 16 ≤ d.stored + count ∨ d.stored + count = d.declared
        (¬enough → answer = .next (stored.prefetch.replied 0x91 detail)) ∧
        (enough → s.shaft.state = .held → s.shaft.driveReady = true → s.frame.owner ≠ .positioner →
          ∃ t : State, answer = .next t ∧ t.link.reply = some ⟨0x91, detail⟩ ∧
            t.player = { stored.prefetch.player with state := .running } ∧ t.store = stored.store ∧
            t.shaft = { s.shaft with
              state := .turning, demand := min s.gov.active.motion.sStart s.gov.sCmd, stall := t.shaft.stall
              runUp := true } ∧
            t.outs = s.outs.allAuto ∧ t.gov = s.gov ∧ t.frame = s.frame ∧ t.heads = s.heads ∧ t.thread = s.thread ∧
            t.ev = s.ev ∧ t.straps = s.straps ∧ t.pending = s.pending) ∧
        (enough → (s.shaft.state = .offPosition ∨ s.shaft.state = .off) → s.shaft.driveReady = true →
          s.frame.owner ≠ .positioner →
          ∃ t : State, answer = .next t ∧ t.link.reply = some ⟨0x91, detail⟩ ∧
            t.player = { stored.prefetch.player with state := .running } ∧ t.store = stored.store ∧
            t.shaft = { s.shaft with
              state := .positioning, phase := .creep, demand := s.gov.active.motion.sStop, stall := t.shaft.stall
              retry := 0, extra := 0, cause := none, faultStill := false, toOff := false, keptHold := false
              keptTurn := true } ∧
            t.outs = s.outs.allAuto ∧ t.gov = s.gov ∧ t.frame = s.frame ∧ t.heads = s.heads ∧ t.thread = s.thread ∧
            t.ev = s.ev ∧ t.straps = s.straps ∧ t.pending = s.pending))

/-- R9, R10, R17: what storing a block leaves in the entry, and every record read back: the new ones as they came, the old
ones as they were, those of every other design too. Sound page summaries (R3) stay sound. -/
def Obligations.StoredBlockReadsBack : Prop :=
  ∀ (st : Store) (d : Design) (rs : List RawRecord), st.Sound → st.find d.number = some d → rs.length ≤ 64 →
    blockReason d d.trial 0 rs = none → (d.needsPage rs.length = true → st.free ≠ []) →
    ∃ d' : Design, (st.storeBlock d rs).find d.number = some d' ∧
      d'.stored = d.stored + rs.length ∧ d'.nextBlock = d.nextBlock + 1 ∧
      (d'.runX, d'.runY) = ((d.runX, d.runY) + moveSum (rs.map RawRecord.record)) ∧
      d'.stops = d.stops + stopCount (rs.map RawRecord.record) ∧
      d'.crc = (rs.flatMap RawRecord.bytes).foldl crcByte d.crc ∧
      d' = { d with
        stored := d'.stored, chain := d'.chain, nextBlock := d'.nextBlock, runX := d'.runX, runY := d'.runY, crc := d'.crc
        stops := d'.stops } ∧
      (st.Summed d → (st.storeBlock d rs).Summed d') ∧
      (st.storeBlock d rs).recordsOf d' = st.recordsOf d ++ rs.map RawRecord.record ∧
      ∀ e ∈ st.designs, e.number ≠ d.number →
        e ∈ (st.storeBlock d rs).designs ∧ (st.storeBlock d rs).recordsOf e = st.recordsOf e

/-- R18, R19, R4: with sound summaries the store's position and colour block of record i are the sum of the moves and the
number of STOP records before i; record 0 opens block 0, and the record after the b-th STOP opens block b. -/
def Obligations.PositionAndBlockOfRecord : Prop :=
  ∀ (st : Store) (d : Design), d.Chained → st.Summed d →
    (∀ i : Nat, i ≤ d.stored →
      st.position d i = moveSum ((st.recordsOf d).take i) ∧ st.block d i = stopCount ((st.recordsOf d).take i)) ∧
    st.firstOfBlock d 0 = some 0 ∧
    (∀ b : Nat, 0 < b → b ≤ d.stops → ∃ i : Nat, st.firstOfBlock d b = some (i + 1) ∧
      (st.record d i).map Record.kind = some .stop ∧ stopCount ((st.recordsOf d).take i) + 1 = b) ∧
    (∀ b : Nat, d.stops < b → st.firstOfBlock d b = none)

/-- R11, R12: DSN_CLOSE of a design that is not armed; R43: an armed design that fails either check asks for a planned
stop with the reason DESIGN in RUNNING and STOPPING, where it replaces any other reason (R35, R146), is remembered in
CHANGING and RETURNING, halts the player at once in ARMED, PAUSED, STARVED and FINISHED, and in HALTED leaves the cause
and ends a recovery (R42, R44); that a shaft which is still already then goes to OFF at once is DEDUCED (log entry 15).
R20, R39: one that passes is reported to the player, which leaves STARVED. The layout of the details is DEDUCED (log
entry 14); a notice latched meanwhile waits for the reply, as does what becomes possible (log entries 12 and 13). -/
def Obligations.DsnCloseJudgesTheDesign : Prop :=
  (∀ (s : State) (design check : Nat), s.ready = true →
    let answer := exec (.dsnClose design check) s
    (s.store.find design = none → answer = .next (s.replied 0x92 [8])) ∧
    (∀ d : Design, s.store.find design = some d →
      let closed := fun (outcome : DesignState) (e : Event) (detail : List Byte) =>
        { s with
          store := { s.store with
            dir := s.store.dir.map fun (o : Option Design) => o.map fun (x : Design) => if x.number = design then { x with state := outcome } else x }
          link := { s.link with taking := true } }.latch e detail
      (d.state ≠ .loading → answer = .next (s.replied 0x92 (4 :: b1 d.state.code))) ∧
      (d.state = .loading → d.stored < d.declared →
        answer = .next (s.replied 0x92 (11 :: b4 d.stored ++ b2 d.nextBlock))) ∧
      (d.state = .loading → d.declared ≤ d.stored → d.armedPin = false →
        ((d.crc ^^^ 0xFFFFFFFF).toNat ≠ check →
          answer = .next ((closed .failed .designFailed (b2 design ++ [0])).replied 0x92
            (12 :: 0 :: b4 (d.crc ^^^ 0xFFFFFFFF).toNat))) ∧
        ((d.crc ^^^ 0xFFFFFFFF).toNat = check → d.stops + 1 ≠ d.blocks →
          answer = .next ((closed .failed .designFailed (b2 design ++ [1])).replied 0x92 (12 :: 1 :: b1 d.stops))) ∧
        ((d.crc ^^^ 0xFFFFFFFF).toNat = check → d.stops + 1 = d.blocks →
          answer = .next ((closed .ready .designReady (b2 design)).replied 0x92 [0]))))) ∧
  (∀ (s : State) (design check : Nat) (d : Design), s.ready = true → s.store.find design = some d → d.state = .loading →
    d.declared ≤ d.stored → d.armedPin = true →
    let answer := exec (.dsnClose design check) s
    let crc := (d.crc ^^^ 0xFFFFFFFF).toNat
    let closed := fun (outcome : DesignState) (e : Event) (detail : List Byte) =>
      { s with
        store := { s.store with
          dir := s.store.dir.map fun (o : Option Design) => o.map fun (x : Design) => if x.number = design then { x with state := outcome } else x }
        link := { s.link with taking := true } }.latch e detail
    (∀ (why : Byte) (detail : List Byte),
      ((crc ≠ check ∧ why = 0 ∧ detail = b4 crc) ∨ (crc = check ∧ d.stops + 1 ≠ d.blocks ∧ why = 1 ∧ detail = b1 d.stops)) →
      let failed := closed .failed .designFailed (b2 design ++ [why])
      let done := fun u : State => answer = .next (u.replied 0x92 (12 :: why :: detail))
      (s.player.state = .running →
        done { failed with player := { s.player with state := .stopping, stopReason := some .design, soonStop := true } }) ∧
      (s.player.state = .stopping →
        done { failed with
          player := { s.player with stopReason := some .design, soonStop := true }
          heads := { s.heads with
            selection := if s.player.stopReason = some .repair then none else s.heads.selection } }) ∧
      ((s.player.state = .changing ∨ s.player.state = .returning) →
        done { failed with player := { s.player with stopReason := some .design } }) ∧
      ((s.player.state = .armed ∨ (∃ r : PauseReason, s.player.state = .paused r) ∨ s.player.state = .starved ∨
          s.player.state = .finished) →
        ∃ u : State, done u ∧ u.player.state = .halted .design ∧ u.player.queue = [] ∧ u.player.stopReason = none ∧
          u.player.armed = s.player.armed ∧ u.player.cursor = s.player.cursor ∧ u.store = failed.store ∧ u.gov.move = none ∧
          (s.outs.kill = false → u.outs.kill = false) ∧ u.ev.flags &&& Event.designFailed.bit ≠ 0 ∧
          u.ev.flags &&& Event.playerState.bit ≠ 0) ∧
      (∀ c : HaltCause, s.player.state = .halted c →
        (s.player.recovering = false → s.gov.move = none → done failed) ∧
        (s.player.recovering = true → s.gov.move = none → s.player.errand = .none → s.shaft.state = .positioning →
          ∃ u : State, done u ∧ u.player = { s.player with recovering := false } ∧ u.store = failed.store ∧
            u.ev = failed.ev ∧ u.shaft.state = if s.shaft.still then .off else .braking))) ∧
    (crc = check → d.stops + 1 = d.blocks →
      let told := (closed .ready .designReady (b2 design)).prefetch
      (s.player.state ≠ .starved → answer = .next (told.replied 0x92 [0])) ∧
      (s.player.state = .starved → s.player.armed = some design → d.stored = d.declared →
        answer = .next (({ told with
          outs := s.outs.allAuto
          player := { told.player with state := .running } }.turnRequest).replied 0x92 [0]).settle)))

/-- R13, R2: DSN_DROP: a pinned design stays; else its entry becomes EMPTY and its pages go back to their places in the
ascending free list. The layout of the detail is DEDUCED (log entry 14). -/
def Obligations.DsnDropFreesItsPages : Prop :=
  ∀ (s : State) (design : Nat), s.ready = true →
    (s.store.find design = none → exec (.dsnDrop design) s = .next (s.replied 0x93 [8])) ∧
    (∀ d : Design, s.store.find design = some d →
      ((d.armedPin = true ∨ d.repairPin = true) → exec (.dsnDrop design) s = .next (s.replied 0x93 [6])) ∧
      (d.armedPin = false → d.repairPin = false → s.store.free.Pairwise (· < ·) →
        ∀ free : List Nat, free.Pairwise (· < ·) → free.Perm (s.store.free ++ d.chain.map ChainPage.page) →
        exec (.dsnDrop design) s =
          .next ({ s with
            store := { s.store with
              dir := s.store.dir.map fun (o : Option Design) => o.filter fun (x : Design) => decide (x.number ≠ design)
              free := free } }.replied 0x93 (0 :: b2 d.chain.length ++ b2 free.length))))

/-- R1 to R3: every step keeps the form of the design store. -/
def Obligations.StepKeepsStoreSound : Prop := ∀ s t : State, s.store.Sound → step s = .next t → t.store.Sound

/-! ### The stitch player (R22 to R45) -/

/-- R55: the limit L of each kind of record, from its step totals and a set of motion settings and profile. R28, R55: the
prefetcher appends the records that follow the queue, each with the limit of the settings then active, until the queue
holds 32, ends in END, or the next record is not stored. It works in ARMED, RUNNING, STOPPING, CHANGING, RETURNING, PAUSED
and STARVED; in the other states, and on a queue that is full or ends in END already, it does nothing. -/
def Obligations.PrefetchFillsTheQueue : Prop :=
  (∀ (set : MotionSet) (nx ny : Nat),
    let m := set.motion
    let n := max nx ny
    let sLim := fun w : Nat => if n = 0 then m.sMax else 60 * w * m.rMax / (64 * n * steepest set.profile)
    recordLimit set .stitch nx ny = min m.sMax (sLim m.wm) ∧
    recordLimit set .jump nx ny = min m.sMax (min m.sJump (sLim m.wjEff)) ∧
    recordLimit set .trim nx ny = min m.sMax m.sTrim ∧
    recordLimit set .stop nx ny = m.sStop ∧ recordLimit set .endRec nx ny = m.sStop) ∧
  ∀ s : State,
    let works := s.player.state = .armed ∨ s.player.state = .running ∨ s.player.state = .stopping ∨
      s.player.state = .changing ∨ s.player.state = .returning ∨ (∃ r : PauseReason, s.player.state = .paused r) ∨
      s.player.state = .starved
    (¬works → s.prefetch = s) ∧
    (32 ≤ s.player.queue.length → s.prefetch = s) ∧
    ((∃ e : QueueEntry, s.player.queue.getLast? = some e ∧ e.kind = .endRec) → s.prefetch = s) ∧
    (works → s.player.queue.length ≤ 32 →
      (∀ e : QueueEntry, s.player.queue.getLast? = some e → e.kind ≠ .endRec) →
      ∃ more : List QueueEntry,
        s.prefetch = { s with player := { s.player with queue := s.player.queue ++ more } } ∧
        (∀ (j : Nat) (e : QueueEntry), more[j]? = some e →
          ∃ r : Record, s.recordOf (s.player.cursor + s.player.queue.length + j) = some r ∧
            e.index = s.player.cursor + s.player.queue.length + j ∧ e.kind = r.kind ∧ e.dx = r.dx ∧ e.dy = r.dy ∧
            e.nx = 4 * r.dx.natAbs ∧ e.ny = 4 * r.dy.natAbs ∧ e.block = s.blockOf e.index ∧
            e.limit = recordLimit s.gov.active r.kind e.nx e.ny ∧ (j + 1 < more.length → r.kind ≠ .endRec)) ∧
        (s.player.queue.length + more.length = 32 ∨
          (∃ e : QueueEntry, more.getLast? = some e ∧ e.kind = .endRec) ∨
          s.recordOf (s.player.cursor + s.player.queue.length + more.length) = none))

/-- R25: the checks of ARM in their order; a refused ARM changes nothing. R26, R28, R82, R137, R156, R160: an accepted one
sets the whole player record, the pins, the active hoop, the countdowns and the bookkeeping of the heads, and nothing else;
the queue is then filled by the prefetcher. The fields that are the model's own record of what it waits for have their
resting values (the starved mark: log entry 17). -/
def Obligations.ArmChecksAndSetsThePlayerRecord : Prop :=
  (∀ (s : State) (design hoop : Nat), s.ready = true →
    let answer := exec (.arm design hoop) s
    let refused := fun code : Byte => answer = .next (s.replied 0xA0 [code])
    let mayArm := s.player.state = .idle ∨ s.player.state = .armed ∨ s.player.state = .finished
    (¬mayArm → refused 4) ∧
    (mayArm → 7 < hoop → refused 3) ∧
    (mayArm → hoop ≤ 7 → s.store.find design = none → refused 8) ∧
    (∀ d : Design, mayArm → hoop ≤ 7 → s.store.find design = some d →
      (d.state = .failed → refused 4) ∧
      (d.state ≠ .failed → s.heads.repairs ≠ [] → refused 6) ∧
      (d.state ≠ .failed → s.heads.repairs = [] → s.frame.known = false → refused 14) ∧
      (d.state ≠ .failed → s.heads.repairs = [] → s.frame.known = true → s.frame.owner = .positioner → refused 5) ∧
      (d.state ≠ .failed → s.heads.repairs = [] → s.frame.known = true → s.frame.owner ≠ .positioner →
        let field := s.frame.hoops.getD hoop fullTravel
        (s.frame.x + 4 * d.box.xmin < 4 * field.xmin ∨ 4 * field.xmax < s.frame.x + 4 * d.box.xmax ∨
          s.frame.y + 4 * d.box.ymin < 4 * field.ymin ∨ 4 * field.ymax < s.frame.y + 4 * d.box.ymax) → refused 13))) ∧
  (∀ (s : State) (design hoop : Nat) (d : Design), s.ready = true →
    (s.player.state = .idle ∨ s.player.state = .armed ∨ s.player.state = .finished) → hoop ≤ 7 →
    s.store.find design = some d → d.state ≠ .failed → s.heads.repairs = [] → s.frame.known = true →
    s.frame.owner ≠ .positioner →
    boxFits (s.frame.hoops.getD hoop fullTravel) d.box s.frame.x s.frame.y = true →
    exec (.arm design hoop) s =
      .next (({ s with
        store := { s.store with
          dir := s.store.dir.map fun (o : Option Design) => o.map fun (x : Design) =>
            { x with armedPin := x.number == design } }
        player :=
          { state := .armed, armed := some design, origin := some (s.frame.x, s.frame.y), mode := .normal, cursor := 0
            resume := 0, saved := .paused .hostStop, active := none, interrupted := none, stopReason := none
            stopIndex := none, soonStop := false, positionAsked := false, displaced := false
            keepFrame := s.player.keepFrame, history := List.replicate 256 none, preselect := none, queue := []
            starvedMark := s.player.starvedMark, recovering := false, errand := .none, entryTrim := .none }
        frame := { s.frame with hoop := hoop }
        outs := { s.outs with holderCount := 0 }
        thread := { s.thread with
          monitors := s.thread.monitors.map fun (m : HeadMonitor) => { m with run := .clear, tieIn := 0 } }
        heads := { s.heads with
          table := s.heads.table.map fun (h : Head) => { h with role := .none, start := none }
          selection := none, passEnd := none, passStart := none, lastKind := none, leftPass := false } }.prefetch).replied
        0xA0 [0]))

/-- R27, R82, R137, R157, R16: DISARM where it is refused, and what it leaves in every block where it is taken: the
player at rest with nothing armed, no pin on the armed design and no armed pin anywhere, no repair record, every head OK
with no role, the pass bookkeeping and the thread runs cleared, the holder countdown 0 and the frame released; nothing
else changes. In HALTED (R69, R112) it is BUSY while a recovery is in progress and WRONG_STATE while the E-STOP line is
asserted; else it also clears the kill latch and a case fault, and a shaft in FAULT goes to OFF once still. A release that
waits for a move being stopped, and a shaft that is still already, are DEDUCED (log entries 15 and 25), and so are the
code that the cleared case fault takes its position from and the field that remembers the way of a FAULT to OFF (log
entries 32 and 35). -/
def Obligations.DisarmLeavesNothingArmed : Prop :=
  ∀ s : State, s.ready = true →
    let left : State := { s with
      store := { s.store with
        dir := s.store.dir.map fun (o : Option Design) => o.map fun (d : Design) =>
          { d with armedPin := false, repairPin := if s.player.armed = some d.number then false else d.repairPin } }
      player := { s.player with
        state := .idle, armed := none, origin := none, mode := .normal, cursor := 0, resume := 0, active := none
        interrupted := none, stopReason := none, stopIndex := none, soonStop := false, positionAsked := false
        displaced := false, history := List.replicate 256 none, preselect := none, queue := [], errand := .none
        entryTrim := .none }
      heads := { s.heads with
        table := s.heads.table.map fun (h : Head) => { h with condition := .ok, role := .none, start := none }
        repairs := [], selection := none, passEnd := none, passStart := none, lastKind := none, leftPass := false }
      thread := { s.thread with
        monitors := s.thread.monitors.map fun (m : HeadMonitor) => { m with run := ⟨0, none, none, none⟩, tieIn := 0 } }
      outs := { s.outs with holderCount := 0 }
      frame := (match s.frame.owner with
        | .positioner => { s.frame with lent := false }
        | .none => s.frame
        | .player =>
            if s.frame.move.isSome ∨ s.gov.move.isSome then { s.frame with after := .release }
            else { s.frame with owner := .none, lent := false }) }
    ((s.player.state = .idle ∨ s.player.state = .running ∨ s.player.state = .stopping ∨ s.player.state = .changing ∨
        s.player.state = .returning ∨ s.player.state = .starved) →
      exec .disarm s = .next (s.replied 0xA1 [4])) ∧
    ((s.player.state = .armed ∨ s.player.state = .finished ∨ ∃ r : PauseReason, s.player.state = .paused r) →
      exec .disarm s = .next (left.replied 0xA1 [0])) ∧
    (∀ c : HaltCause, s.player.state = .halted c →
      (s.player.recovering = true → exec .disarm s = .next (s.replied 0xA1 [5])) ∧
      (s.player.recovering = false → s.ev.estop = some false → exec .disarm s = .next (s.replied 0xA1 [4])) ∧
      (s.player.recovering = false → s.ev.estop ≠ some false → s.nc.kept = none →
        let off := s.shaft.state = .fault ∧ s.shaft.still = true
        exec .disarm s = .next ({ left with
          outs := { s.outs with holderCount := 0, kill := false, killUntilOff := false }
          nc := if s.nc.state = CaseState.fault then
              { s.nc with state := .idle, cause := none, pos := casePosition s.straps.needles s.nc.code }
            else s.nc
          shaft := if off then { s.shaft with
              demand := 0, stall := none, state := .off, phase := .creep, cause := none, faultStill := false, toOff := false }
            else if s.shaft.state = ShaftState.fault then { s.shaft with toOff := true } else s.shaft
          gov := if off then { s.gov with cPrev := 0 } else s.gov }.replied 0xA1 [0])))

/-- R68, R71, R50: a hold request, by the state of the shaft unit: OFF and OFF_POSITION enter POSITIONING at creep with
every output in AUTO; in HELD it is answered at once, the pending settings coming into force and C_prev becoming 0; in
POSITIONING, and in a FAULT that is not yet still, it is kept; in TURNING and BRAKING it does nothing. A FAULT that is still
already positions at once (DEDUCED, log entry 15). -/
def Obligations.HoldRequestByShaftState : Prop :=
  ∀ s : State,
    ((s.shaft.state = .off ∨ s.shaft.state = .offPosition ∨ (s.shaft.state = .fault ∧ s.shaft.still = true)) →
      s.shaft.driveReady = true → s.frame.owner ≠ .positioner →
      s.holdRequest = { s with
        shaft := { s.shaft with
          state := .positioning, phase := .creep, demand := s.gov.active.motion.sStop
          stall := (s.shaft.setDemand s.gov.active.motion.sStop s.gov.active.motion.sStop).stall
          retry := 0, extra := 0, cause := none, faultStill := false, toOff := false, keptHold := false }
        outs := s.outs.allAuto }) ∧
    (s.shaft.state = .held →
      s.holdRequest = { s with
        gov := { s.gov with
          active := (if s.gov.pendingFlag then s.gov.pending else s.gov.active), pendingFlag := false, cPrev := 0 } }) ∧
    ((s.shaft.state = .positioning ∨ (s.shaft.state = .fault ∧ s.shaft.still = false)) →
      s.holdRequest = { s with shaft := { s.shaft with keptHold := true } }) ∧
    ((s.shaft.state = .turning ∨ s.shaft.state = .braking) → s.holdRequest = s)

/-- R31: START: its refusals in their order, and the taking of the frame, the outputs and the shaft; with the frame
displaced a return move comes first, else the wait for the colour change into block 0. What becomes possible at once is
begun after the reply is placed (DEDUCED, log entries 12 and 13); the player is RETURNING from the request on (DEDUCED, log
entry 22). -/
def Obligations.StartBeginsItsChain : Prop :=
  ∀ s : State, s.ready = true →
    (s.player.state ≠ .armed → exec .start s = .next (s.replied 0xA2 [4])) ∧
    (s.player.state = .armed →
      (s.ev.estop = some false ∨ s.shaft.state = .fault ∨ s.shaft.state = .braking ∨ s.nc.state = .fault) →
      exec .start s = .next (s.replied 0xA2 [4])) ∧
    (s.player.state = .armed → s.ev.estop ≠ some false → s.shaft.state ≠ .fault → s.shaft.state ≠ .braking →
      s.nc.state ≠ .fault →
      (s.frame.known = false → exec .start s = .next (s.replied 0xA2 [14])) ∧
      (s.frame.known = true → s.frame.owner = .positioner → exec .start s = .next (s.replied 0xA2 [5])) ∧
      (s.frame.known = true → s.frame.owner ≠ .positioner →
        exec .start s =
          .next (({ s with
            frame := { s.frame with owner := .player, lent := false, after := .keep }
            outs := s.outs.allAuto
            player :=
              if s.player.displaced then { s.player with state := .returning, errand := .returnWait .start }
              else { s.player with state := .changing, errand := .changeWait .start 0 }
            link := { s.link with taking := true } }.holdRequest).replied 0xA2 [0]).settle))

/-- R32, R156: RESUME: its refusals in their order and the beginning of its chain at the cursor; after a REPAIR_END the
cursor is first set to the resume cursor. What becomes possible at once is begun after the reply is placed, and the
player waits in RETURNING or CHANGING (DEDUCED, log entries 12, 13, 21 and 22). -/
def Obligations.ResumeBeginsItsChain : Prop :=
  ∀ s : State, s.ready = true →
    ((∀ r : PauseReason, s.player.state ≠ .paused r) → exec .resume s = .next (s.replied 0xA4 [4])) ∧
    (∀ r : PauseReason, s.player.state = .paused r →
      ((s.ev.estop = some false ∨ s.shaft.state = .fault ∨ s.shaft.state = .braking) →
        exec .resume s = .next (s.replied 0xA4 [4])) ∧
      (s.ev.estop ≠ some false → s.shaft.state ≠ .fault → s.shaft.state ≠ .braking →
        (s.player.mode = .repair → (∀ h ∈ s.heads.table, h.role = .none) → exec .resume s = .next (s.replied 0xA4 [4])) ∧
        ((s.player.mode = .normal ∨ ∃ h ∈ s.heads.table, h.role ≠ .none) →
          (s.frame.known = false → exec .resume s = .next (s.replied 0xA4 [14])) ∧
          (s.frame.known = true → s.frame.owner = .positioner → exec .resume s = .next (s.replied 0xA4 [5])) ∧
          (s.frame.known = true → s.frame.owner ≠ .positioner →
            exec .resume s =
              .next (({ s with
                frame := { s.frame with owner := .player, lent := false, after := .keep }
                outs := s.outs.allAuto
                heads := { s.heads with leftPass := false }
                player :=
                  let p := { s.player with cursor := if s.heads.leftPass then s.player.resume else s.player.cursor }
                  if s.player.displaced then { p with state := .returning, errand := .returnWait .resume }
                  else { p with state := .changing, errand := .changeWait .resume 0 }
                link := { s.link with taking := true } }.holdRequest).replied 0xA4 [0]).settle))))

/-- R107: the direction and the timeout of a move, from its start reference. R113, R114, R23: the change that the player
waits for, once the shaft is HELD with the case idle. The block is 0 at START, the one that begins at a STOP record, and
else the cursor's. One that enters its block in a NORMAL pass takes the preselect or the sequence's needle, writes it to
the history and uses the preselect up; any other goes back to the history's needle, or in a REPAIR pass without one to
the sequence's, and writes neither. R107, R116, R38, R82, R128: toward another needle the case drive goes on; with the
case at the needle the change completes without a drive, and the player goes on as after any change. R32, R114, R119:
elsewhere than at a STOP record a change back to the needle at which the case stands is not made (DEDUCED, log entry
54), while one into a block without a history entry completes there and latches COLOUR_DONE (DEDUCED, log entry 20).
R154: in an emptied REPAIR pass any reason held pauses the player as PASS_EMPTY (DEDUCED, log entry 53). What a
completion makes possible is begun at once, at most 2,048 operations in a run (log entry 13), and the player is
RETURNING from then on (log entry 22). -/
def Obligations.EnteringChangeDrivesTheCase : Prop :=
  (∀ (c : NeedleCase) (needles target : Nat),
    let reference := if c.pos ≠ 0 then some c.pos else c.lastSeen
    (reference = none → c.direction target = true ∧ c.timeout needles target = 300 + 120 * (needles - 1)) ∧
    ∀ r : Nat, reference = some r →
      (r < target → c.direction target = true ∧ c.timeout needles target = 300 + 120 * (target - r)) ∧
      (target < r → c.direction target = false ∧ c.timeout needles target = 300 + 120 * (r - target)) ∧
      (r = target → c.direction target = decide (c.dirUp = some false) ∧ c.timeout needles target = 420)) ∧
  ∀ (s : State) (d : Design) (source : ChangeSource) (asked : Nat), s.shaft.state = .held → s.nc.state = .idle →
    s.nc.kept = none → s.nc.directBusy = false → s.player.errand = .changeWait source asked → source ≠ .direct →
    s.armedDesign = some d →
    let block := match source with
      | .start => 0
      | .stopRecord => asked
      | _ => s.blockOf s.player.cursor
    let entered := s.player.history.getD block none
    let entering := source = .start ∨ source = .stopRecord
    let enters := s.player.mode = .normal ∧ (entering ∨ entered = none)
    let goesOn := fun u : State => s.settle = State.settleN 2047 u
    let drives := fun (p : Player) (needle : Nat) => s.nc.pos ≠ needle →
      s.settle = { s with
        player := { p with state := .changing, errand := .changeMove source block }
        nc := { s.nc with
          state := .moving, job := some ⟨needle, source, some block⟩, overshoot := 0, settle := 0
          dirUp := some (s.nc.direction needle), timer := s.nc.timeout s.straps.needles needle } }
    let stands := fun (p : Player) (needle : Nat) (flagged : Prop) => s.nc.pos = needle →
      s.frame.owner = .player → s.frame.move = none → s.gov.move = none →
      let completed : State := { s with
        nc := { s.nc with state := .idle, job := none, overshoot := 0, timer := 0, settle := 0 }
        outs := { s.outs with holderCount := 2 }
        thread := { s.thread with
          monitors := s.thread.monitors.map fun (m : HeadMonitor) => { m with tieIn := (s.thread.profileAt needle).f } } }.latch
            .colourDone (b1 needle ++ b1 source.code ++ b2 block ++ [0])
      let emptied := s.player.mode = .repair ∧ ∀ h ∈ s.heads.table, h.role = Role.none
      let paused := fun reason : PauseReason =>
        let why := if emptied then PauseReason.passEmpty else reason
        s.settle = { completed with
          frame := { s.frame with lent := true }
          player := { p with
            state := .paused why, stopReason := none, stopIndex := none, soonStop := false, positionAsked := false
            errand := .none, entryTrim := .none } }.latch .playerState (6 :: b1 why.code ++ b4 s.player.cursor)
      (s.player.stopReason = none → flagged → paused .colourPause) ∧
      (s.player.stopReason = none → ¬flagged →
        goesOn { completed with player := { p with state := .returning, errand := .leadWait } }) ∧
      (s.player.stopReason = some .hostStop → paused .hostStop) ∧
      (s.player.stopReason = some .buttonStop → paused .buttonStop) ∧
      (s.player.stopReason = some .breakStop → paused .breakStop) ∧
      (s.player.stopReason = some .bobbinStop → paused .bobbinStop) ∧
      (s.player.stopReason = some .passEmpty → paused .passEmpty)
    (∀ e : SeqEntry, enters → d.seq[block]? = some e →
      let needle := s.player.preselect.getD e.needle
      let p : Player := { s.player with
        preselect := none, history := updAt block (fun _ => some needle) s.player.history }
      drives p needle ∧ stands p needle (entering ∧ e.pause = true)) ∧
    (∀ needle : Nat, ¬enters →
      (entered = some needle ∨ (entered = none ∧ ∃ e : SeqEntry, d.seq[block]? = some e ∧ e.needle = needle)) →
      drives s.player needle ∧
      (source = .stopRecord → stands s.player needle False) ∧
      (source ≠ .stopRecord → s.nc.pos = needle →
        goesOn { s with player := { s.player with state := .returning, errand := .leadWait } }))

/-- R36, R35: STOP in each player state: a planned stop as soon as possible from RUNNING, combined with one under way in
STOPPING, remembered through a held-shaft operation, refused where nothing sews. -/
def Obligations.StopAsksForAPlannedStop : Prop :=
  ∀ s : State, s.ready = true →
    ((s.player.state = .running ∨ s.player.state = .stopping) →
      exec .stop s = .next ({ s with
        player := { s.player with
          state := .stopping, stopReason := some (s.player.stopReason.getD .hostStop), soonStop := true } }.replied 0xA3 [0])) ∧
    ((s.player.state = .changing ∨ s.player.state = .returning) →
      exec .stop s = .next ({ s with
        player := { s.player with stopReason := some (s.player.stopReason.getD .hostStop) } }.replied 0xA3 [0])) ∧
    (s.player.state = .starved → s.frame.owner = .player → s.frame.move = none → s.gov.move = none →
      exec .stop s = .next ((({ s with
        player := { s.player with
          state := .paused .hostStop, stopReason := none, stopIndex := none, soonStop := false, positionAsked := false
          errand := .none, entryTrim := .none }
        frame := { s.frame with lent := true }
        link := { s.link with taking := true } }.latch .playerState (6 :: 0 :: b4 s.player.cursor)).replied 0xA3 [0]))) ∧
    ((s.player.state = .idle ∨ s.player.state = .armed ∨ s.player.state = .finished ∨
        (∃ r : PauseReason, s.player.state = .paused r) ∨ ∃ c : HaltCause, s.player.state = .halted c) →
      exec .stop s = .next (s.replied 0xA3 [4]))

/-- R41, R62, R69, R93, R94, R111: HALT from any state but IDLE and HALTED: HALTED with cause HALT, the record in progress
noted as interrupted, the queue, the stop and every operation abandoned, every head disengaged, the kill latch set, the
shaft braked and a case move ended. A lead-in, a return or a positioner operation in flight slows to a stop with the cause
HALT, or has stopped at once with FRAME_DONE, and the player's frame is lent once nothing moves. In IDLE and in HALTED it
is OK too: with no recovery in progress the player stays as it is, and in IDLE the kill latch is not set, a positioner
operation ends as above and a positioning shaft is braked. Owed steps of an overrun, or those that a DISARM has left, are
abandoned (R62), and the lending or release that waited for them is made (DEDUCED, log entry 25). A shaft that is still
already when it is braked goes to OFF at once (DEDUCED, log entry 15), and FRAME_DONE latches before PLAYER_STATE (DEDUCED,
log entry 46). -/
def Obligations.HaltAbandonsEverything : Prop :=
  (∀ s : State, s.ready = true → s.player.state ≠ .idle → (∀ c : HaltCause, s.player.state ≠ .halted c) →
    ∃ t : State, exec .halt s = .next t ∧ t.link.reply = some ⟨0xA5, [0]⟩ ∧
      t.player.state = .halted .halt ∧ t.player.active = none ∧ t.player.queue = [] ∧ t.player.stopReason = none ∧
      t.player.stopIndex = none ∧ t.player.errand = .none ∧ t.player.cursor = s.player.cursor ∧
      t.player.resume = s.player.resume ∧ t.player.armed = s.player.armed ∧
      t.player.interrupted = (match s.player.active with
        | some a => (match a.index with
          | some i => some i
          | none => s.player.interrupted)
        | none => s.player.interrupted) ∧
      t.player.displaced = (s.player.displaced || s.player.active.isSome || s.player.errand.moving) ∧
      t.outs.kill = true ∧ (∀ h ∈ t.heads.table, h.engaged = false) ∧ t.gov.move = none ∧ t.nc.kept = none ∧
      t.nc.state ≠ .moving ∧ t.nc.state ≠ .settling ∧
      t.shaft.state = (match s.shaft.state with
        | .turning => if s.shaft.still then .off else .braking
        | .positioning => if s.shaft.still then .off else .braking
        | .held => .off
        | .offPosition => .off
        | .off => .off
        | .braking => .braking
        | .fault => ShaftState.fault) ∧
      t.store = s.store ∧ t.straps = s.straps ∧
      t.frame = ((s.abandonSewing.slowMove .halt).lend).frame ∧
      (let atOnce := match s.frame.move with
        | some (.legs _ leg _ none) => decide (leg.rateSq ≤ 4000000)
        | some (.legs _ _ _ (some _)) => false
        | some (.homing _ _) => true
        | none => false
       t.ev = { s.ev with
         flags := s.ev.flags ||| Event.playerState.bit ||| (if atOnce then Event.frameDone.bit else 0) } ∧
       (s.frame.move = none → s.frame.after = .keep → (s.gov.move = none ∨ s.frame.owner = .player) →
         t.frame = if s.frame.owner = .player then { s.frame with lent := true } else s.frame) ∧
       (∀ (op : MoveOp) (leg : Leg) (rest : List (Int × Int)), s.frame.move = some (.legs op leg rest none) →
         4000000 < leg.rateSq →
         t.frame = { s.frame with
           move := some (.legs op leg rest (some .halt))
           after := if s.frame.owner = .player then .lend else s.frame.after }) ∧
       (atOnce = true → s.frame.after = .keep →
         t.frame = (match s.frame.owner with
           | .player => { s.frame with move := none, lent := true }
           | .positioner => { s.frame with move := none, owner := if s.frame.lent then .player else .none }
           | .none => { s.frame with move := none })))) ∧
  (∀ s : State, s.ready = true →
    (∀ c : HaltCause, s.player.state = .halted c → s.player.recovering = false → s.gov.move = none →
      exec .halt s = .next (s.replied 0xA5 [0])) ∧
    (∀ c : HaltCause, s.player.state = .halted c → s.player.recovering = false → s.player.errand = .none →
      s.gov.move.isSome = true → s.frame.owner = .player → s.frame.after = .lend → s.frame.move = none →
      exec .halt s = .next ({ s with
        gov := { s.gov with move := none }
        frame := { s.frame with lent := true, after := .keep } }.replied 0xA5 [0])) ∧
    (∀ c : HaltCause, s.player.state = .halted c → s.player.recovering = true → s.player.errand = .none →
      ∃ t : State, exec .halt s = .next t ∧ t.link.reply = some ⟨0xA5, [0]⟩ ∧ t.player.state = .halted .halt ∧
        t.player.recovering = false ∧ t.outs.kill = true ∧ (s.gov.move = none → t.frame = s.frame)) ∧
    (s.player.state = .idle → s.player.errand = .none → s.frame.owner = .positioner → s.gov.move = none →
      s.shaft.state ≠ .positioning →
      (∀ (op : MoveOp) (leg : Leg) (rest : List (Int × Int)), s.frame.move = some (.legs op leg rest none) →
        4000000 < leg.rateSq →
        exec .halt s = .next ({ s with
          nc := s.nc.abandon
          frame := { s.frame with move := some (.legs op leg rest (some .halt)) } }.replied 0xA5 [0])) ∧
      (∀ mv : FrameMove, s.frame.move = some mv →
        ((∃ (a : Axis) (stage : HomeStage), mv = .homing a stage) ∨
          ∃ (op : MoveOp) (leg : Leg) (rest : List (Int × Int)), mv = .legs op leg rest none ∧ leg.rateSq ≤ 4000000) →
        exec .halt s = .next (({ s with
          nc := s.nc.abandon
          frame := { s.frame with move := none, owner := if s.frame.lent then .player else .none, after := .keep }
          link := { s.link with taking := true } }.latch .frameDone
            (b1 mv.op.code ++ [1, 8] ++ sBytes4 s.frame.x ++ sBytes4 s.frame.y)).replied 0xA5 [0]))) ∧
    (s.player.state = .idle → s.player.errand = .none → s.frame.owner ≠ .positioner → s.gov.move = none →
      s.shaft.state = .positioning →
      ∃ t : State, exec .halt s = .next t ∧ t.link.reply = some ⟨0xA5, [0]⟩ ∧ t.player = s.player ∧ t.frame = s.frame ∧
        t.nc = s.nc.abandon ∧ t.ev = s.ev ∧ t.shaft.state = if s.shaft.still then .off else .braking) ∧
    (s.player.state = .idle → s.player.errand = .none → s.frame.owner ≠ .positioner → s.shaft.state ≠ .positioning →
      (s.gov.move = none → exec .halt s = .next ({ s with nc := s.nc.abandon }.replied 0xA5 [0])) ∧
      (s.gov.move.isSome = true → s.frame.owner = .player → s.frame.after = .release → s.frame.move = none →
        exec .halt s = .next ({ s with
          nc := s.nc.abandon
          gov := { s.gov with move := none }
          frame := { s.frame with owner := .none, lent := false, after := .keep } }.replied 0xA5 [0]))))

/-- R44: RECOVER: its refusals in their order, and the recovery that begins: the kill latch and a case fault are cleared
and the shaft unit is asked for HELD, the player staying HALTED. A cleared case fault takes the position from the code last
held for 1 ms (DEDUCED, log entry 32). What becomes possible at once is begun after the reply is placed (DEDUCED, log
entries 12 and 13). -/
def Obligations.RecoverBeginsAPositioningTurn : Prop :=
  ∀ s : State, s.ready = true →
    let blocked := s.ev.estop = some false ∨ s.shaft.driveReady = false ∨ s.frame.readyX = false ∨ s.frame.readyY = false ∨
      s.anyLimit = true ∨ ∃ d : Design, s.armedDesign = some d ∧ d.state = .failed
    ((∀ c : HaltCause, s.player.state ≠ .halted c) → exec .recover s = .next (s.replied 0xA6 [4])) ∧
    (∀ c : HaltCause, s.player.state = .halted c →
      ((s.player.recovering = true ∨ s.shaft.state = .braking) → exec .recover s = .next (s.replied 0xA6 [5])) ∧
      (s.player.recovering = false → s.shaft.state ≠ .braking → blocked → exec .recover s = .next (s.replied 0xA6 [4])) ∧
      (s.player.recovering = false → s.shaft.state ≠ .braking → ¬blocked →
        exec .recover s =
          .next (({ s with
            outs := { s.outs with kill := false, killUntilOff := false }
            nc := (if s.nc.state = CaseState.fault then
                { s.nc with state := .idle, cause := none, pos := casePosition s.straps.needles s.nc.code }
              else s.nc)
            player := { s.player with recovering := true }
            link := { s.link with taking := true } }.holdRequest).replied 0xA6 [0]).settle))

/-- R24, R117: KEEP_FRAME and PRESELECT store their value and reply with it, or refuse it. -/
def Obligations.KeepFrameAndPreselectAreStored : Prop :=
  ∀ (s : State) (v : Nat), s.ready = true →
    exec (.keepFrame v) s =
      .next (if v = 0 ∨ v = 1 then
          { s with player := { s.player with keepFrame := decide (v = 1) } }.replied 0xA7 [0, BitVec.ofNat 8 v]
        else s.replied 0xA7 [3]) ∧
    exec (.preselect v) s =
      .next (if s.player.armed = none then s.replied 0xA8 [4]
        else if s.straps.needles < v then s.replied 0xA8 [3]
        else if v = 0 then { s with player := { s.player with preselect := none } }.replied 0xA8 [0, 0xFF]
        else { s with player := { s.player with preselect := some v } }.replied 0xA8 [0, BitVec.ofNat 8 v])

/-! ### The requests that only report (R14, R15, R53, R85, R103, R120, R136, R159, R165) -/

/-- The information requests change nothing but the reply slot, and report what the state holds. R101, R178: the leg of a
trace is its place, counted from 0, among the six moves. The layouts are DEDUCED (log entry 14). -/
def Obligations.InformationRequestsOnlyReport : Prop :=
  (∀ (leg : Leg) (rest : List (Int × Int)) (slowing : Option AbortCause),
    (FrameMove.legs .trace leg rest slowing).traceLeg = some (5 - rest.length)) ∧
  ∀ (s : State) (design : Nat), s.ready = true →
    exec .inputInfo s = .next (s.replied 0x88 (0 :: (s.ev.inputs.flatMap Input.reportBytes ++ bFlag s.ev.estopRaw ++
      bFlag (s.ev.estop.getD true)))) ∧
    exec (.dsnInfo design) s = .next (s.replied 0x94 (
      if design = 0 then 0 :: (b2 s.store.free.length ++ s.store.dir.flatMap slotReport)
      else match s.store.find design with
        | some d => 0 :: d.report
        | none => [8])) ∧
    exec .caseInfo s = .next (s.replied 0xAB (0 :: (b1 s.nc.state.code ++ b1 s.nc.pos ++ b1 s.nc.raw ++ o1 s.nc.lastSeen ++
      o1 (s.nc.job.map CaseJob.target) ++ o1 (s.nc.job.map CaseJob.requesterCode) ++
      o1 (s.nc.dirUp.map fun u => if u then 0 else 1) ++ b1 s.nc.overshoot ++ b2 s.nc.timer ++
      o1 (s.nc.kept.map CaseJob.requesterCode) ++ o1 (s.nc.kept.map CaseJob.target) ++ o1 (s.nc.cause.map CaseCause.code)))) ∧
    exec .getSettings s = .next (s.replied 0xB2 (0 :: (s.gov.active.report ++ bFlag s.gov.pendingFlag ++
      (if s.gov.pendingFlag then s.gov.pending else s.gov.active).report ++ b2 s.gov.sCmd))) ∧
    exec .outputInfo s = .next (s.replied 0xB9 (0 :: ((s.outs.hold.zipIdx 1).flatMap (fun p => p.1.report (s.holdValue p.2)) ++
      (s.outs.trim.zipIdx 1).flatMap (fun p => p.1.report (s.trimValue p.2)) ++ s.outs.holder.report s.holderValue ++
      bFlag s.outs.kill ++ bFlag (decide (s.ev.estop = some false)) ++ b1 s.outs.holderCount))) ∧
    exec .frameInfo s = .next (s.replied 0xC7 (0 :: (sBytes4 s.frame.x ++ sBytes4 s.frame.y ++
      b1 (if s.frame.known then 0 else 1) ++ b1 s.frame.owner.code ++ bFlag s.frame.lent ++
      o1 (s.frame.operation.map MoveOp.code) ++ o1 (s.frame.move.bind FrameMove.traceLeg) ++
      o1 (s.frame.move.bind FrameMove.homingAxis) ++ o1 (s.frame.move.bind FrameMove.heldMove) ++ b1 s.frame.hoop ++
      s.frame.hoops.flatMap bBox ++ s.frame.settings.bytes ++
      [26, 27, 28, 29, 30, 31].flatMap (fun n => bFlag (s.inputActive n)) ++ bFlag s.frame.readyX ++ bFlag s.frame.readyY))) ∧
    exec .threadInfo s = .next (s.replied 0xD4 (0 :: (s.thread.profiles.flatMap NeedleProfile.bytes ++
      b1 s.thread.breakPolicy.code ++ b1 s.thread.bobbinPolicy.code ++
      (s.thread.monitors.zipIdx 0).flatMap
        (fun p => p.1.report ((s.heads.table[p.2]?.map Head.bobbinLow).getD false)) ++ b1 s.thread.capture))) ∧
    exec .headInfo s = .next (s.replied 0xDE (0 :: (s.heads.table.flatMap (Head.report s.player.mode) ++
      b1 s.heads.repairs.length ++ s.heads.repairs.flatMap RepairRecord.report ++ b1 s.player.mode.code ++
      o4 s.heads.passEnd ++ o4 s.heads.passStart ++
      o2 (if s.heads.passEnd = none then none else s.heads.selection) ++ o1 (s.heads.lastKind.map RecKind.code) ++
      bFlag s.heads.leftPass ++ b1 s.heads.overlap ++ bFlag s.heads.trimOn)))

/-! ### The speed governor (R46 to R63) -/

/-- R46: thirteen settings, each clamped to its range. R47, R49, R50, R51, R52: SET_MOTION and SET_PROFILE write the
pending set while the machine sews (RUNNING, STOPPING, CHANGING, RETURNING) and the active set otherwise, a pending set
coming into force first; a set that would fail a condition of R49 changes neither. The conditions in their order, the
steepest slice D of R48, and the windows of R47. That a pending set comes into force only with an accepted write is the
model's reading (DEDUCED, log entry 26); the layout of the replies is too (log entry 14). R75: the stall timer runs
while the demand is at least S_stop, so a write to the active set stops it, starts it, or lets it go on; that it starts
with 100 ms and that the demand stays as it was are the model's reading (DEDUCED, log entry 47). -/
def Obligations.MotionSetsAreWrittenAndChecked : Prop :=
  (∀ (s : State) (settings points : List Nat), s.ready = true → settings.length = 13 → points.length = 17 →
    let sewing := s.player.state = .running ∨ s.player.state = .stopping ∨ s.player.state = .changing ∨
      s.player.state = .returning
    let base := if s.gov.pendingFlag then s.gov.pending else s.gov.active
    let within := fun (low high place : Nat) => max low (min high (settings.getD place 0))
    let motion : MotionSet := { base with
      motion :=
        { e := within 100 500 0, x := within 600 950 1, go := within 0 63 2, gc := within 0 63 3, wj := within 256 1008 4
          rMax := within 1000 40000 5, sMax := within 200 1500 6, sStart := within 60 400 7, sStop := within 40 200 8
          up := within 10 200 9, dn := within 10 300 10, sTrim := within 60 600 11, sJump := within 200 1500 12 } }
    let profile : MotionSet := { base with profile := points }
    let written := fun set : MotionSet =>
      if sewing then { s with gov := { s.gov with pending := set, pendingFlag := true } }
      else
        { s with
          gov := { s.gov with active := set, pendingFlag := false }
          shaft := { s.shaft with
            stall :=
              if s.shaft.demand < set.motion.sStop then none
              else if s.shaft.stall = none then some 100 else s.shaft.stall } }
    exec (.setMotion settings) s =
      .next (match motion.fault with
        | some c => s.replied 0xB0 [3, BitVec.ofNat 8 c.code]
        | none => (written motion).replied 0xB0
            (0 :: (motion.motion.toList.flatMap b2 ++ b2 motion.motion.wOpen ++ b2 motion.motion.wm ++ b2 motion.motion.wjEff ++
              b2 (motion.motion.wm / 16) ++ b2 (motion.motion.wjEff / 16) ++ [if sewing then 1 else 0]))) ∧
    exec (.setProfile points) s =
      .next (match profile.fault with
        | some c => s.replied 0xB1 [3, BitVec.ofNat 8 c.code]
        | none => (written profile).replied 0xB1
            (0 :: (points.flatMap b2 ++ b2 (steepest points) ++ [if sewing then 1 else 0])))) ∧
  (∀ set : MotionSet,
    let m := set.motion
    let wellFormed := set.profile.length = 17 ∧ set.profile[0]? = some 0 ∧ set.profile[16]? = some 256 ∧
      ∀ k < 16, set.profile.getD k 0 ≤ set.profile.getD (k + 1) 0
    let long := 32512 * steepest set.profile * m.sStop ≤ 60 * m.wm * m.rMax ∧
      32512 * steepest set.profile * m.sStop ≤ 60 * m.wjEff * m.rMax
    set.fault =
      if ¬wellFormed then some .profile else if m.wm < 64 then some .window else if ¬long then some .longMove else none) ∧
  (∀ points : List Nat, points.length = 17 →
    let rise := fun k : Nat => points.getD (k + 1) 0 - points.getD k 0
    (∀ k < 16, rise k ≤ steepest points) ∧ ∃ k < 16, rise k = steepest points) ∧
  (∀ m : Motion, m.wOpen = m.x + m.go ∧ m.wm % 16 = 0 ∧ m.wm ≤ 1024 + m.e - (m.x + m.go + m.gc) ∧
    1024 + m.e - (m.x + m.go + m.gc) < m.wm + 16 ∧
    m.wjEff % 16 = 0 ∧ m.wjEff ≤ m.wj ∧
    (m.x + m.go ≤ 1008 + m.x →
      m.x + m.go + m.wjEff ≤ 1008 + m.x ∧
      ∀ w : Nat, w % 16 = 0 → w ≤ m.wj → m.x + m.go + w ≤ 1008 + m.x → w ≤ m.wjEff))

/-- R54: SPEED is clamped to the range S_stop to S_max of the active set, stored as S_cmd, and answered OK with the stored
value, in every player state. -/
def Obligations.SpeedIsClampedAndStored : Prop :=
  ∀ (s : State) (rpm : Nat), s.ready = true → s.gov.active.motion.sStop ≤ s.gov.active.motion.sMax →
    let v := if rpm < s.gov.active.motion.sStop then s.gov.active.motion.sStop
      else if s.gov.active.motion.sMax < rpm then s.gov.active.motion.sMax else rpm
    exec (.speed rpm) s = .next ({ s with gov := { s.gov with sCmd := v } }.replied 0xB3 (0 :: b2 v))

/-! ### The actuator outputs (R79 to R86) -/

/-- R84: SET_OUTPUT: its refusals and the outputs that take the mode and polarity. The layout of its reply is DEDUCED (log
entry 14). -/
def Obligations.SetOutputNamesItsOutputs : Prop :=
  ∀ (s : State) (kind head mode polarity : Nat) (m : OutMode) (p : Polarity), s.ready = true →
    let answer := exec (.setOutput kind head mode polarity) s
    let refused := fun code : Byte => answer = .next (s.replied 0xB8 [code])
    let named := fun l : List Output => (l.zipIdx 1).map fun e => if head = 0 ∨ head = e.2 then ⟨m, p⟩ else e.1
    let changes := fun l : List Output => ∃ o h, l[h]? = some o ∧ (head = 0 ∨ head = h + 1) ∧ o.polarity ≠ p
    let free := (s.shaft.state = .held ∨ s.shaft.state = .off) ∧ s.player.state ≠ .running
    (2 < kind ∨ 3 < mode ∨ 1 < polarity → refused 3) ∧
    (m.code = mode → p.code = polarity → kind < 2 → s.straps.heads < head → refused 3) ∧
    (m.code = mode → p.code = polarity → kind = 0 → head ≤ s.straps.heads →
      ((m ≠ .auto ∨ changes s.outs.hold) → ¬free → refused 6) ∧
      ((m = .auto ∧ ¬changes s.outs.hold) ∨ free →
        answer = .next ({ s with outs := { s.outs with hold := named s.outs.hold } }.replied 0xB8
          [0, BitVec.ofNat 8 mode, BitVec.ofNat 8 polarity]))) ∧
    (m.code = mode → p.code = polarity → kind = 1 → head ≤ s.straps.heads →
      ((m ≠ .auto ∨ changes s.outs.trim) → ¬free → refused 6) ∧
      ((m = .auto ∧ ¬changes s.outs.trim) ∨ free →
        answer = .next ({ s with outs := { s.outs with trim := named s.outs.trim } }.replied 0xB8
          [0, BitVec.ofNat 8 mode, BitVec.ofNat 8 polarity]))) ∧
    (m.code = mode → p.code = polarity → kind = 2 →
      ((m ≠ .auto ∨ s.outs.holder.polarity ≠ p) → ¬free → refused 6) ∧
      ((m = .auto ∧ s.outs.holder.polarity = p) ∨ free →
        answer = .next ({ s with outs := { s.outs with holder := ⟨m, p⟩ } }.replied 0xB8
          [0, BitVec.ofNat 8 mode, BitVec.ofNat 8 polarity])))

/-- R79 to R83: what each output drives. The kill effect holds every needle bar and stops the trimmers and the holder
over all four modes; in AUTO a needle bar is released exactly in a STITCH or TRIM revolution that engages its head, a
trimmer fires in its cam window of such a TRIM revolution, the holder in its window of a revolution that is armed for it.
The shaft drive is enabled and the brake applied as the shaft's state says, the brake in every state while the E-STOP
line is asserted. -/
def Obligations.OutputsFollowTheirRules : Prop :=
  ∀ (s : State) (h : Nat) (o : Output), 1 ≤ h →
    let killed := s.outs.kill = true ∨ s.estop = true
    let inTurn := s.shaft.angle < s.gov.active.motion.wOpen
    let kindIs := fun k : RecKind => ∃ a : ActiveRecord, s.player.active = some a ∧ a.kind = k
    let forced := fun (value : Option Bool) => (o.mode = .forceOn → value = some true) ∧
      (o.mode = .forceOff → value = some false) ∧ (o.mode = .float → value = none)
    (s.outs.hold[h - 1]? = some o →
      (killed → s.holdValue h = some true) ∧ (¬killed → forced (s.holdValue h)) ∧
      (¬killed → o.mode = .auto →
        s.holdValue h = some (!decide ((kindIs .stitch ∨ kindIs .trim) ∧ s.engaged h = true)))) ∧
    (s.outs.trim[h - 1]? = some o →
      (killed → s.trimValue h = some false) ∧ (¬killed → forced (s.trimValue h)) ∧
      (¬killed → o.mode = .auto →
        s.trimValue h = some (decide (kindIs .trim ∧ s.engaged h = true ∧ 420 ≤ s.shaft.angle ∧ s.shaft.angle ≤ 719 ∧
          inTurn)))) ∧
    (s.outs.holder = o →
      (killed → s.holderValue = some false) ∧ (¬killed → forced s.holderValue) ∧
      (¬killed → o.mode = .auto →
        s.holderValue = some (decide (s.outs.holderArmed = true ∧ s.player.active.isSome = true ∧ 200 ≤ s.shaft.angle ∧
          s.shaft.angle ≤ 499 ∧ inTurn)))) ∧
    (∀ v : Bool, lineLevel o (some v) = some (if o.polarity = .activeHigh then v else !v)) ∧ lineLevel o none = none ∧
    (s.shaft.driveEnable = true ↔ s.shaft.state = .held ∨ s.shaft.state = .offPosition ∨ s.shaft.state = .turning ∨
      s.shaft.state = .positioning) ∧
    (s.brake = true ↔ s.estop = true ∨ s.shaft.state = .held ∨ s.shaft.state = .offPosition ∨ s.shaft.state = .braking ∨
      (s.shaft.state = .positioning ∧ s.shaft.phase = .braked) ∨ (s.shaft.state = .fault ∧ s.shaft.faultStill = false))

/-! ### The frame unit (R87 to R103) -/

/-- R95, R98, R91, R92, R96, R102: FRAME_GO and FRAME_PARK: the refusals in their order; a granted move to its target,
clamped to the active hoop when trust is KNOWN, with FIELD_LIMIT latched when it was; a target where the frame stands
completes at once. A target that is no whole number of units is reported as a free value (log entry 4). -/
def Obligations.PositionerMovesToItsTarget : Prop :=
  ∀ (s : State) (mode : Nat) (x y : Int), s.ready = true →
    let stopped := s.ev.estop = some false ∨ s.frame.readyX = false ∨ s.frame.readyY = false ∨ s.shaft.state = .turning ∨
      s.shaft.state = .positioning ∨ s.shaft.state = .braking
    let held := s.frame.owner = .positioner ∨ (s.frame.owner = .player ∧ s.frame.lent = false)
    let kept := s.player.armed.isSome = true ∧ s.player.keepFrame = true
    let checks := fun (c : Instr) (ty : Nat) (own : Prop) =>
      (stopped → exec c s = .next (s.replied ty [4])) ∧
      (¬stopped → held → exec c s = .next (s.replied ty [5])) ∧
      (¬stopped → ¬held → kept → exec c s = .next (s.replied ty [6])) ∧
      (¬stopped → ¬held → ¬kept → own)
    let moves := fun (c : Instr) (ty : Nat) (op : MoveOp) (asked : Int × Int) =>
      let field := s.frame.hoops.getD s.frame.hoop fullTravel
      let made : Int × Int :=
        if s.frame.known then
          (max (4 * field.xmin) (min (4 * field.xmax) asked.1), max (4 * field.ymin) (min (4 * field.ymax) asked.2))
        else asked
      let leg := Leg.between s.frame.x s.frame.y made.1 made.2
      let limited := fun t : State =>
        if asked = made then t
        else t.latch .fieldLimit (sBytes4 asked.1 ++ sBytes4 asked.2 ++ sBytes4 made.1 ++ sBytes4 made.2)
      let lent := fun (frame : Frame) =>
        { s with
          frame := frame
          player := { s.player with displaced := s.player.displaced || s.player.armed.isSome }
          link := { s.link with taking := true } }
      let blocked := (s.inputActive 26 = true ∧ made.1 < s.frame.x) ∨ (s.inputActive 27 = true ∧ s.frame.x < made.1) ∨
        (s.inputActive 28 = true ∧ made.2 < s.frame.y) ∨ (s.inputActive 29 = true ∧ s.frame.y < made.2)
      (blocked → exec c s = .next (s.replied ty [4])) ∧
      (¬blocked → (made.1 ≠ s.frame.x ∨ made.2 ≠ s.frame.y) →
        exec c s = .next ((limited (lent { s.frame with
          owner := .positioner, after := .keep, move := some (.legs op leg [] none) })).replied ty (0 :: targetBytes made))) ∧
      (¬blocked → s.player.errand = .none → made.1 = s.frame.x → made.2 = s.frame.y →
        exec c s = .next (((limited (lent { s.frame with
            owner := (if s.frame.lent then .player else .none), after := .keep, move := none })).latch .frameDone
          (b1 op.code ++ [0, 0xFF] ++ sBytes4 s.frame.x ++ sBytes4 s.frame.y)).replied ty (0 :: targetBytes made)))
    checks (.frameGo mode x y) 0xC0
      ((1 < mode ∨ x = -32768 ∨ y = -32768 → exec (.frameGo mode x y) s = .next (s.replied 0xC0 [3])) ∧
        (mode = 0 → x ≠ -32768 → y ≠ -32768 → s.frame.known = false →
          exec (.frameGo mode x y) s = .next (s.replied 0xC0 [14])) ∧
        (mode = 0 → x ≠ -32768 → y ≠ -32768 → s.frame.known = true → moves (.frameGo mode x y) 0xC0 .go (4 * x, 4 * y)) ∧
        (mode = 1 → x ≠ -32768 → y ≠ -32768 →
          moves (.frameGo mode x y) 0xC0 .go (s.frame.x + 4 * x, s.frame.y + 4 * y))) ∧
    checks .framePark 0xC3
      ((s.frame.known = false → exec .framePark s = .next (s.replied 0xC3 [14])) ∧
        (s.frame.known = true →
          moves .framePark 0xC3 .park (4 * s.frame.settings.parkX, 4 * s.frame.settings.parkY)))

/-- R95, R99, R101: FRAME_HOME and FRAME_TRACE: the checks that every positioner request makes first, their own refusals, and
the beginning of a granted homing or trace. A leg of a trace without a step completes at once, so the trace begins with its
first leg that has one; a trace without any ends as it begins, FRAME_DONE latched. -/
def Obligations.HomeAndTraceBegin : Prop :=
  ∀ s : State, s.ready = true →
    let stopped := s.ev.estop = some false ∨ s.frame.readyX = false ∨ s.frame.readyY = false ∨ s.shaft.state = .turning ∨
      s.shaft.state = .positioning ∨ s.shaft.state = .braking
    let held := s.frame.owner = .positioner ∨ (s.frame.owner = .player ∧ s.frame.lent = false)
    let kept := s.player.armed.isSome = true ∧ s.player.keepFrame = true
    let granted := fun (move : FrameMove) =>
      { s with
        frame := { s.frame with owner := .positioner, after := .keep, move := some move }
        player := { s.player with displaced := s.player.displaced || s.player.armed.isSome } }
    (∀ c ty, (c = .frameHome ∧ ty = 0xC1) ∨ (c = .frameTrace ∧ ty = 0xC2) →
      (stopped → exec c s = .next (s.replied ty [4])) ∧
      (¬stopped → held → exec c s = .next (s.replied ty [5])) ∧
      (¬stopped → ¬held → kept → exec c s = .next (s.replied ty [6]))) ∧
    (¬stopped → ¬held → ¬kept →
      ((s.homeBlocked .x = true ∨ s.homeBlocked .y = true) → exec .frameHome s = .next (s.replied 0xC1 [4])) ∧
      (s.homeBlocked .x = false → s.homeBlocked .y = false →
        exec .frameHome s =
          .next ((granted (.homing .x (if s.inputActive 30 then .clear 0 else .search 0))).replied 0xC1 [0])) ∧
      (s.armedDesign = none → exec .frameTrace s = .next (s.replied 0xC2 [4])) ∧
      (∀ (d : Design) (o : Int × Int), s.armedDesign = some d → s.player.origin = some o →
        let corner := fun (x y : Int) => (o.1 + 4 * x, o.2 + 4 * y)
        let first := Leg.between s.frame.x s.frame.y (o.1 + 4 * d.box.xmin) (o.2 + 4 * d.box.ymin)
        (s.frame.known = false → exec .frameTrace s = .next (s.replied 0xC2 [14])) ∧
        (s.frame.known = true → s.limitAhead first ≠ none → exec .frameTrace s = .next (s.replied 0xC2 [4])) ∧
        (s.frame.known = true → s.limitAhead first = none → first.isEmpty = false →
          exec .frameTrace s = .next ((granted (.legs .trace first
            [corner d.box.xmax d.box.ymin, corner d.box.xmax d.box.ymax, corner d.box.xmin d.box.ymax,
              corner d.box.xmin d.box.ymin, (s.frame.x, s.frame.y)] none)).replied 0xC2 [0])) ∧
        let targets := [corner d.box.xmin d.box.ymin, corner d.box.xmax d.box.ymin, corner d.box.xmax d.box.ymax,
          corner d.box.xmin d.box.ymax, corner d.box.xmin d.box.ymin, (s.frame.x, s.frame.y)]
        let empty := fun p : Int × Int => p.1 = s.frame.x ∧ p.2 = s.frame.y
        (∀ (skipped rest : List (Int × Int)) (p : Int × Int), s.frame.known = true → s.limitAhead first = none →
          targets = skipped ++ p :: rest → (∀ q ∈ skipped, empty q) → ¬empty p →
          exec .frameTrace s =
            .next ((granted (.legs .trace (Leg.between s.frame.x s.frame.y p.1 p.2) rest none)).replied 0xC2 [0])) ∧
        (s.frame.known = true → (∀ q ∈ targets, empty q) → s.player.errand = .none →
          exec .frameTrace s = .next (({ s with
            frame := { s.frame with
              owner := (if s.frame.lent then .player else .none), after := .keep, move := none }
            player := { s.player with displaced := s.player.displaced || s.player.armed.isSome }
            link := { s.link with taking := true } }.latch .frameDone
              (b1 MoveOp.trace.code ++ [0, 0xFF] ++ sBytes4 s.frame.x ++ sBytes4 s.frame.y)).replied 0xC2 [0]))))

/-- R90, R91, R102: SET_HOOP, HOOP_SELECT and SET_FRAME: their refusals, and what they store clamped to its range. -/
def Obligations.FrameTablesAreStored : Prop :=
  ∀ (s : State) (entry : Nat) (xmin xmax ymin ymax : Int) (dirX dirY : Nat) (offX offY parkX parkY : Int) (rPos : Nat),
    s.ready = true →
    let travelX := fun v : Int => max (-6000) (min 6000 v)
    let travelY := fun v : Int => max (-2500) (min 2500 v)
    let bad := entry = 0 ∨ 7 < entry ∨ xmin = -32768 ∨ xmax = -32768 ∨ ymin = -32768 ∨ ymax = -32768 ∨ xmax < xmin ∨ ymax < ymin
    let box : Box := ⟨travelX xmin, travelX xmax, travelY ymin, travelY ymax⟩
    let settings : FrameSettings := ⟨decide (dirX = 1), decide (dirY = 1), travelX offX, travelY offY, travelX parkX,
      travelY parkY, max 2000 (min 40000 rPos)⟩
    (exec (.setHoop entry xmin xmax ymin ymax) s = .next (
      if bad then s.replied 0xC5 [3]
      else if entry = s.frame.hoop ∧ s.player.state ≠ .idle then s.replied 0xC5 [6]
      else { s with
        frame := { s.frame with hoops := updAt entry (fun _ => box) s.frame.hoops } }.replied 0xC5 (0 :: bBox box))) ∧
    (exec (.hoopSelect entry) s = .next (
      if 7 < entry then s.replied 0xC6 [3]
      else if s.player.state ≠ .idle then s.replied 0xC6 [4]
      else { s with frame := { s.frame with hoop := entry } }.replied 0xC6
        (0 :: bBox (s.frame.hoops.getD entry fullTravel)))) ∧
    (exec (.setFrame dirX dirY offX offY parkX parkY rPos) s = .next (
      if 1 < dirX ∨ 1 < dirY then s.replied 0xC4 [3]
      else if s.frame.owner = .positioner ∨ s.frame.move.isSome then s.replied 0xC4 [5]
      else { s with frame := { s.frame with settings := settings } }.replied 0xC4 (0 :: settings.bytes)))

/-- R33, R97, R29: a return move that the player waits for begins once the shaft is HELD and nothing moves, with the
queue emptied and filled anew, and a lead-in once nothing moves: from where the frame stands to origin + 4 ×
position(cursor). One without a step completes at once, as at its last step; a LIMIT input that stands active toward its
first step, or an axis drive that is not ready, makes it an axis fault without a step. R87: steps on an axis change its
count by 1 each in their direction; a count keeps within −262,143 to +262,143, and a step beyond that makes trust
UNKNOWN. R92: the axis with the larger total leads, X where they are equal, and step j of the other axis goes out with
step ceil(j × lead / other) of the leading one. R87, R88, R92, R93, R96, R97, R99, R100: a step of the leading axis of a
held-shaft move counts it and the steps of the other axis that go out with it, and another axis's generator does
nothing. With the last step of a leg the next leg begins; with the last of the move FRAME_DONE latches, and the owner
goes back or the player takes the next link of its chain. A move that slows down ends ABORTED at 2,000 steps per second
or at its target. A homing clears its switch, 40 steps more, searches, and steps back 40 steps; the X axis is followed
by the Y axis, whose last step ends the homing and makes trust KNOWN; a stage at its bound is an axis fault. The model's
readings in it (DEDUCED) are the rates within a leg (log entry 6), the wait in CHANGING after a return (log entry 21), a
STOP taken at a lead-in without a refill (log entry 23), a lending that waits for the end of a move (log entry 25), what
a homing at its bound waits for (log entry 28), the switch that stands active again after the 40 steps more (log entry
41) and FRAME_DONE before PLAYER_STATE (log entry 46). What a completion makes possible is begun at once (log entry 13). -/
def Obligations.AxisStepsMoveTheFrame : Prop :=
  (∀ (f : Frame) (negative : Bool) (n : Nat), -262143 ≤ f.x → f.x ≤ 262143 → -262143 ≤ f.y → f.y ≤ 262143 →
    let next := fun p : Int => if negative then p - n else p + n
    let counted := fun p : Int => max (-262143) (min 262143 (next p))
    let trusted := fun p : Int => f.known && decide (-262143 ≤ next p ∧ next p ≤ 262143)
    f.stepX negative n = { f with x := counted f.x, known := trusted f.x } ∧
    f.stepY negative n = { f with y := counted f.y, known := trusted f.y } ∧
    f.step .x negative n = f.stepX negative n ∧ f.step .y negative n = f.stepY negative n) ∧
  (∀ (s : State) (ox oy : Int), s.nc.kept = none → s.gov.move = none → s.frame.move = none → s.frame.owner = .player →
    s.frame.lent = false → s.frame.after = .keep → s.player.origin = some (ox, oy) →
    let place := s.positionOf s.player.cursor
    let leg := Leg.between s.frame.x s.frame.y (ox + 4 * place.1) (oy + 4 * place.2)
    let toward := (leg.nx ≠ 0 ∧ s.inputActive (if leg.xNeg then 26 else 27) = true) ∨
      (leg.ny ≠ 0 ∧ s.inputActive (if leg.yNeg then 28 else 29) = true)
    let blocked := toward ∨ s.frame.readyX = false ∨ s.frame.readyY = false
    let begins := fun (u : State) (op : MoveOp) (errand : Errand) =>
      let asked : Player := { u.player with state := .returning, errand := errand }
      (¬blocked → ¬(leg.nx = 0 ∧ leg.ny = 0) →
        s.settle = { u with player := asked, frame := { s.frame with move := some (.legs op leg [] none) } }) ∧
      (¬blocked → leg.nx = 0 ∧ leg.ny = 0 →
        s.settle = State.settleN 2047 ({ u with player := asked }.latch .frameDone
          (b1 op.code ++ [0, 0xFF] ++ sBytes4 s.frame.x ++ sBytes4 s.frame.y)).playerMoveDone) ∧
      (blocked →
        let t := s.settle
        t.player.state = .halted .axis ∧ t.player.queue = [] ∧ t.player.errand = .none ∧ t.player.displaced = true ∧
        t.player.cursor = s.player.cursor ∧ t.frame = { s.frame with known := false, lent := true } ∧
        t.ev.flags &&& Event.axisFault.bit ≠ 0 ∧ t.ev.flags &&& Event.frameDone.bit ≠ 0)
    (s.player.errand = .leadWait → begins s .leadIn .leadMove) ∧
    (∀ source : ChangeSource, s.player.errand = .returnWait source → s.shaft.state = .held →
      begins { s with
        player := { s.player with
          queue := { s with player := { s.player with queue := [] } }.prefetch.player.queue } } .returnMove (.returnMove source))) ∧
  (∀ (leg : Leg) (rPos : Nat) (slowing : Bool),
    let l := leg.advance rPos slowing
    let next := fun owed : Nat =>
      if slowing = true ∨ owed ≤ (leg.rateSq - 4000000 + 199999) / 200000 then max 4000000 (leg.rateSq - 200000)
      else min (rPos * rPos) (leg.rateSq + 200000)
    l.nx = leg.nx ∧ l.ny = leg.ny ∧ l.xNeg = leg.xNeg ∧ l.yNeg = leg.yNeg ∧
    (leg.ny ≤ leg.nx → leg.leads = .x ∧ l.ex = leg.ex + 1 ∧ l.rateSq = next (leg.nx - (leg.ex + 1)) ∧
      (1 ≤ leg.nx → ∀ j : Nat, j ≤ l.ey ↔ j * leg.nx ≤ (leg.ex + 1) * leg.ny)) ∧
    (leg.nx < leg.ny → leg.leads = .y ∧ l.ey = leg.ey + 1 ∧ l.rateSq = next (leg.ny - (leg.ey + 1)) ∧
      ∀ j : Nat, j ≤ l.ex ↔ j * leg.ny ≤ (leg.ey + 1) * leg.nx)) ∧
  ∀ s : State, s.resetHeld = false → s.quiet = true → s.gov.move = none →
    (∀ (op : MoveOp) (leg : Leg) (rest : List (Int × Int)) (slowing : Option AbortCause) (a : Axis),
      s.frame.move = some (.legs op leg rest slowing) →
      let leg' := leg.advance s.frame.settings.rPos slowing.isSome
      let moved : Frame := (s.frame.stepX leg.xNeg (leg'.ex - leg.ex)).stepY leg.yNeg (leg'.ey - leg.ey)
      let answer := exec (.axisStep a) s
      let detail := fun abort : Option AbortCause =>
        b1 op.code ++ bFlag abort.isSome ++ o1 (abort.map AbortCause.code) ++ sBytes4 moved.x ++ sBytes4 moved.y
      let back : Frame := match s.frame.owner with
        | .positioner => { moved with move := none, owner := if s.frame.lent then .player else .none, after := .keep }
        | .player => (match s.frame.after with
          | .keep => { moved with move := none }
          | .lend => { moved with move := none, lent := true, after := .keep }
          | .release => { moved with move := none, owner := .none, lent := false, after := .keep })
        | .none => { moved with move := none, after := .keep }
      let done : State := { s with frame := back }.latch .frameDone (detail none)
      let rested : Player := { s.player with
        stopReason := none, stopIndex := none, soonStop := false, positionAsked := false, errand := .none
        entryTrim := .none }
      let pauses := fun (r : StopReason) (why : PauseReason) =>
        (r = .hostStop ∧ why = .hostStop) ∨ (r = .buttonStop ∧ why = .buttonStop) ∨ (r = .breakStop ∧ why = .breakStop) ∨
          (r = .bobbinStop ∧ why = .bobbinStop) ∨ (r = .passEmpty ∧ why = .passEmpty)
      (leg.leads ≠ a → answer = .next s) ∧
      (leg.leads = a → slowing = none → leg'.done = false →
        answer = .next { s with frame := { moved with move := some (.legs op leg' rest none) } }) ∧
      (∀ (next : Leg) (more : List (Int × Int)), leg.leads = a → slowing = none → leg'.done = true →
        firstLeg moved.x moved.y rest = some (next, more) →
        answer = .next { s with frame := { moved with move := some (.legs op next more none) } }) ∧
      (leg.leads = a → slowing = none → leg'.done = true → firstLeg moved.x moved.y rest = none →
        (op ≠ .leadIn → op ≠ .returnMove → s.player.errand = .none → answer = .next done) ∧
        (∀ source : ChangeSource, s.frame.owner = .player → s.frame.after = .keep →
          s.player.errand = .returnMove source →
          (op = .leadIn ∨ op = .returnMove) →
          (s.player.stopReason = none →
            answer = .next { done with
              player := { s.player with displaced := false, state := .changing, errand := .changeWait source 0 } }.settle) ∧
          (∀ (r : StopReason) (why : PauseReason), s.player.stopReason = some r → pauses r why →
            answer = .next ({ done with
              frame := { back with lent := true }
              player := { rested with displaced := false, state := .paused why } }.latch .playerState
                (6 :: b1 why.code ++ b4 s.player.cursor))) ∧
          (s.player.stopReason = some .design →
            ∃ t : State, answer = .next t ∧ t.player.state = .halted .design ∧ t.frame = { back with lent := true } ∧
              t.player.displaced = s.player.active.isSome ∧ t.player.queue = [] ∧
              t.ev.flags &&& Event.playerState.bit ≠ 0 ∧ t.ev.flags &&& Event.frameDone.bit ≠ 0)) ∧
        (s.frame.owner = .player → s.frame.after = .keep → s.player.errand = .leadMove →
          (op = .leadIn ∨ op = .returnMove) →
          (∀ (r : StopReason) (why : PauseReason), s.player.stopReason = some r → pauses r why →
            answer = .next ({ done with
              frame := { back with lent := true }
              player := { rested with state := .paused why } }.latch .playerState
                (6 :: b1 why.code ++ b4 s.player.cursor))) ∧
          (s.player.stopReason = some .design →
            ∃ t : State, answer = .next t ∧ t.player.state = .halted .design ∧ t.frame = { back with lent := true } ∧
              t.player.displaced = (s.player.displaced || s.player.active.isSome) ∧ t.player.queue = [] ∧
              t.ev.flags &&& Event.playerState.bit ≠ 0 ∧ t.ev.flags &&& Event.frameDone.bit ≠ 0) ∧
          (∀ (e : QueueEntry) (later : List QueueEntry), s.player.stopReason = none → s.player.queue = e :: later →
            (e.kind = .stop →
              answer = .next ({ done with
                player := { s.player with
                  state := .changing, queue := later, cursor := e.index + 1, stopIndex := none, soonStop := false
                  positionAsked := false
                  resume := if s.player.mode = PassMode.normal then max s.player.resume (e.index + 1) else s.player.resume
                  errand := .changeWait .stopRecord (e.block + 1) } }.prefetch).settle) ∧
            (e.kind = .endRec →
              answer = .next ({ done with
                frame := { back with lent := true }
                player := { rested with state := .finished, queue := [] } }.latch .playerState
                  (8 :: 0xFF :: b4 s.player.cursor))) ∧
            (e.kind ≠ .stop → e.kind ≠ .endRec → s.shaft.state = .held → s.shaft.driveReady = true →
              let ending := s.player.mode = .repair ∧ s.blockOf s.player.cursor = s.blockOf s.player.resume
              ∃ t : State, answer = .next t ∧ t.shaft.state = .turning ∧
                t.shaft.demand = min s.gov.active.motion.sStart s.gov.sCmd ∧ t.shaft.runUp = true ∧
                t.player = (if ending then { s.player with
                    state := .stopping, errand := .none, stopReason := some .passEnd
                    stopIndex := some (match s.player.stopIndex with
                      | some i => min i s.player.resume
                      | none => s.player.resume) }
                  else { s.player with state := .running, errand := .none }) ∧
                t.outs = s.outs.allAuto ∧ t.gov = s.gov ∧ t.frame = back ∧ t.ev = done.ev)) ∧
          (s.player.stopReason = none → s.player.queue = [] →
            (∀ d : Design, s.armedDesign = some d → d.stored < s.player.cursor + 16 ∧ d.stored ≠ d.declared) →
            answer = .next ({ done with
              player := { rested with state := .starved, starvedMark := s.player.cursor } }.latch .playerState
                (7 :: 0xFF :: b4 s.player.cursor))))) ∧
      (∀ c : AbortCause, leg.leads = a → slowing = some c → s.player.errand = .none →
        (leg'.done = false → 4000000 < leg'.rateSq →
          answer = .next { s with frame := { moved with move := some (.legs op leg' rest (some c)) } }) ∧
        ((leg'.done = true ∨ leg'.rateSq ≤ 4000000) →
          answer = .next ({ s with frame := back }.latch .frameDone (detail (some c)))))) ∧
    (∀ (a : Axis) (n : Nat),
      let bound := match a with
        | .x => 56000
        | .y => 28000
      let away := fun next : HomeStage => exec (.axisStep a) s = .next { s with
        frame := { s.frame.step a (s.frame.settings.homePositive a) 1 with move := some (.homing a next) } }
      (s.frame.move = some (.homing a (.clear n)) → s.homeActive a = true →
        (n < 4000 → away (.clear (n + 1))) ∧
        (4000 ≤ n → exec (.axisStep a) s = .next s ∧
          (s.frame.owner = .positioner → s.frame.lent = false → s.player.errand = .none →
            exec .homingSearchLimit s = .next (({ s with
              frame := { s.frame with known := false, move := none, owner := .none, after := .keep } }.latch .axisFault
                ([7, 4] ++ sBytes4 s.frame.x ++ sBytes4 s.frame.y)).latch .frameDone
                  ([1, 1, 7] ++ sBytes4 s.frame.x ++ sBytes4 s.frame.y))))) ∧
      (s.frame.move = some (.homing a (.clearMore n)) →
        (n + 1 < 40 → away (.clearMore (n + 1))) ∧
        (40 ≤ n + 1 → away (if s.homeActive a then .backOff 0 else .search 0))) ∧
      (s.frame.move = some (.homing a (.search n)) → s.homeActive a = false →
        (n < bound →
          exec (.axisStep a) s = .next { s with
            frame := { s.frame.step a (!s.frame.settings.homePositive a) 1 with move := some (.homing a (.search (n + 1))) } }) ∧
        (bound ≤ n → exec (.axisStep a) s = .next s ∧
          (s.player.errand = .none → ∃ t : State, exec .homingSearchLimit s = .next t ∧ t.frame.known = false ∧
            t.frame.move = none ∧ t.ev.flags &&& Event.axisFault.bit ≠ 0 ∧ t.ev.flags &&& Event.frameDone.bit ≠ 0) ∧
          (s.frame.owner = .positioner → s.frame.lent = false → s.player.errand = .none →
            exec .homingSearchLimit s = .next (({ s with
              frame := { s.frame with known := false, move := none, owner := .none, after := .keep } }.latch .axisFault
                ([6, 4] ++ sBytes4 s.frame.x ++ sBytes4 s.frame.y)).latch .frameDone
                  ([1, 1, 6] ++ sBytes4 s.frame.x ++ sBytes4 s.frame.y))))) ∧
      (s.frame.move = some (.homing a (.backOff n)) → n + 1 < 40 → away (.backOff (n + 1)))) ∧
    (s.frame.move = some (.homing .x (.backOff 39)) →
      exec (.axisStep .x) s = .next { s with
        frame := { s.frame with
          x := 4 * s.frame.settings.offX
          known := s.frame.known && !beyondRange s.frame.x (s.frame.settings.homePositive .x) 1
          move := some (.homing .y (if s.homeActive .y then .clear 0 else .search 0)) } }) ∧
    (s.frame.move = some (.homing .y (.backOff 39)) → s.frame.owner = .positioner → s.player.errand = .none →
      exec (.axisStep .y) s = .next ({ s with
        frame := { s.frame with
          y := 4 * s.frame.settings.offY, known := true, move := none, after := .keep
          owner := if s.frame.lent then .player else .none } }.latch .frameDone
            ([1, 0, 0xFF] ++ sBytes4 s.frame.x ++ sBytes4 (4 * s.frame.settings.offY))))

/-! ### The needle case (R105 to R120) -/

/-- R118: SEQ_EDIT: its refusals in their order, and the entries that it replaces in place. The reply's count is one byte,
the low eight bits (DEDUCED, log entry 14). -/
def Obligations.SeqEditReplacesEntries : Prop :=
  ∀ (s : State) (design first count : Nat) (entries : List Byte), s.ready = true → count = entries.length →
    let answer := exec (.seqEdit design first count entries) s
    let named := ∀ b ∈ entries, b.toNat / 16 % 8 = 0 ∧ 1 ≤ b.toNat % 16 ∧ b.toNat % 16 ≤ s.straps.needles
    let new : List SeqEntry := entries.map fun b => ⟨b.toNat % 16, decide (128 ≤ b.toNat)⟩
    (s.store.find design = none → answer = .next (s.replied 0xA9 [8])) ∧
    (∀ d : Design, s.store.find design = some d →
      ((count = 0 ∨ d.blocks < first + count ∨ ¬named) → answer = .next (s.replied 0xA9 [3])) ∧
      (1 ≤ count → first + count ≤ d.blocks → named →
        let entered := ∃ (b n : Nat), first ≤ b ∧ s.player.history[b]? = some (some n)
        (s.player.armed = some design → (s.player.mode = .repair ∨ entered) → answer = .next (s.replied 0xA9 [6])) ∧
        (¬(s.player.armed = some design ∧ (s.player.mode = .repair ∨ entered)) →
          answer = .next ({ s with
            store := { s.store with
              dir := s.store.dir.map fun (o : Option Design) => o.map fun (x : Design) =>
                if x.number = design then
                  { x with seq := x.seq.take first ++ new ++ x.seq.drop (first + count) }
                else x } }.replied 0xA9
            (0 :: (b1 first ++ b1 count ++ new.map SeqEntry.byte)))))) 

/-- R119, R107, R116, R82, R128: NEEDLE_GO: its refusals in their order. An accepted one is kept until the shaft is HELD;
with the shaft HELD and the player at rest its drive goes on at once, in the direction and with the timeout that its start
reference gives (R107), and one to the needle at which the case stands
completes without a drive. A case fault that it clears takes the position from the code last held for 1 ms (DEDUCED, log
entry 32). What becomes possible at once is begun after the reply is placed (DEDUCED, log entries 12 and 13). -/
def Obligations.NeedleGoIsKeptUntilHeld : Prop :=
  ∀ (s : State) (needle : Nat), s.ready = true →
    let answer := exec (.needleGo needle) s
    let named := 1 ≤ needle ∧ needle ≤ s.straps.needles
    let turning := s.ev.estop = some false ∨ s.shaft.state = .braking ∨ s.shaft.state = .turning ∨ s.shaft.state = .positioning
    let sewing := s.player.state = .running ∨ s.player.state = .stopping ∨ s.player.state = .returning ∨
      s.player.state = .starved ∨ ∃ c : HaltCause, s.player.state = .halted c
    let faulted := s.shaft.state = .fault ∨ (s.nc.state = .fault ∧ s.player.state ≠ .idle)
    let busy := s.nc.state = .moving ∨ s.nc.state = .settling ∨ s.nc.kept.isSome = true ∨
      ((s.shaft.state = .off ∨ s.shaft.state = .offPosition) ∧ s.frame.owner = .positioner)
    let cleared : NeedleCase := if s.nc.state = CaseState.fault then
        { s.nc with state := .idle, cause := none, pos := casePosition s.straps.needles s.nc.code }
      else s.nc
    let reference := if cleared.pos ≠ 0 then some cleared.pos else cleared.lastSeen
    let up := match reference with
      | none => true
      | some r => decide (r < needle ∨ (r = needle ∧ cleared.dirUp = some false))
    let span := match reference with
      | none => s.straps.needles - 1
      | some r => if r = needle then 1 else max r needle - min r needle
    (¬named → answer = .next (s.replied 0xAA [3])) ∧
    (named → (turning ∨ sewing) → answer = .next (s.replied 0xAA [4])) ∧
    (named → ¬turning → s.player.state = .changing → answer = .next (s.replied 0xAA [5])) ∧
    (named → ¬turning → ¬sewing → s.player.state ≠ .changing → faulted → answer = .next (s.replied 0xAA [4])) ∧
    (named → ¬turning → ¬sewing → s.player.state ≠ .changing → ¬faulted → busy → answer = .next (s.replied 0xAA [5])) ∧
    (named → ¬turning → ¬sewing → s.player.state ≠ .changing → ¬faulted → ¬busy →
      ((s.shaft.state = .off ∨ s.shaft.state = .offPosition) →
        answer = .next ((({ s with
          nc := { cleared with kept := some ⟨needle, .direct, none⟩ }
          link := { s.link with taking := true } }.holdRequest).replied 0xAA [0]).settle)) ∧
      (s.shaft.state = .held → s.player.errand = .none → needle ≠ cleared.pos →
        answer = .next ({ s with
          nc := { cleared with
            state := .moving, job := some ⟨needle, .direct, none⟩, overshoot := 0, settle := 0, kept := none
            dirUp := some up, timer := 300 + 120 * span } }.replied 0xAA [0])) ∧
      (s.shaft.state = .held → s.player.errand = .none → needle = cleared.pos →
        answer = .next (({ s with
          nc := { cleared with state := .idle, job := none, overshoot := 0, timer := 0, settle := 0, kept := none }
          outs := { s.outs with holderCount := 2 }
          thread := { s.thread with
            monitors := s.thread.monitors.map fun (m : HeadMonitor) =>
              { m with tieIn := (s.thread.profileAt needle).f } } }.replied 0xAA [0]).latch .colourDone
            (b1 needle ++ [4, 0xFF, 0xFF, 0]))))

/-- R105, R108, R110, R112: the code lines: a change is not yet taken; a value held for 1 ms becomes the code, and a new
case position is judged: an arrival settles for 40 ms, an approach is recorded, the first overshoot turns the drive back
and the second is a case fault, as is a move away; a blind move past its target turns back without an overshoot. A
position between needles changes nothing in a move. While the move settles, and in a fault, a position is recorded only;
with the case idle it is recorded too, unless the shaft turns or positions, where it is a case fault. A case fault halts
the player, unless it is IDLE or halted already (R42), and abandons a sewing move in flight (R62); its position is
recorded after it (DEDUCED, log entry 30), with the overshoot count and the timers at 0 (DEDUCED, log entry 42). The 1 ms
comes as a command (log entry 9). -/
def Obligations.CaseCodeIsTakenAndJudged : Prop :=
  ∀ s : State, s.resetHeld = false → s.quiet = true →
    let pos := casePosition s.straps.needles s.nc.raw
    let taken : NeedleCase := { s.nc with code := s.nc.raw, pos := pos }
    let seen : NeedleCase := if pos = 0 then taken else { taken with lastSeen := some pos }
    let fails := fun cause : CaseCause =>
      ∃ t : State, exec .caseCodeSettled s = .next t ∧
        t.nc = { seen with
          state := .fault, job := none, overshoot := 0, timer := 0, settle := 0, kept := none, cause := some cause } ∧
        t.ev.flags &&& Event.caseFault.bit ≠ 0 ∧ t.gov.move = none ∧
        ((∃ c : HaltCause, s.player.state = .halted c) ∨ s.player.state = .idle ∨
          t.player.state = .halted .needleCase)
    (∀ code : Nat, exec (.caseCodeLineChange code) s = .next { s with nc := { s.nc with raw := code } }) ∧
    (pos = s.nc.pos → exec .caseCodeSettled s = .next { s with nc := taken }) ∧
    (pos ≠ s.nc.pos → s.nc.state = .idle → s.shaft.state ≠ .turning → s.shaft.state ≠ .positioning →
      exec .caseCodeSettled s = .next { s with nc := seen }) ∧
    (pos ≠ s.nc.pos → (s.nc.state = .settling ∨ s.nc.state = .fault) →
      exec .caseCodeSettled s = .next { s with nc := seen }) ∧
    (pos ≠ s.nc.pos → s.nc.state = .idle → (s.shaft.state = .turning ∨ s.shaft.state = .positioning) →
      s.player.errand = .none → fails .drift) ∧
    (∀ (j : CaseJob) (up : Bool), s.nc.state = .moving → s.nc.job = some j → s.nc.dirUp = some up → pos ≠ s.nc.pos →
      let past := if up then j.target < pos else pos < j.target
      let chain := s.player.errand = .none ∨ ∃ (source : ChangeSource) (block : Nat), s.player.errand = .changeMove source block
      (pos = 0 → exec .caseCodeSettled s = .next { s with nc := taken }) ∧
      (pos ≠ 0 → pos = j.target →
        exec .caseCodeSettled s = .next { s with nc := { seen with state := .settling, settle := 40 } }) ∧
      (pos ≠ 0 → pos ≠ j.target → s.nc.lastSeen = none →
        exec .caseCodeSettled s = .next { s with
          nc := if past then { seen with dirUp := some (!up) } else seen }) ∧
      (∀ last : Nat, pos ≠ 0 → pos ≠ j.target → s.nc.lastSeen = some last →
        let back := if up then pos < last else last < pos
        (past → s.nc.overshoot = 0 →
          exec .caseCodeSettled s = .next { s with nc := { seen with overshoot := 1, dirUp := some (!up), settle := 0 } }) ∧
        (past → s.nc.overshoot ≠ 0 → chain → fails .overshoot) ∧
        (¬past → ¬back → exec .caseCodeSettled s = .next { s with nc := seen }) ∧
        (¬past → back → chain → fails .away)))

/-- R109, R110, R116, R82, R128, R112, R62: the settle timer's expiry: at the target the move completes, COLOUR_DONE
latched, the holder countdown and every head's tie-in countdown set; short of it the drive goes on; past it or between
positions the first overshoot turns it back and the second is a case fault. The timeout of a move is a case fault. R38:
after a change that the player asked for, DESIGN halts the player, another held reason pauses it (R154: as PASS_EMPTY in
an emptied REPAIR pass, DEDUCED, log entry 53), the pause flag of a block entered pauses it as COLOUR_PAUSE, and else
the lead-in follows, whose move begins at once (log entries 13 and 22). A failed move leaves the overshoot count and the
timers at 0 (DEDUCED, log entry 42). The expiries come as commands (log entry 9). -/
def Obligations.CaseTimersEndAMove : Prop :=
  ∀ (s : State) (j : CaseJob), s.resetHeld = false → s.quiet = true → s.nc.kept = none → s.nc.job = some j →
    let answer := exec .caseSettleExpiry s
    let chain := s.player.errand = .none ∨ ∃ (source : ChangeSource) (block : Nat), s.player.errand = .changeMove source block
    let fails := fun (t : State) (cause : CaseCause) =>
      t.nc = { s.nc with
        state := .fault, job := none, overshoot := 0, timer := 0, settle := 0, kept := none, cause := some cause } ∧
      t.ev.flags &&& Event.caseFault.bit ≠ 0 ∧ t.gov.move = none ∧
      ((∃ c : HaltCause, s.player.state = .halted c) ∨ s.player.state = .idle ∨ t.player.state = .halted .needleCase)
    let completed : State := { s with
      nc := { s.nc with state := .idle, job := none, overshoot := 0, timer := 0, settle := 0 }
      outs := { s.outs with holderCount := 2 }
      thread := { s.thread with
        monitors := s.thread.monitors.map fun (m : HeadMonitor) =>
          { m with tieIn := (s.thread.profileAt j.target).f } } }.latch .colourDone
        (b1 j.target ++ b1 j.source.code ++ o2 j.block ++ [1])
    (s.nc.state = .settling → s.nc.pos = j.target → j.source = .direct → s.player.errand = .none →
      answer = .next completed) ∧
    (∀ (source : ChangeSource) (block : Nat), s.nc.state = .settling → s.nc.pos = j.target → j.source ≠ .direct →
      s.player.errand = .changeMove source block → s.frame.owner = .player → s.frame.move = none → s.gov.move = none →
      let emptied := s.player.mode = .repair ∧ ∀ h ∈ s.heads.table, h.role = Role.none
      let paused := fun reason : PauseReason =>
        let why := if emptied then PauseReason.passEmpty else reason
        answer = .next ({ completed with
          frame := { s.frame with lent := true }
          player := { s.player with
            state := .paused why, stopReason := none, stopIndex := none, soonStop := false, positionAsked := false
            errand := .none, entryTrim := .none } }.latch .playerState (6 :: b1 why.code ++ b4 s.player.cursor))
      let flagged := s.player.mode = .normal ∧ (source = .start ∨ source = .stopRecord) ∧
        ∃ (d : Design) (needle : Nat), s.armedDesign = some d ∧ d.seq[block]? = some ⟨needle, true⟩
      (s.player.stopReason = some .design →
        ∃ t : State, answer = .next t ∧ t.player.state = .halted .design ∧ t.player.queue = [] ∧
          t.player.stopReason = none ∧ t.frame = { s.frame with lent := true } ∧ t.nc = completed.nc ∧
          t.outs.holderCount = 2 ∧ t.ev.flags &&& Event.colourDone.bit ≠ 0 ∧ t.ev.flags &&& Event.playerState.bit ≠ 0) ∧
      (s.player.stopReason = some .hostStop → paused .hostStop) ∧
      (s.player.stopReason = some .buttonStop → paused .buttonStop) ∧
      (s.player.stopReason = some .breakStop → paused .breakStop) ∧
      (s.player.stopReason = some .bobbinStop → paused .bobbinStop) ∧
      (s.player.stopReason = some .passEmpty → paused .passEmpty) ∧
      (s.player.stopReason = none → flagged → paused .colourPause) ∧
      (s.player.stopReason = none → ¬flagged →
        answer = .next { completed with player := { s.player with state := .returning, errand := .leadWait } }.settle ∧
        (∀ ox oy : Int, s.player.origin = some (ox, oy) → s.frame.readyX = true → s.frame.readyY = true →
          s.anyLimit = false →
          let target := s.positionOf s.player.cursor
          let leg := Leg.between s.frame.x s.frame.y (ox + 4 * target.1) (oy + 4 * target.2)
          leg.isEmpty = false →
          answer = .next { completed with
            player := { s.player with state := .returning, errand := .leadMove }
            frame := { s.frame with move := some (.legs .leadIn leg [] none) } }))) ∧
    (∀ up : Bool, s.nc.state = .settling → s.nc.pos ≠ j.target → s.nc.dirUp = some up →
      let short := s.nc.pos ≠ 0 ∧ (if up then s.nc.pos < j.target else j.target < s.nc.pos)
      (short → answer = .next { s with nc := { s.nc with state := .moving, settle := 0 } }) ∧
      (¬short → s.nc.overshoot = 0 →
        answer = .next { s with nc := { s.nc with state := .moving, overshoot := 1, dirUp := some (!up), settle := 0 } }) ∧
      (¬short → s.nc.overshoot ≠ 0 → chain → ∃ t : State, answer = .next t ∧ fails t .overshoot)) ∧
    (s.nc.state = .moving → chain → ∃ t : State, exec .caseTimeout s = .next t ∧ fails t .timeout)

/-! ### The thread monitor (R122 to R137) -/

/-- R123, R124, R134, R135: the requests that set the thread monitor: the entry clamped field by field and written to
the named needle, or to every needle for 0; the policies; the capture selection, which empties the slot; and the read of
the slot, which clears its two flags. A selection that is off is sent as 0, and the layouts of the replies are DEDUCED
(log entry 14). -/
def Obligations.ThreadSettingsAreStored : Prop :=
  ∀ s : State, s.ready = true →
    (∀ needle monitor base k rlo rhi b f : Nat,
      let entry : NeedleProfile :=
        { monitor := decide (monitor = 1), base := min 255 base, k := min 1023 k, rlo := min 16 rlo
          rhi := max 16 (min 64 rhi), b := max 1 (min 15 b), f := min 15 f }
      exec (.needleProfile needle monitor base k rlo rhi b f) s = .next (
        if 1 < monitor ∨ s.straps.needles < needle then s.replied 0xD0 [3]
        else { s with
          thread := { s.thread with
            profiles := (s.thread.profiles.zipIdx 1).map fun (p : NeedleProfile × Nat) =>
              if p.2 = needle ∨ (needle = 0 ∧ p.2 ≤ s.straps.needles) then entry else p.1 } }.replied 0xD0
          (0 :: (b1 monitor ++ b1 entry.base ++ b2 entry.k ++ b1 entry.rlo ++ b1 entry.rhi ++ b1 entry.b ++ b1 entry.f)))) ∧
    (∀ onBreak onBobbin : Nat, (1 < onBreak ∨ 1 < onBobbin) →
      exec (.threadPolicy onBreak onBobbin) s = .next (s.replied 0xD1 [3])) ∧
    (∀ (p : BreakPolicy) (q : BobbinPolicy),
      exec (.threadPolicy p.code q.code) s =
        .next ({ s with thread := { s.thread with breakPolicy := p, bobbinPolicy := q } }.replied 0xD1
          (0 :: (b1 p.code ++ b1 q.code)))) ∧
    (∀ head : Nat,
      exec (.captureArm head) s = .next (
        if s.straps.heads < head then s.replied 0xD2 [3]
        else { s with thread := { s.thread with capture := head, slot := none, fresh := false, overrun := false } }.replied 0xD2
          (0 :: b1 head))) ∧
    exec .captureRead s =
      .next ({ s with thread := { s.thread with fresh := false, overrun := false } }.replied 0xD3 (0 :: (
        b1 s.thread.capture ++
        (match s.thread.slot with
          | some c => b2 c.count ++ b2 c.expected ++ b4 c.index ++ b1 c.needle ++ b1 c.verdict.code
          | none => List.replicate 10 0xFF) ++
        bFlag s.thread.fresh ++ bFlag s.thread.overrun)))

/-- R125 to R127, R129, R134: a feed pulse counts in an open window on an engaged head only; the verdict on a count; the
suspicion run that takes it; the window opens at its count with the engaged heads' counters at 0 and closes at its count,
where the heads are taken in turn, in ascending number (DESIGN CHOICE, log entry
48); at the close, the verdict of an engaged head whose tie-in is over with its capture.
R130 to R132, R144, R153, R154: a run that is long enough declares a break: its cause, HEAD_BREAK, the head BROKEN with its
record, and the planned stop that the policy, the last head or an empty pass asks for. -/
def Obligations.FeedPulsesAreCountedAndJudged : Prop :=
  (∀ (s : State) (h : Nat) (m : HeadMonitor), s.resetHeld = false → s.quiet = true → 1 ≤ h →
    s.thread.monitors[h - 1]? = some m →
    exec (.feedPulse h) s = .next (
      if s.thread.feedOpen = true ∧ (∃ d : Head, s.heads.table[h - 1]? = some d ∧ d.engaged = true) then
        { s with
          thread := { s.thread with
            monitors := s.thread.monitors.take (h - 1) ++ { m with count := min 65535 (m.count + 1) } :: s.thread.monitors.drop h } }
      else s)) ∧
  (∀ (p : NeedleProfile) (dx dy : Int) (count : Nat),
    let long := max dx.natAbs dy.natAbs
    let short := min dx.natAbs dy.natAbs
    let ex := p.base + p.k * (long + short / 2) / 64
    expectedCount p dx dy = ex ∧
    (verdictOf p dx dy count = .low ↔ 16 * (count + 1) ≤ ex * p.rlo) ∧
    (count < ex * p.rlo / 16 ∨ (verdictOf p dx dy count = .high ↔ ex * p.rhi < 16 * count)) ∧
    (verdictOf p dx dy count = .normal ↔ ex * p.rlo < 16 * (count + 1) ∧ 16 * count ≤ ex * p.rhi)) ∧
  (∀ (r : SuspicionRun) (v : Verdict) (index needle : Nat),
    (v = .normal → r.take v index needle = ⟨0, none, none, none⟩) ∧
    (∀ k : RunKind, ((v = .low ∧ k = .low) ∨ (v = .high ∧ k = .high)) →
      r.take v index needle =
        if 0 < r.length ∧ r.kind = some k then ⟨min 15 (r.length + 1), r.first, r.needle, some k⟩
        else ⟨1, some index, some needle, some k⟩)) ∧
  (∀ (s : State) (r : SewnRevolution) (d : Head) (m : HeadMonitor) (h : Nat), 1 ≤ h → s.heads.table[h - 1]? = some d →
    s.thread.monitors[h - 1]? = some m →
    let put := fun m' : HeadMonitor => s.thread.monitors.take (h - 1) ++ m' :: s.thread.monitors.drop h
    let v := verdictOf r.profile r.dx r.dy m.count
    let run := m.run.take v r.index r.needle
    let judged := d.engaged = true ∧ m.tieIn = 0 ∧ r.profile.monitor = true ∧ (r.dx ≠ 0 ∨ r.dy ≠ 0)
    (d.engaged = true → 0 < m.tieIn →
      s.closeHead r h = { s with thread := { s.thread with monitors := put { m with tieIn := m.tieIn - 1 } } }) ∧
    (¬(d.engaged = true ∧ 0 < m.tieIn) → ¬judged → s.closeHead r h = s) ∧
    (judged → (v = .normal ∨ run.length < r.profile.b) →
      s.closeHead r h = { s with
        thread :=
          if s.thread.capture = h then
            { s.thread with
              monitors := put { m with run := run }
              slot := some ⟨m.count, expectedCount r.profile r.dx r.dy, r.index, r.needle, v⟩
              overrun := s.thread.fresh || s.thread.overrun
              fresh := true }
          else { s.thread with monitors := put { m with run := run } } }) ∧
    (∀ (point needle : Nat) (kind : RunKind), judged → v ≠ .normal → r.profile.b ≤ run.length →
      run = ⟨run.length, some point, some needle, some kind⟩ → (s.player.state = .running ∨ s.player.state = .stopping) →
      let cause := if kind = .high then BreakCause.tangle else if d.bobbinLow then .bobbin else .break
      let told : State := { s with
        thread :=
          if s.thread.capture = h then
            { s.thread with
              monitors := put { m with run := ⟨0, none, none, none⟩ }
              slot := some ⟨m.count, expectedCount r.profile r.dx r.dy, r.index, r.needle, v⟩
              overrun := s.thread.fresh || s.thread.overrun
              fresh := true }
          else { s.thread with monitors := put { m with run := ⟨0, none, none, none⟩ } } }.latch .headBreak
            (b1 h ++ b1 cause.code ++ b4 point ++ b1 needle)
      let others := s.heads.repairs.filter fun x => x.head != h
      let table := fun d' : Head => s.heads.table.take (h - 1) ++ d' :: s.heads.table.drop h
      let stopped := fun (asked : Prop) [Decidable asked] (reason : StopReason) =>
        if asked then { s.player with
          state := .stopping, stopReason := some (s.player.stopReason.getD reason), soonStop := true }
        else s.player
      (∀ design : Nat, s.player.mode = .normal → d.condition = .ok → s.player.armed = some design →
        let repairs := insertRepair ⟨h, design, point, cause, needle, s.blockOf point⟩ others
        let none_left := ∀ x ∈ table { d with condition := .broken },
          ¬(x.enabled = true ∧ x.switch = true ∧ x.condition = Condition.ok)
        s.closeHead r h = { told with
          heads := { s.heads with table := table { d with condition := .broken }, repairs := repairs }
          store := { s.store with
            dir := s.store.dir.map fun (o : Option Design) => o.map fun (x : Design) =>
              if x.number = design then { x with repairPin := true } else x }
          player := stopped (none_left ∨ s.thread.breakPolicy = .stop) .breakStop }) ∧
      (∀ q : RepairRecord, s.player.mode = .repair → d.condition = .repairing → s.heads.repairOf h = some q →
        let broken : Head := { d with condition := .broken, role := .none, start := none }
        let empty := ∀ x ∈ table broken, x.role = Role.none
        s.closeHead r h = { told with
          heads := { s.heads with
            table := table broken
            repairs := insertRepair
              { q with point := point, needle := needle, block := s.blockOf point, cause := cause }
              (s.heads.repairs.filter fun x => x.head != q.head) }
          player :=
            if empty then stopped True .passEmpty
            else stopped (s.thread.breakPolicy = .stop) .breakStop }))) ∧
  (∀ (s : State) (elapsed : Nat) (r : SewnRevolution), s.resetHeld = false → s.quiet = true → s.shaft.state = .turning →
    s.gov.move = none → s.thread.rev = some r → r.kind = .stitch →
    let m := s.gov.active.motion
    let opens := if 300 ≤ m.e then m.e + 1 else 300
    let closes := min 780 (m.wOpen - 8)
    let counted : State := { s with
      shaft := { s.shaft with angle := s.shaft.angle + 1, still := false, stall := s.shaft.stall.map fun _ => 100 } }
    s.shaft.angle + 1 < m.wOpen → m.wOpen ≤ 1024 →
    (s.shaft.angle + 1 = opens →
      exec (.encoderCount true elapsed) s = .next { counted with
        thread := { s.thread with
          feedOpen := true
          monitors := (s.thread.monitors.zipIdx 0).map fun (p : HeadMonitor × Nat) =>
            if (s.heads.table[p.2]?.map Head.engaged) = some true then { p.1 with count := 0 } else p.1 } }) ∧
    (s.shaft.angle + 1 = closes → closes ≠ opens → s.thread.feedOpen = true →
      exec (.encoderCount true elapsed) s = .next (((List.range s.straps.heads).foldl (fun (u : State) (n : Nat) => u.closeHead r (n + 1))
        { counted with thread := { s.thread with feedOpen := false } }).settle)) ∧
    (s.shaft.angle + 1 ≠ opens → ¬(s.shaft.angle + 1 = closes ∧ s.thread.feedOpen = true) →
      exec (.encoderCount true elapsed) s = .next counted))

/-! ### Heads and repair passes (R138 to R160) -/

/-- R139, R158: HEADS_ON and HEADS_OFF change the enabled flags of the named heads together and reply with every head's;
REPAIR_SETUP stores the clamped overlap and the trim setting. The flags are sent as a head mask of two bytes (DEDUCED, log
entry 14). -/
def Obligations.HeadSettingsAreStored : Prop :=
  ∀ (s : State) (mask : Nat), s.ready = true → s.heads.table.length ≤ 12 →
    let changed := fun on : Bool => (s.heads.table.zipIdx 0).map fun (p : Head × Nat) =>
      if mask.testBit p.2 then { p.1 with enabled := on } else p.1
    let shows := fun (m : Nat) (table : List Head) =>
      m < 2 ^ table.length ∧ ∀ (i : Nat) (d : Head), table[i]? = some d → m.testBit i = d.enabled
    (2 ^ s.straps.heads ≤ mask →
      exec (.headsOn mask) s = .next (s.replied 0xD8 [3]) ∧ exec (.headsOff mask) s = .next (s.replied 0xD9 [3])) ∧
    (mask < 2 ^ s.straps.heads →
      (∃ m : Nat, shows m (changed true) ∧
        exec (.headsOn mask) s =
          .next ({ s with heads := { s.heads with table := changed true } }.replied 0xD8 (0 :: b2 m))) ∧
      (∃ m : Nat, shows m (changed false) ∧
        exec (.headsOff mask) s =
          .next ({ s with heads := { s.heads with table := changed false } }.replied 0xD9 (0 :: b2 m)))) ∧
    (∀ overlap trim : Nat,
      exec (.repairSetup overlap trim) s = .next (
        if 1 < trim then s.replied 0xDD [3]
        else { s with heads := { s.heads with overlap := min 15 overlap, trimOn := decide (trim = 1) } }.replied 0xDD
          (0 :: (b1 (min 15 overlap) ++ b1 trim))))

/-- R145: REPAIR_CANCEL: its refusals in their order; it removes the records of the named heads and makes these heads
OK, and the armed design's pin follows the records that are left. The reply is a head mask of two bytes (DEDUCED, log
entry 14). -/
def Obligations.RepairCancelRemovesRecords : Prop :=
  ∀ (s : State) (mask : Nat), s.ready = true → s.heads.table.length = s.straps.heads →
    let answer := exec (.repairCancel mask) s
    let named := fun h : Nat => mask = 0 ∨ mask.testBit (h - 1) = true
    let gone := fun h : Nat => named h ∧ ∃ r ∈ s.heads.repairs, r.head = h
    let held := s.player.mode = .repair ∨ (∃ d ∈ s.heads.table, d.role ≠ .none) ∨ s.player.stopReason = some .repair
    (2 ^ s.straps.heads ≤ mask → answer = .next (s.replied 0xDC [3])) ∧
    (mask < 2 ^ s.straps.heads → held → answer = .next (s.replied 0xDC [4])) ∧
    (mask < 2 ^ s.straps.heads → ¬held → (∀ r ∈ s.heads.repairs, ¬named r.head) → answer = .next (s.replied 0xDC [8])) ∧
    (mask < 2 ^ s.straps.heads → ¬held → (∃ r ∈ s.heads.repairs, named r.head) →
      ∃ (table : List Head) (store : Store) (m : Nat),
        answer = .next ({ s with
          heads := { s.heads with table := table, repairs := s.heads.repairs.filter fun r => decide (¬named r.head) }
          store := store }.replied 0xDC (0 :: b2 m)) ∧
        table.length = s.heads.table.length ∧
        (∀ (i : Nat) (d : Head), s.heads.table[i]? = some d → ¬gone (i + 1) → table[i]? = some d) ∧
        (∀ (i : Nat) (d : Head), s.heads.table[i]? = some d → gone (i + 1) →
          ∃ d' : Head, table[i]? = some d' ∧ d' = { d with condition := .ok, start := d'.start }) ∧
        (∀ i : Nat, i < s.straps.heads → (m.testBit i = true ↔ gone (i + 1))) ∧ m < 2 ^ s.straps.heads ∧
        store = { s.store with
          dir := s.store.dir.map fun (o : Option Design) => o.map fun (x : Design) =>
            if s.player.armed = some x.number then
              { x with repairPin := decide (∃ r ∈ s.heads.repairs, ¬named r.head ∧ r.design = x.number) }
            else x })

/-- R146 to R149: REPAIR: its refusals in their order; in RUNNING a planned stop with the reason REPAIR; in PAUSED and
FINISHED the pass set up at once: its end H, the start points, the roles and the saved reason, and then either the entry
trim, or the pass proper from the lowest start point with its return move. What becomes possible at once is begun after
the reply is placed, and the player is RETURNING from the pass's beginning on (DEDUCED, log entries 12, 13 and 22). The trim
is entered with a turn request and no hold request before it (DEDUCED, log entry 55). -/
def Obligations.RepairBeginsAPass : Prop :=
  ∀ (s : State) (mask : Nat), s.ready = true →
    let answer := exec (.repair mask) s
    let refused := fun code : Byte => answer = .next (s.replied 0xDA [code])
    let selected := s.heads.repairs.filter fun r => decide (mask = 0 ∨ mask.testBit (r.head - 1) = true)
    let inPass := s.player.mode = .repair ∨ ∃ d ∈ s.heads.table, d.role ≠ .none
    let rests := s.player.state = .finished ∨ ∃ r : PauseReason, s.player.state = .paused r
    let stopped := s.ev.estop = some false ∨ s.shaft.state = .fault ∨ s.shaft.state = .braking
    let fit := mask < 2 ^ s.straps.heads ∧ ¬inPass ∧ (rests ∨ s.player.state = .running) ∧ ¬stopped ∧ selected ≠ [] ∧
      s.frame.known = true ∧ s.frame.owner ≠ .positioner
    (2 ^ s.straps.heads ≤ mask → refused 3) ∧
    (mask < 2 ^ s.straps.heads → inPass → refused 5) ∧
    (mask < 2 ^ s.straps.heads → ¬inPass → ((¬rests ∧ s.player.state ≠ .running) ∨ stopped) → refused 4) ∧
    (mask < 2 ^ s.straps.heads → ¬inPass → (rests ∨ s.player.state = .running) → ¬stopped → selected = [] → refused 8) ∧
    (mask < 2 ^ s.straps.heads → ¬inPass → (rests ∨ s.player.state = .running) → ¬stopped → selected ≠ [] →
      s.frame.known = false → refused 14) ∧
    (mask < 2 ^ s.straps.heads → ¬inPass → (rests ∨ s.player.state = .running) → ¬stopped → selected ≠ [] →
      s.frame.known = true → s.frame.owner = .positioner → refused 5) ∧
    (fit → s.player.state = .running → s.player.stopReason = none →
      answer = .next ({ s with
        heads := { s.heads with selection := some mask }
        player := { s.player with state := .stopping, stopReason := some .repair, soonStop := true } }.replied 0xDA [0])) ∧
    (∀ (d : Design) (saved : SavedReason) (p0 : Nat), fit → s.armedDesign = some d →
      ((s.player.state = .finished ∧ saved = .finished) ∨
        ∃ r : PauseReason, s.player.state = .paused r ∧ saved = .paused r) →
      let start := fun r : RepairRecord => max (r.point - s.heads.overlap) ((s.store.firstOfBlock d r.block).getD 0)
      let hEnd := if s.heads.leftPass then s.player.resume else s.player.cursor
      let heads : Heads := { s.heads with
        selection := some mask, passEnd := some hEnd, passStart := some p0
        table := (s.heads.table.zipIdx 1).map fun (p : Head × Nat) =>
          match selected.find? fun r => r.head == p.2 with
          | some r => { p.1 with role := .waiting, start := some (start r) }
          | none => p.1 }
      let player : Player := { s.player with
        resume := hEnd, saved := saved, stopReason := none, stopIndex := none, soonStop := false, positionAsked := false
        errand := .none, entryTrim := .none }
      let taken : State := { s with
        frame := { s.frame with owner := .player, lent := false, after := .keep }
        outs := s.outs.allAuto
        link := { s.link with taking := true } }
      let trimDue := s.heads.trimOn = true ∧ (s.heads.lastKind = some .stitch ∨ s.heads.lastKind = some .jump)
      (∃ r ∈ selected, start r = p0) → (∀ r ∈ selected, p0 ≤ start r) →
      (trimDue →
        answer = .next (({ taken with
          heads := heads
          player := { player with state := .stopping, entryTrim := .asked } }.prefetch.turnRequest).replied 0xDA [0]).settle) ∧
      (¬trimDue →
        answer = .next ((({ taken with
          heads := { heads with leftPass := false }
          player := { player with
            state := .returning, mode := .repair, cursor := p0, displaced := true
            errand := .returnWait .pass } }.refill.holdRequest).replied 0xDA [0]).settle)))

/-- R156, R143, R29, R129: REPAIR_END, refused but in PAUSED with a REPAIR pass: the player goes back to the NORMAL
pass, its cursor and resume cursor kept, with displaced and the left-pass flag set and the queue filled anew from the
cursor; every ACTIVE head becomes BROKEN with its record, which is kept, at the cursor and its suspicion run clear,
every role NONE, and no other head's condition or record changes. The reply is a head mask of two bytes (DEDUCED, log
entry 14). -/
def Obligations.RepairEndLeavesThePass : Prop :=
  ∀ s : State, s.ready = true →
    ((s.player.mode = .normal ∨ ∀ r : PauseReason, s.player.state ≠ .paused r) →
      exec .repairEnd s = .next (s.replied 0xDB [4])) ∧
    (∀ r : PauseReason, s.player.state = .paused r → s.player.mode = .repair →
      ∃ (t : State) (m : Nat), exec .repairEnd s = .next (t.replied 0xDB (0 :: b2 m)) ∧
        t.player = { s.player with
          mode := .normal, displaced := true
          queue := { s with player := { s.player with queue := [] } }.prefetch.player.queue } ∧
        (∀ (j : Nat) (e : QueueEntry), t.player.queue[j]? = some e →
          e.index = s.player.cursor + j ∧ e.block = s.blockOf e.index ∧
          ∃ x : Record, s.recordOf (s.player.cursor + j) = some x ∧ e.kind = x.kind ∧ e.dx = x.dx ∧ e.dy = x.dy) ∧
        (t.player.queue.length = 32 ∨ (∃ e : QueueEntry, t.player.queue.getLast? = some e ∧ e.kind = .endRec) ∨
          s.recordOf (s.player.cursor + t.player.queue.length) = none) ∧
        t.heads = { s.heads with
          table := t.heads.table, repairs := t.heads.repairs, leftPass := true, selection := none, passEnd := none
          passStart := none } ∧
        t.store = s.store ∧ t.frame = s.frame ∧ t.shaft = s.shaft ∧ t.nc = s.nc ∧ t.ev = s.ev ∧ t.outs = s.outs ∧
        t.gov = s.gov ∧ t.straps = s.straps ∧ t.pending = s.pending ∧
        m < 2 ^ s.heads.table.length ∧
        (∀ (i : Nat) (d : Head), s.heads.table[i]? = some d →
          (m.testBit i = true ↔ d.role = .active) ∧
          ∃ d' : Head, t.heads.table[i]? = some d' ∧ d'.role = .none ∧ d'.start = none ∧
            d' = { d with condition := d'.condition, role := .none, start := none } ∧
            (d.role ≠ .active → d'.condition = d.condition) ∧
            ∀ q : RepairRecord, (∀ x ∈ s.heads.repairs, x.head = i + 1 ↔ x = q) → q ∈ s.heads.repairs → d.role = .active →
              let record : RepairRecord := { q with
                point := s.player.cursor, block := s.blockOf s.player.cursor
                needle := (s.player.history.getD (s.blockOf s.player.cursor) none).getD q.needle }
              d'.condition = .broken ∧ record ∈ t.heads.repairs ∧ (∀ x ∈ t.heads.repairs, x.head = i + 1 → x = record) ∧
              ∀ n : HeadMonitor, s.thread.monitors[i]? = some n →
                t.thread.monitors[i]? = some { n with run := ⟨0, none, none, none⟩ }) ∧
        (∀ x ∈ s.heads.repairs, (∀ d : Head, 1 ≤ x.head → s.heads.table[x.head - 1]? = some d → d.role ≠ .active) →
          x ∈ t.heads.repairs) ∧
        ((s.heads.repairs.map RepairRecord.head).Nodup → t.heads.repairs.length = s.heads.repairs.length) ∧
        t.thread = { s.thread with monitors := t.thread.monitors } ∧
        ∀ (i : Nat) (n : HeadMonitor), s.thread.monitors[i]? = some n →
          ∃ n' : HeadMonitor, t.thread.monitors[i]? = some n' ∧ n' = { n with run := n'.run } ∧
            ((∀ d : Head, s.heads.table[i]? = some d → d.role ≠ .active) → n' = n))

/-! ### Inputs (R161 to R167) -/

/-- R164, R165, R163, R133, R166: SET_INPUT: its refusals; an accepted one stores the three fields, clears the latch and
arms the input, and a level mode that finds it active latches it again at once, a BOBBIN input with its flag and, under
the policy STOP, with the planned stop of an enabled head (R133). A mode that changes the input's active state is a
change of it for its machine function: a switch follows, START_BTN and STOP_BTN act as at a press (R31, R32, R36), and a
LIMIT input made active is an axis fault. INPUT_CLEAR clears and arms every named input; one that stands active in a
level mode latches again, and the reply holds the 32 latches. A latch that a level mode sets again disarms the input
(DEDUCED, log entry 31). What a press begins is begun after the reply is placed (DEDUCED, log entries 12 and 13), and
the player waits in CHANGING or RETURNING from then on (DEDUCED, log entries 21 and 22). -/
def Obligations.SetInputAndInputClear : Prop :=
  (∀ (s : State) (input mode filter report : Nat), s.ready = true →
    let answer := exec (.setInput input mode filter report) s
    (31 < input ∨ 4 < mode ∨ 1 < report → answer = .next (s.replied 0x86 [3])) ∧
    (∀ m : InputMode, input ≤ 31 → report ≤ 1 → m.code = mode →
      (26 ≤ input → (s.frame.move.isSome = true ∨ s.gov.move.isSome = true) → answer = .next (s.replied 0x86 [5])) ∧
      (∀ i : Input, (input < 26 ∨ (s.frame.move = none ∧ s.gov.move = none)) → s.ev.inputs[input]? = some i →
        let f := min 31 filter
        let high := m = .levelHigh ∨ m = .rising ∨ m = .both
        let active := i.level = some (decide high)
        let relatches := active ∧ (m = .levelHigh ∨ m = .levelLow)
        let held : Input := { i with mode := m, filter := f, report := decide (report = 1), latch := decide relatches, armed := decide ¬relatches }
        let base : State := { s with
          ev := { s.ev with inputs := s.ev.inputs.take input ++ held :: s.ev.inputs.drop (input + 1) }
          heads := { s.heads with
            table := (s.heads.table.zipIdx 0).map fun (p : Head × Nat) =>
              if p.2 = input ∧ input < 12 then { p.1 with bobbinLow := false } else p.1 }
          link := { s.link with taking := true } }
        let latched : State :=
          if relatches ∧ report = 1 then base.latch .input [BitVec.ofNat 8 input, if high then 1 else 0] else base
        let done := fun u : State =>
          answer = .next (u.replied 0x86 [0, BitVec.ofNat 8 mode, BitVec.ofNat 8 f, BitVec.ofNat 8 report])
        let homing := ∃ (a : Axis) (stage : HomeStage), s.frame.move = some (.homing a stage)
        let wakes := s.ev.estop ≠ some false ∧ s.shaft.state ≠ .fault ∧ s.shaft.state ≠ .braking ∧ s.frame.known = true ∧
          s.frame.owner ≠ .positioner
        let sews := s.player.mode = .normal ∨ ∃ h ∈ s.heads.table, h.role ≠ .none
        ((i.isActive = true ↔ active) → (¬relatches → done base) ∧ (relatches → 12 ≤ input → done latched)) ∧
        (relatches → input < 12 → ¬homing →
          (s.heads.table.length ≤ input → done latched) ∧
          (∀ d : Head, s.heads.table[input]? = some d →
            let low : State := { latched with
              heads := { s.heads with
                table := (s.heads.table.zipIdx 0).map fun (p : Head × Nat) =>
                  if p.2 = input then { p.1 with bobbinLow := true } else p.1 } }.latch .bobbinLow
                    [BitVec.ofNat 8 (input + 1)]
            ((s.thread.bobbinPolicy = .notify ∨ d.enabled = false) → done low) ∧
            (s.thread.bobbinPolicy = .stop → d.enabled = true → low.StopsSoon .bobbinStop .bobbinStop done))) ∧
        (¬(i.isActive = true ↔ active) → ¬homing →
          (input < 12 → ¬relatches → done base) ∧
          (12 ≤ input → input < 24 →
            done { latched with
              heads := { s.heads with
                table := (s.heads.table.zipIdx 12).map fun (p : Head × Nat) =>
                  if p.2 = input then { p.1 with switch := decide active } else p.1 } }) ∧
          (24 ≤ input → (¬active ∨ 30 ≤ input) → done latched) ∧
          (input = 24 → active → s.player.state ≠ .armed → (∀ r : PauseReason, s.player.state ≠ .paused r) →
            done latched) ∧
          (input = 24 → active → s.player.state = .armed → wakes → s.nc.state ≠ .fault →
            answer = .next (({ latched with
              frame := { s.frame with owner := .player, lent := false, after := .keep }
              outs := s.outs.allAuto
              player :=
                if s.player.displaced then { s.player with state := .returning, errand := .returnWait .start }
                else { s.player with state := .changing, errand := .changeWait .start 0 } }.holdRequest).replied 0x86
                  [0, BitVec.ofNat 8 mode, BitVec.ofNat 8 f, BitVec.ofNat 8 report]).settle) ∧
          (input = 24 → active → ¬(s.player.state = .armed ∧ wakes ∧ s.nc.state ≠ .fault) →
            ¬((∃ r : PauseReason, s.player.state = .paused r) ∧ wakes ∧ sews) → done latched) ∧
          (∀ r : PauseReason, input = 24 → active → s.player.state = .paused r → wakes → sews →
            answer = .next (({ latched with
              frame := { s.frame with owner := .player, lent := false, after := .keep }
              outs := s.outs.allAuto
              heads := { s.heads with leftPass := false }
              player :=
                let p := { s.player with cursor := if s.heads.leftPass then s.player.resume else s.player.cursor }
                if s.player.displaced then { p with state := .returning, errand := .returnWait .resume }
                else { p with state := .changing, errand := .changeWait .resume 0 } }.holdRequest).replied 0x86
                  [0, BitVec.ofNat 8 mode, BitVec.ofNat 8 f, BitVec.ofNat 8 report]).settle) ∧
          (input = 25 → active → latched.StopsSoon .buttonStop .buttonStop done) ∧
          (26 ≤ input → input ≤ 29 → active → s.player.errand = .none → s.nc.kept = none →
            ∃ t : State, answer = .next t ∧ t.frame.known = false ∧ t.ev.flags &&& Event.axisFault.bit ≠ 0 ∧
              t.frame.x = s.frame.x ∧ t.frame.y = s.frame.y ∧
              t.link.reply = some ⟨0x86, [0, BitVec.ofNat 8 mode, BitVec.ofNat 8 f, BitVec.ofNat 8 report]⟩ ∧
              (s.frame.owner = .player → s.player.state = .running → t.player.state = .halted .axis)))))) ∧
  (∀ (s : State) (mask : Nat), s.ready = true → s.ev.inputs.length = 32 →
    let still := fun i : Input => (i.mode = .levelHigh ∧ i.level = some true) ∨ (i.mode = .levelLow ∧ i.level = some false)
    ∃ (t : State) (m : Nat), exec (.inputClear mask) s = .next (t.replied 0x87 (0 :: b4 m)) ∧ m < 2 ^ 32 ∧
      (∀ (n : Nat) (i : Input), s.ev.inputs[n]? = some i →
        t.ev.inputs[n]? = some (
          if mask.testBit n then { i with latch := decide (still i), armed := decide ¬still i } else i) ∧
        m.testBit n = (if mask.testBit n then decide (still i) else i.latch)) ∧
      t.ev.subscribed = s.ev.subscribed ∧ t.shaft = s.shaft ∧ t.nc = s.nc ∧ t.straps = s.straps ∧
      (∀ (n : Nat) (d : Head), s.heads.table[n]? = some d →
        t.heads.table[n]? = some { d with
          bobbinLow :=
            if n < 12 ∧ mask.testBit n = true then decide (∃ i : Input, s.ev.inputs[n]? = some i ∧ still i)
            else d.bobbinLow }) ∧
      (∀ (n : Nat) (i : Input) (d : Head), n < 12 → mask.testBit n = true → s.ev.inputs[n]? = some i → still i →
        s.heads.table[n]? = some d → t.ev.flags &&& Event.bobbinLow.bit ≠ 0) ∧
      (∀ (n : Nat) (i : Input) (d : Head), n < 12 → mask = 2 ^ n → s.ev.inputs[n]? = some i → still i →
        s.heads.table[n]? = some d →
        let base : State := { s with
          ev := { s.ev with inputs := t.ev.inputs }
          link := { s.link with taking := true } }
        let latched : State :=
          if i.report then base.latch .input [BitVec.ofNat 8 n, if i.mode = .levelHigh then 1 else 0] else base
        let low : State := { latched with
          heads := { s.heads with
            table := (s.heads.table.zipIdx 0).map fun (p : Head × Nat) =>
              if p.2 = n then { p.1 with bobbinLow := true } else p.1 } }.latch .bobbinLow [BitVec.ofNat 8 (n + 1)]
        let done := fun u : State => exec (.inputClear mask) s = .next (u.replied 0x87 (0 :: b4 m))
        ((s.thread.bobbinPolicy = .notify ∨ d.enabled = false) → done low) ∧
        (s.thread.bobbinPolicy = .stop → d.enabled = true → low.StopsSoon .bobbinStop .bobbinStop done)) ∧
      ((∀ (n : Nat) (i : Input), s.ev.inputs[n]? = some i → mask.testBit n = true → ¬still i) →
        t = { s with
          ev := { s.ev with inputs := t.ev.inputs }
          heads := { s.heads with
            table := (s.heads.table.zipIdx 0).map fun (p : Head × Nat) =>
              if p.2 < 12 ∧ mask.testBit p.2 then { p.1 with bobbinLow := false } else p.1 }
          link := { s.link with taking := t.link.taking } }))

/-- R162, R163, R166, R133, R140, R88, R36: a raw line that changes is not yet taken; a level that has settled is: the
first one after a reset is no edge; an armed edge latches and disarms; a bobbin's latch marks its head and, under the
policy STOP, asks for the planned stop of an enabled head in every player state; a switch follows its input; a press of
the stop button stops as STOP does in every player state and one of the start button acts as START in ARMED and as
RESUME in PAUSED, where they would be accepted, and is ignored elsewhere; a HOME input's change ends the search or the
clearing of its axis's homing (R99), a first level included (DEDUCED, log entry 52); a LIMIT input that becomes active
is an axis fault. INPUT latches before the input's machine function acts, and a latch disarms in every mode (DEDUCED,
log entry 31). What a press of the start button makes possible is begun at once (DEDUCED, log entries 12 and 13), and
the player waits in CHANGING or RETURNING from then on (DEDUCED, log entries 21 and 22). -/
def Obligations.InputLinesAreFilteredAndTaken : Prop :=
  ∀ (s : State) (n : Nat) (i : Input), s.resetHeld = false → s.quiet = true → s.ev.inputs.length = 32 →
    s.ev.inputs[n]? = some i →
    let put := fun j : Input => s.ev.inputs.take n ++ j :: s.ev.inputs.drop (n + 1)
    let settled := exec (.inputFilterSettled n) s
    (∀ high : Bool,
      ((0 < i.filter ∨ i.level = some high) →
        exec (.inputLineChange n high) s = .next { s with ev := { s.ev with inputs := put { i with raw := high } } }) ∧
      (i.filter = 0 → i.level ≠ some high →
        exec (.inputLineChange n high) s =
          exec (.inputFilterSettled n) { s with ev := { s.ev with inputs := put { i with raw := high } } }) ∧
      exec (.inputLineChange 32 high) s = .next { s with ev := { s.ev with estopRaw := high } }) ∧
    (i.level = some i.raw → settled = .next s) ∧
    (i.level = none → (i.mode = .rising ∨ i.mode = .falling ∨ i.mode = .both) → 24 ≤ n → s.frame.move = none →
      settled = .next { s with ev := { s.ev with inputs := put { i with level := some i.raw } } }) ∧
    (∀ d : Head, n < 12 → s.heads.table[n]? = some d → i.level = some (!i.raw) → i.armed = true → i.report = false →
      ((i.mode = .falling ∧ i.raw = false) ∨ (i.mode = .rising ∧ i.raw = true) ∨ i.mode = .both) → s.frame.move = none →
      let low : State := { s with
        ev := { s.ev with inputs := put { i with level := some i.raw, latch := true, armed := false } }
        heads := { s.heads with
          table := s.heads.table.take n ++ { d with bobbinLow := true } :: s.heads.table.drop (n + 1) } }.latch .bobbinLow
            [BitVec.ofNat 8 (n + 1)]
      ((s.thread.bobbinPolicy = .notify ∨ d.enabled = false) → settled = .next low) ∧
      (s.thread.bobbinPolicy = .stop → d.enabled = true →
        low.StopsSoon .bobbinStop .bobbinStop fun u => settled = .next u)) ∧
    (∀ d : Head, 12 ≤ n → n < 24 → s.heads.table[n - 12]? = some d → i.level = some (!i.raw) → i.mode = .levelHigh →
      (i.raw = true → i.latch = true) → s.frame.move = none →
      settled = .next { s with
        ev := { s.ev with inputs := put { i with level := some i.raw } }
        heads := { s.heads with
          table := s.heads.table.take (n - 12) ++ { d with switch := i.raw } :: s.heads.table.drop (n - 11) } }) ∧
    (n = 25 → i.level = some true → i.raw = false → i.mode = .falling → i.armed = true → i.report = false →
      s.frame.move = none → s.player.state = .running → s.player.stopReason = none →
      settled = .next { s with
        ev := { s.ev with inputs := put { i with level := some false, latch := true, armed := false } }
        player := { s.player with state := .stopping, stopReason := some .buttonStop, soonStop := true } }) ∧
    ((n = 24 ∨ n = 25) → i.level = some true → i.raw = false → i.mode = .falling → i.armed = true → i.report = false →
      s.frame.move = none →
      let pressed : State := { s with ev := { s.ev with inputs := put { i with level := some false, latch := true, armed := false } } }
      let wakes := s.ev.estop ≠ some false ∧ s.shaft.state ≠ .fault ∧ s.shaft.state ≠ .braking ∧ s.frame.known = true ∧
        s.frame.owner ≠ .positioner
      let sews := s.player.mode = .normal ∨ ∃ h ∈ s.heads.table, h.role ≠ .none
      (n = 24 → ¬(s.player.state = .armed ∧ wakes ∧ s.nc.state ≠ .fault) →
        ¬((∃ r : PauseReason, s.player.state = .paused r) ∧ wakes ∧ sews) → settled = .next pressed) ∧
      (n = 24 → s.player.state = .armed → wakes → s.nc.state ≠ .fault →
        settled = .next ({ pressed with
          frame := { s.frame with owner := .player, lent := false, after := .keep }
          outs := s.outs.allAuto
          player :=
            if s.player.displaced then { s.player with state := .returning, errand := .returnWait .start }
            else { s.player with state := .changing, errand := .changeWait .start 0 } }.holdRequest).settle) ∧
      (∀ r : PauseReason, n = 24 → s.player.state = .paused r → wakes → sews →
        settled = .next ({ pressed with
          frame := { s.frame with owner := .player, lent := false, after := .keep }
          outs := s.outs.allAuto
          heads := { s.heads with leftPass := false }
          player :=
            let p := { s.player with cursor := if s.heads.leftPass then s.player.resume else s.player.cursor }
            if s.player.displaced then { p with state := .returning, errand := .returnWait .resume }
            else { p with state := .changing, errand := .changeWait .resume 0 } }.holdRequest).settle) ∧
      (n = 25 → pressed.StopsSoon .buttonStop .buttonStop fun u => settled = .next u)) ∧
    (∀ (a : Axis) (stage : HomeStage), n = (match a with | .x => 30 | .y => 31) → s.frame.move = some (.homing a stage) →
      i.mode = .levelLow → i.report = false → (i.level = none ∨ i.level = some (!i.raw)) →
      settled = .next { s with
        ev := { s.ev with
          inputs := put { i with level := some i.raw, latch := i.latch || !i.raw, armed := i.armed && (i.latch || i.raw) } }
        frame := { s.frame with
          move := some (.homing a (match stage with
            | .clear k => if i.raw then .clearMore 0 else .clear k
            | .clearMore k => .clearMore k
            | .search k => if i.raw then .search k else .backOff 0
            | .backOff k => .backOff k)) } }) ∧
    (26 ≤ n → n ≤ 29 → i.level = some true → i.raw = false → (i.mode = .falling ∨ i.mode = .levelLow) →
      s.player.errand = .none → s.nc.kept = none →
      ∃ t : State, settled = .next t ∧ t.frame.known = false ∧ t.frame.move = none ∧ t.gov.move = none ∧
        t.ev.flags &&& Event.axisFault.bit ≠ 0 ∧ t.frame.x = s.frame.x ∧ t.frame.y = s.frame.y ∧
        (s.frame.owner = .player → s.player.state = .running → t.player.state = .halted .axis))

/-- R167, R42, R69, R79, R83, R93, R111: an assertion of the E-STOP line latches ESTOP, holds every needle bar, stops the
frame at once, brakes the shaft, ends a case move and halts the player, but in IDLE; a line already asserted does not
latch again. A release latches nothing. A shaft that is still already when it is braked goes to OFF at once (DEDUCED, log
entry 15); an assertion while the line is asserted is the model's reading (log entry 33). -/
def Obligations.EstopLineStopsEverything : Prop :=
  ∀ s : State, s.resetHeld = false → s.quiet = true →
    (s.ev.estop = some false →
      exec .estopAssertion s = .next { s with ev := { s.ev with estopRaw := false } }) ∧
    exec .estopRelease s = .next { s with ev := { s.ev with estopRaw := true, estop := some true } } ∧
    (s.ev.estop ≠ some false →
      (s.player.errand = .none ∨ (s.player.state ≠ .idle ∧ ∀ c : HaltCause, s.player.state ≠ .halted c)) →
      ∃ t : State, exec .estopAssertion s = .next t ∧ t.ev.estop = some false ∧ t.ev.estopRaw = false ∧
        t.ev.flags &&& Event.estop.bit ≠ 0 ∧ t.ev.inputs = s.ev.inputs ∧ t.ev.subscribed = s.ev.subscribed ∧
        (∀ (h : Nat) (o : Output), s.outs.hold[h]? = some o → t.holdValue (h + 1) = some true) ∧
        t.frame.move = none ∧ t.gov.move = none ∧ t.frame.x = s.frame.x ∧ t.frame.y = s.frame.y ∧
        t.frame.known = (s.frame.known && s.gov.move.isNone && !(s.frame.move.map FrameMove.losesSteps).getD false) ∧
        t.nc.kept = none ∧ t.nc.state ≠ .moving ∧ t.nc.state ≠ .settling ∧
        t.shaft.state = (match s.shaft.state with
          | .turning => if s.shaft.still then .off else .braking
          | .positioning => if s.shaft.still then .off else .braking
          | .held => .off
          | .offPosition => .off
          | .off => .off
          | .braking => .braking
          | .fault => ShaftState.fault) ∧
        t.shaft.keptHold = false ∧ t.shaft.keptTurn = false ∧
        (s.player.state = .idle → t.player = s.player) ∧
        (∀ c : HaltCause, s.player.state = .halted c → t.player = { s.player with recovering := false }) ∧
        (s.player.state ≠ .idle → (∀ c : HaltCause, s.player.state ≠ .halted c) →
          t.player.state = .halted .estop ∧ t.outs.kill = true ∧ t.player.cursor = s.player.cursor ∧
          t.player.queue = [] ∧ t.ev.flags &&& Event.playerState.bit ≠ 0) ∧
        t.store = s.store ∧ t.straps = s.straps ∧ t.pending = s.pending)

/-! ### Resets (R21, R45, R64, R78, R86, R104, R121, R137, R160, R171, R181 to R184) -/

/-- R183: a power-on reset samples the straps and every block takes its power-on values; R182: the RESET line gives the
same values with the straps kept and the cause LINE. The serial RAM, the levels of the machine's lines and the waiting
commands are the machine's and the model's own and stay. That they stay is the model's choice (log entries 1, 2, 8 and
34), and so are the values of the four fields that no rule gives a reset value (log entry 17). -/
def Obligations.ResetsGiveEveryBlockItsValues : Prop :=
  ∀ (s : State) (headPins needlePins ratePins : Nat), headPins < 16 → needlePins < 16 → ratePins < 4 →
    let after := fun (straps : Straps) (cause : ResetCause) (held : Bool) =>
      let code := if 1 ≤ s.nc.raw ∧ s.nc.raw ≤ straps.needles then s.nc.raw else 0
      let set : MotionSet := ⟨⟨250, 790, 10, 16, 960, 16000, 1200, 200, 80, 40, 80, 200, 1000⟩,
        [0, 4, 12, 24, 40, 60, 82, 106, 128, 150, 174, 196, 216, 232, 244, 252, 256]⟩
      ({ pending := s.pending, straps := straps, resetHeld := held, choices := s.choices
         store := { dir := List.replicate 8 none, free := List.range 2048, ram := s.store.ram }
         player :=
           { state := .idle, armed := none, origin := none, mode := .normal, cursor := 0, resume := 0
             saved := .paused .hostStop, active := none, interrupted := none, stopReason := none, stopIndex := none
             soonStop := false, positionAsked := false, displaced := false, keepFrame := false
             history := List.replicate 256 none, preselect := none, queue := [], starvedMark := 0, recovering := false
             errand := .none, entryTrim := .none }
         gov := { active := set, pending := set, pendingFlag := false, sCmd := 1200, cPrev := 0, move := none }
         shaft :=
           { state := .off, angle := 0, refValid := false, sMeas := 0, indexForward := false, demand := 0, phase := .creep
             retry := 0, extra := 0, cause := none, still := s.shaft.still, faultStill := false, toOff := false
             keptHold := false, keptTurn := false, stall := none, runUp := false, driveReady := s.shaft.driveReady }
         outs :=
           { hold := List.replicate straps.heads ⟨.auto, .activeHigh⟩, trim := List.replicate straps.heads ⟨.auto, .activeHigh⟩
             holder := ⟨.auto, .activeHigh⟩, kill := false, killUntilOff := false, holderCount := 0, holderArmed := false }
         frame :=
           { x := 0, y := 0, known := false, owner := .none, lent := false, move := none, after := .keep
             hoops := List.replicate 8 ⟨-6000, 6000, -2500, 2500⟩, hoop := 0
             settings := ⟨false, false, -6000, -2500, 0, 2500, 12000⟩
             readyX := s.frame.readyX, readyY := s.frame.readyY }
         nc :=
           { state := .idle, raw := s.nc.raw, code := s.nc.raw, pos := code
             lastSeen := if code = 0 then none else some code, job := none, dirUp := none, overshoot := 0, timer := 0
             settle := 0, kept := none, cause := none }
         thread :=
           { profiles := List.replicate 15 ⟨true, 6, 40, 6, 40, 4, 3⟩, breakPolicy := .exclude, bobbinPolicy := .notify
             monitors := List.replicate straps.heads ⟨0, ⟨0, none, none, none⟩, 0⟩, capture := 0, slot := none, fresh := false
             overrun := false, rev := none, feedOpen := false }
         heads :=
           { table := List.replicate straps.heads ⟨true, false, .ok, .none, none, false, false⟩, repairs := []
             selection := none, passEnd := none, passStart := none, lastKind := none, leftPass := false, overlap := 2
             trimOn := true }
         ev :=
           { inputs := (List.range 32).map fun n =>
               { mode := if n < 12 then .falling else if n < 24 then .levelHigh else if n < 26 then .falling else .levelLow
                 filter := 5, report := false, raw := (s.ev.inputs.map Input.raw).getD n false, level := none, latch := false
                 armed := true }
             estopRaw := s.ev.estopRaw, estop := none, flags := 0, subscribed := 0, cause := cause }
         link := { receiver := .hunt, requests := [], reply := none, notices := [], transmitter := .idle, taking := false } } :
        State)
    exec (.powerOnReset headPins needlePins ratePins) s =
      .next (after
        { heads := if headPins = 0 ∨ 12 < headPins then 12 else headPins
          needles := if needlePins = 0 then 15 else needlePins
          baud := [460800, 921600, 1843200, 3000000].getD ratePins 0 } .power s.resetHeld) ∧
    exec .resetAssert s = .next (after s.straps .line true) ∧
    exec .resetRelease s = .next (after s.straps .line false)

/-- The model's state after reset keeps the form of its parts: a sound store with nothing in it, empty queues, no chain,
no command waiting, and nothing that waits to begin. The strap pins are the model's choice (log entry 1). -/
def Obligations.ResetStateIsSound : Prop :=
  State.reset.store.Sound ∧ State.reset.InForm ∧ State.reset.store.designs = [] ∧ State.reset.pending = [] ∧
    State.reset.ready = true ∧ State.reset.resetHeld = false ∧ State.reset.straps = ⟨12, 15, 460800⟩

/-- R182: while RESET is asserted only a reset or a line of the machine changes anything, and a line changes only what it
reads as; R183: in every state the straps change at a power-on reset only, and no command touches the commands that wait.
How lines act while RESET is asserted, and which commands act, is the model's reading (log entries 33, 34 and 50). -/
def Obligations.HeldResetAndStrapsStand : Prop :=
  (∀ (c : Instr) (s : State), s.resetHeld = true →
    match c with
    | .powerOnReset _ _ _ | .resetAssert | .resetRelease => True
    | .inputLineChange line high => line < 32 →
        ∀ i : Input, s.ev.inputs[line]? = some i →
          exec c s = .next { s with
            ev := { s.ev with
              inputs := s.ev.inputs.take line ++ { i with raw := high } :: s.ev.inputs.drop (line + 1) } }
    | .estopAssertion => exec c s = .next { s with ev := { s.ev with estopRaw := false } }
    | .estopRelease => exec c s = .next { s with ev := { s.ev with estopRaw := true } }
    | .axisDriveNotReady .x => exec c s = .next { s with frame := { s.frame with readyX := false } }
    | .axisDriveNotReady .y => exec c s = .next { s with frame := { s.frame with readyY := false } }
    | .axisDriveReady .x => exec c s = .next { s with frame := { s.frame with readyX := true } }
    | .axisDriveReady .y => exec c s = .next { s with frame := { s.frame with readyY := true } }
    | .shaftDriveNotReady => exec c s = .next { s with shaft := { s.shaft with driveReady := false } }
    | .shaftDriveReady => exec c s = .next { s with shaft := { s.shaft with driveReady := true } }
    | .encoderCount _ _ => exec c s = .next { s with shaft := { s.shaft with still := false } }
    | .shaftStill => exec c s = .next { s with shaft := { s.shaft with still := true } }
    | .caseCodeLineChange code => exec c s = .next { s with nc := { s.nc with raw := code } }
    | _ => exec c s = .next s) ∧
  (∀ (c : Instr) (s t : State), exec c s = .next t →
    t.pending = s.pending ∧ ((∀ a b d : Nat, c ≠ .powerOnReset a b d) → t.straps = s.straps))

/-- R181 and the rules it names: what a RESTART leaves in every block, whatever state it is taken in. R181, R184: the
link keeps its receiver's phase, a frame whose sending has begun, and the requests that wait behind the RESTART, and
replies first. R69, R121: kept hold and turn requests are dropped, and the case unit is IDLE without a job or a kept
request; that a move stopped leaves its timers and overshoot count at 0 is the model's reading (DEDUCED, log entry 42),
and so are the code that a cleared case fault takes its position from and the field that remembers the way of a FAULT to
OFF (log entries 32 and 35). A shaft that is still already when it is braked goes to OFF at once (DEDUCED, log entry
15), an input that its level mode latches again is not armed (DEDUCED, log entry 31), and the starved mark is 0 (DESIGN
CHOICE, log entry 17). -/
def Obligations.RestartKeepsSettingsAndClearsTheRest : Prop :=
  (∀ (s : State) (f : LinkFrame) (later : List LinkFrame), s.resetHeld = false → s.quiet = true →
    s.link.transmitter = .reply f → s.link.requests = ⟨0x02, []⟩ :: later → s.link.notices = [] →
    ∃ t : State, exec .frameSent s = .next t ∧ t.link.requests = later ∧ t.link.reply = some ⟨0x82, [0]⟩ ∧
      t.link.transmitter = .reply ⟨0x82, [0]⟩ ∧ t.link.receiver = s.link.receiver ∧ t.player.state = .idle ∧
      t.ev.cause = .request) ∧
  ∀ s : State, s.ready = true → s.ev.inputs.length = 32 →
    let still := fun i : Input => (i.mode = .levelHigh ∧ i.level = some true) ∨ (i.mode = .levelLow ∧ i.level = some false)
    ∃ t : State, exec .restart s = .next t ∧ t.link.reply = some ⟨0x82, [0]⟩ ∧ t.link.receiver = s.link.receiver ∧
      t.link.requests = s.link.requests ∧ t.link.taking = false ∧
      t.link.transmitter = (match s.link.transmitter with
        | .idle => .reply ⟨0x82, [0]⟩
        | .reply f => .reply f
        | .notice f => .notice f) ∧
      t.store = { s.store with
        dir := s.store.dir.map fun (o : Option Design) => o.map fun (x : Design) =>
          { x with
            state := if x.state = .loading then .failed else x.state
            armedPin := false
            repairPin := false } } ∧
      t.player =
        { state := .idle, armed := none, origin := none, mode := .normal, cursor := 0, resume := 0, saved := .paused .hostStop
          active := none, interrupted := none, stopReason := none, stopIndex := none, soonStop := false
          positionAsked := false, displaced := false, keepFrame := s.player.keepFrame, history := List.replicate 256 none
          preselect := none, queue := [], starvedMark := 0, recovering := false, errand := .none, entryTrim := .none } ∧
      t.gov = { s.gov with
        active := if s.gov.pendingFlag then s.gov.pending else s.gov.active
        pendingFlag := false
        cPrev := t.gov.cPrev
        move := none } ∧
      t.shaft.state = (match s.shaft.state with
        | .turning => if s.shaft.still then .off else .braking
        | .positioning => if s.shaft.still then .off else .braking
        | .held => .off
        | .offPosition => .off
        | .off => .off
        | .braking => .braking
        | .fault => if s.shaft.still then .off else ShaftState.fault) ∧
      t.shaft.angle = s.shaft.angle ∧ t.shaft.refValid = s.shaft.refValid ∧ t.shaft.sMeas = s.shaft.sMeas ∧
      t.shaft.still = s.shaft.still ∧ t.shaft.driveReady = s.shaft.driveReady ∧
      t.shaft.keptHold = false ∧ t.shaft.keptTurn = false ∧
      (s.shaft.state ≠ .off → s.shaft.state ≠ .braking → s.shaft.state ≠ .fault → t.shaft.demand = 0 ∧ t.shaft.stall = none) ∧
      (s.shaft.state = .fault → s.shaft.still = false → t.shaft.toOff = true ∧ t.shaft.cause = s.shaft.cause) ∧
      t.outs =
        { hold := s.outs.hold.map fun o => { o with mode := .auto }
          trim := s.outs.trim.map fun o => { o with mode := .auto }
          holder := { s.outs.holder with mode := .auto }
          kill := decide (t.shaft.state ≠ .off)
          killUntilOff := decide (t.shaft.state ≠ .off)
          holderCount := 0
          holderArmed := false } ∧
      t.frame = { s.frame with
        known := s.frame.known && s.gov.move.isNone && !(s.frame.move.map FrameMove.losesSteps).getD false
        owner := .none
        lent := false
        move := none
        after := .keep } ∧
      t.nc = (match s.nc.state with
        | .idle => { s.nc with kept := none }
        | .moving => { s.nc with state := .idle, job := none, overshoot := 0, timer := 0, settle := 0, kept := none }
        | .settling => { s.nc with state := .idle, job := none, overshoot := 0, timer := 0, settle := 0, kept := none }
        | .fault => { s.nc with
            state := .idle, kept := none, cause := none, pos := casePosition s.straps.needles s.nc.code }) ∧
      t.thread = { s.thread with
        monitors := s.thread.monitors.map fun _ => ⟨0, ⟨0, none, none, none⟩, 0⟩
        slot := none
        fresh := false
        overrun := false
        rev := none
        feedOpen := false } ∧
      t.heads = { s.heads with
        table := t.heads.table, repairs := [], selection := none, passEnd := none, passStart := none, lastKind := none
        leftPass := false } ∧
      t.heads.table.length = s.heads.table.length ∧
      (∀ (h : Nat) (d : Head), s.heads.table[h]? = some d →
        ∃ d' : Head, t.heads.table[h]? = some d' ∧
          d' = { d with condition := .ok, role := .none, start := none, engaged := false, bobbinLow := d'.bobbinLow } ∧
          (d'.bobbinLow = true → ∃ i : Input, h < 12 ∧ s.ev.inputs[h]? = some i ∧ still i)) ∧
      (∀ (n : Nat) (i : Input), s.ev.inputs[n]? = some i →
        t.ev.inputs[n]? = some { i with latch := decide (still i), armed := decide ¬still i }) ∧
      t.ev.subscribed = s.ev.subscribed ∧ t.ev.cause = .request ∧ t.ev.estop = s.ev.estop ∧ t.ev.estopRaw = s.ev.estopRaw ∧
      ((∀ i ∈ s.ev.inputs, ¬still i) → t.ev.flags = 0 ∧ t.link.notices = []) ∧
      t.straps = s.straps ∧ t.pending = s.pending

/-! ### The drives (R75, R76, R88) -/

/-- R88, R75, R76, R33, R41, R42, R62, R93, R97: a drive-ready line that is negated: of an axis, an axis fault in every
state, which halts a player with a claim on the frame; of the shaft, a shaft fault while its drive is enabled. A LIMIT
input that becomes active is an axis fault too. Each abandons the sewing move in flight, in every player state; an axis
fault stops a frame move at once, and a shaft fault slows a lead-in or return down; with either the player in CHANGING or
RETURNING halts, displaced if its move was in flight. A line negated already does not fault again, and a line that comes
back only reads ready. A faulted shaft that is still already while the player is IDLE goes to OFF at once (DEDUCED, log
entry 15); the lending waits for the end of a move that slows down (DEDUCED, log entry 25). -/
def Obligations.DriveLinesFaultOnce : Prop :=
  ∀ s : State, s.resetHeld = false → s.quiet = true →
    let alone := s.player.errand = .none ∧ s.nc.kept = none
    let chained := (s.player.state = .changing ∨ s.player.state = .returning) ∧ s.frame.owner = .player
    let moving := match s.player.errand with
      | .leadMove => true
      | .returnMove _ => true
      | _ => false
    let claimed := s.frame.owner = .player ∨ (s.frame.owner = .positioner ∧ s.frame.lent = true)
    let sews := s.player.state ≠ .idle ∧ ∀ c : HaltCause, s.player.state ≠ .halted c
    let axis := fun t : State =>
      t.frame.known = false ∧ t.frame.move = none ∧ t.gov.move = none ∧ t.ev.flags &&& Event.axisFault.bit ≠ 0 ∧
      t.frame.x = s.frame.x ∧ t.frame.y = s.frame.y ∧
      (s.frame.move.isSome = true → t.ev.flags &&& Event.frameDone.bit ≠ 0) ∧
      ((¬claimed ∨ ¬sews) → t.player.state = s.player.state) ∧
      (claimed → sews → t.player.state = .halted .axis ∧ t.player.queue = [] ∧ t.player.errand = .none ∧
        t.player.displaced = (s.player.displaced || s.player.active.isSome || moving))
    (s.frame.readyX = false → exec (.axisDriveNotReady .x) s = .next s) ∧
    (s.frame.readyY = false → exec (.axisDriveNotReady .y) s = .next s) ∧
    (s.frame.readyX = true → (alone ∨ chained) →
      ∃ t : State, exec (.axisDriveNotReady .x) s = .next t ∧ t.frame.readyX = false ∧ t.frame.readyY = s.frame.readyY ∧ axis t) ∧
    (s.frame.readyY = true → (alone ∨ chained) →
      ∃ t : State, exec (.axisDriveNotReady .y) s = .next t ∧ t.frame.readyY = false ∧ t.frame.readyX = s.frame.readyX ∧ axis t) ∧
    (∀ (n : Nat) (i : Input), 26 ≤ n → n ≤ 29 → s.ev.inputs[n]? = some i → i.level = some true → i.raw = false →
      (i.mode = .falling ∨ i.mode = .levelLow) → (alone ∨ chained) →
      ∃ t : State, exec (.inputFilterSettled n) s = .next t ∧ axis t) ∧
    exec (.axisDriveReady .x) s = .next { s with frame := { s.frame with readyX := true } } ∧
    exec (.axisDriveReady .y) s = .next { s with frame := { s.frame with readyY := true } } ∧
    exec .shaftDriveReady s = .next { s with shaft := { s.shaft with driveReady := true } } ∧
    ((s.shaft.state = .off ∨ s.shaft.state = .braking ∨ s.shaft.state = .fault) →
      exec .shaftDriveNotReady s = .next { s with shaft := { s.shaft with driveReady := false } }) ∧
    ((s.shaft.state = .held ∨ s.shaft.state = .offPosition ∨ s.shaft.state = .turning ∨ s.shaft.state = .positioning) →
      (alone ∨ sews) →
      ∃ t : State, exec .shaftDriveNotReady s = .next t ∧ t.shaft.driveReady = false ∧
        t.ev.flags &&& Event.shaftFault.bit ≠ 0 ∧ t.shaft.demand = 0 ∧ t.shaft.keptHold = false ∧ t.shaft.keptTurn = false ∧
        t.gov.move = none ∧ t.nc.kept = none ∧ t.nc.state ≠ .moving ∧ t.nc.state ≠ .settling ∧
        (¬(s.player.state = .idle ∧ s.shaft.still = true) → t.shaft.state = .fault ∧ t.shaft.cause = some .drive) ∧
        (s.player.state = .idle → s.shaft.still = true → t.shaft.state = .off) ∧
        (s.player.state = .idle → t.player = s.player) ∧
        (sews →
          t.player.state = .halted .shaft ∧ t.outs.kill = true ∧ t.player.queue = [] ∧ t.player.errand = .none ∧
          t.player.displaced = (s.player.displaced || s.player.active.isSome || moving) ∧
          ∀ (op : MoveOp) (leg : Leg) (rest : List (Int × Int)), s.frame.move = some (.legs op leg rest none) →
            s.frame.owner = .player → s.frame.after = .keep → s.gov.move = none →
            (4000000 < leg.rateSq →
              t.frame = { s.frame with move := some (.legs op leg rest (some .shaft)), after := .lend }) ∧
            (leg.rateSq ≤ 4000000 →
              t.frame = { s.frame with move := none, lent := true } ∧ t.ev.flags &&& Event.frameDone.bit ≠ 0)))

/-! ### The shaft (R65 to R76) -/

/-- R65, R71, R72, R73, R75, R111: an encoder count moves the angle by 1 around 1024 in every shaft state, ends the
stillness and restarts the stall timer; a reverse count in TURNING is a shaft fault; a count that takes a HELD shaft
outside 0 ± 8 is OFF_POSITION and fails a case move; at a brake point the shaft is braked at creep speed, else it turns
on three times at most. R59, R61: the scaled profile value at an offset, its value at the start of the slice plus its
share of the slice, and the overrun angle of a STITCH and of a JUMP. R59 to R62: at a forward count of a turning shaft
each axis of the current move emits the steps that are due and not yet emitted, 20 µs apart; with the last of them the
move ends; at the overrun angle a move that still owes steps latches MOVE_OVERRUN and halts the player, and its owed
steps then go out one by one without regard to the angle, from counts within the range of R87, which every step keeps
(StepKeepsQueuesAndChains). How the spacing is counted from one encoder count to the next is the model's reading
(DEDUCED, log entry 36), and so is a lending or release of the frame that waits for the owed steps (DEDUCED, log entry
25). -/
def Obligations.AngleFollowsTheEncoder : Prop :=
  (∀ (s : State) (forward : Bool) (elapsed : Nat), s.resetHeld = false → s.quiet = true → s.shaft.angle < 1024 →
    let next := if forward then (if s.shaft.angle = 1023 then 0 else s.shaft.angle + 1)
      else (if s.shaft.angle = 0 then 1023 else s.shaft.angle - 1)
    let counted : Shaft := { s.shaft with angle := next, still := false, stall := s.shaft.stall.map fun _ => 100 }
    let answer := exec (.encoderCount forward elapsed) s
    let zone := next ≤ 8 ∨ 1016 ≤ next
    ((s.shaft.state = .off ∨ s.shaft.state = .offPosition ∨ s.shaft.state = .braking ∨ s.shaft.state = .fault ∨
        (s.shaft.state = .held ∧ zone)) →
      answer = .next { s with shaft := counted }) ∧
    (s.shaft.state = .held → ¬zone → s.nc.state ≠ .moving → s.nc.state ≠ .settling →
      answer = .next { s with shaft := { counted with state := .offPosition } }) ∧
    (s.shaft.state = .held → ¬zone → (s.nc.state = .moving ∨ s.nc.state = .settling) → s.player.errand = .none →
      s.nc.kept = none →
      ∃ t : State, answer = .next t ∧ t.nc.state = .fault ∧ t.nc.cause = some .shaftMoved ∧
        t.ev.flags &&& Event.caseFault.bit ≠ 0) ∧
    (s.shaft.state = .positioning → (forward = false ∨ s.shaft.phase = .braked) → answer = .next { s with shaft := counted }) ∧
    (s.shaft.state = .positioning → forward = true → s.shaft.phase = .correct →
      answer = .next { s with
        shaft := if next = 1016 then { counted with demand := 0, stall := none, phase := .braked } else counted }) ∧
    (s.shaft.state = .positioning → forward = true → s.shaft.phase = .creep →
      ((next ≠ 1000 ∨ s.shaft.refValid = false) → answer = .next { s with shaft := counted }) ∧
      (next = 1000 → s.shaft.refValid = true →
        (s.shaft.sMeas ≤ s.gov.active.motion.sStop + 20 →
          answer = .next { s with shaft := { counted with demand := 0, stall := none, phase := .braked } }) ∧
        (s.gov.active.motion.sStop + 20 < s.shaft.sMeas → s.shaft.extra < 3 →
          answer = .next { s with shaft := { counted with extra := s.shaft.extra + 1 } }) ∧
        (s.gov.active.motion.sStop + 20 < s.shaft.sMeas → 3 ≤ s.shaft.extra → s.player.errand = .none →
          ∃ t : State, answer = .next t ∧ t.shaft.state = .fault ∧ t.shaft.cause = some .position ∧
            t.ev.flags &&& Event.shaftFault.bit ≠ 0))) ∧
    (s.shaft.state = .turning → forward = false → s.player.errand = .none →
      ∃ t : State, answer = .next t ∧ t.shaft.angle = next ∧ t.shaft.state = .fault ∧ t.shaft.cause = some .reverse ∧
        t.ev.flags &&& Event.shaftFault.bit ≠ 0) ∧
    (s.shaft.state = .turning → forward = true → next ≠ s.gov.active.motion.wOpen → s.gov.move = none →
      (let m := s.gov.active.motion
       ∀ r : SewnRevolution, s.thread.rev = some r → r.kind = .stitch → next < m.wOpen →
        next ≠ (if 300 ≤ m.e then m.e + 1 else 300) ∧ ¬(next = min 780 (m.wOpen - 8) ∧ s.thread.feedOpen = true)) →
      answer = .next { s with shaft := counted })) ∧
  (∀ (q : List Nat) (w total a n : Nat), 0 < w →
    (n ≤ stepsDue q w total a ↔ n ≤ total ∧ 256 * n * w ≤ total * scaledProfile q w a) ∧
    (∀ k r : Nat, k < 16 → r < w → a = k * w + r → q.getD k 0 ≤ q.getD (k + 1) 0 →
      scaledProfile q w a = q.getD k 0 * w + (q.getD (k + 1) 0 - q.getD k 0) * r) ∧
    (16 * w ≤ a → scaledProfile q w a = 256 * w)) ∧
  (∀ m : Motion, overrunAngle m .stitch = m.e ∧ overrunAngle m .jump = m.x - 16) ∧
  (∀ (s : State) (elapsed : Nat) (v : SewMove), s.resetHeld = false → s.quiet = true → s.shaft.state = .turning →
    s.gov.move = some v → v.overrun = false → s.frame.owner = .player → s.frame.lent = false →
    let m := s.gov.active.motion
    let next := (s.shaft.angle + 1) % 1024
    let offset := (next + 1024 - m.wOpen) % 1024
    let due := fun total a : Nat => stepsDue v.profile v.slice total a
    let reach := fun total done wait done' : Nat =>
      done ≤ done' ∧ done' ≤ max done (due total offset) ∧
      (wait + 20 * (due total (offset - 1) - done) ≤ elapsed →
        due total offset ≤ max done (due total (offset - 1)) + 1 → done' = max done (due total offset))
    let counted : Shaft := { s.shaft with angle := next, still := false, stall := s.shaft.stall.map fun _ => 100 }
    (∀ r : SewnRevolution, s.thread.rev = some r → r.kind = .stitch → next < m.wOpen →
      next ≠ (if 300 ≤ m.e then m.e + 1 else 300) ∧ ¬(next = min 780 (m.wOpen - 8) ∧ s.thread.feedOpen = true)) →
    next ≠ m.wOpen →
    (next ≠ overrunAngle m v.kind →
      ∃ ex ey waitX waitY : Nat,
        reach v.nx v.ex v.waitX ex ∧ reach v.ny v.ey v.waitY ey ∧
        20 * (ex - v.ex) ≤ elapsed + 20 ∧ 20 * (ey - v.ey) ≤ elapsed + 20 ∧
        exec (.encoderCount true elapsed) s = .next { s with
          shaft := counted
          gov := { s.gov with
            move := if v.nx ≤ ex ∧ v.ny ≤ ey then none
              else some { v with ex := ex, ey := ey, waitX := waitX, waitY := waitY } }
          frame := (s.frame.stepX v.xNeg (ex - v.ex)).stepY v.yNeg (ey - v.ey) }) ∧
    (next = overrunAngle m v.kind → s.player.errand = .none → s.nc.kept = none →
      (s.player.state = .running ∨ s.player.state = .stopping) →
      ∃ (t : State) (ex ey waitX waitY : Nat), exec (.encoderCount true elapsed) s = .next t ∧
        reach v.nx v.ex v.waitX ex ∧ reach v.ny v.ey v.waitY ey ∧
        t.frame.x = (s.frame.stepX v.xNeg (ex - v.ex)).x ∧ t.frame.y = (s.frame.stepY v.yNeg (ey - v.ey)).y ∧
        (v.nx ≤ ex → v.ny ≤ ey →
          t = { s with
            shaft := counted, gov := { s.gov with move := none }
            frame := (s.frame.stepX v.xNeg (ex - v.ex)).stepY v.yNeg (ey - v.ey) }) ∧
        (¬(v.nx ≤ ex ∧ v.ny ≤ ey) →
          t.gov.move = some { v with ex := ex, ey := ey, waitX := waitX, waitY := waitY, overrun := true } ∧
          t.ev.flags &&& Event.moveOverrun.bit ≠ 0 ∧ t.player.state = .halted .overrun ∧ t.outs.kill = true ∧
          t.shaft.state = .braking ∧ t.player.queue = [] ∧ t.frame.owner = .player ∧ t.frame.lent = false))) ∧
  (∀ (s : State) (a : Axis) (v : SewMove), s.resetHeld = false → s.quiet = true → s.player.errand = .none →
    s.gov.move = some v → s.frame.owner = .player → s.frame.lent = false → s.frame.move = none →
    -262143 ≤ s.frame.x → s.frame.x ≤ 262143 → -262143 ≤ s.frame.y → s.frame.y ≤ 262143 →
    let offset := (s.shaft.angle + 1024 - s.gov.active.motion.wOpen) % 1024
    let due := fun total : Nat => if v.overrun then total else stepsDue v.profile v.slice total offset
    let goes := match a with
      | .x => v.ex < due v.nx
      | .y => v.ey < due v.ny
    let v' : SewMove := match a with
      | .x => { v with ex := v.ex + 1, waitX := v.waitX + 20 }
      | .y => { v with ey := v.ey + 1, waitY := v.waitY + 20 }
    let frame := match a with
      | .x => s.frame.stepX v.xNeg 1
      | .y => s.frame.stepY v.yNeg 1
    let ended := v'.nx ≤ v'.ex ∧ v'.ny ≤ v'.ey
    (goes →
      exec (.axisStep a) s = .next { s with
        gov := { s.gov with move := if ended then none else some v' }
        frame :=
          if ended then
            (match s.frame.after with
              | .keep => frame
              | .lend => { frame with lent := true, after := .keep }
              | .release => { frame with owner := .none, lent := false, after := .keep })
          else frame }) ∧
    (¬goes → ¬(v.nx ≤ v.ex ∧ v.ny ≤ v.ey) → exec (.axisStep a) s = .next s))

/-- R65, R66, R75: an index pulse gives the angle reference and the measured speed, and sets the angle to 0; more than 2
counts off with the drive enabled it is a shaft fault. 2 s without one give the speed 0. The speed is taken before the
index is checked (DEDUCED, log entry 24). -/
def Obligations.IndexSetsAngleAndSpeed : Prop :=
  ∀ (s : State) (forward : Bool) (period : Nat), s.resetHeld = false → s.quiet = true → 0 < period →
    let measured : Shaft := { s.shaft with
      indexForward := forward
      sMeas := if forward = false then 0
        else if s.shaft.indexForward = false then s.shaft.sMeas
        else if period ≤ 2000000 then 60000000 / period else 0 }
    let enabled := s.shaft.state = .held ∨ s.shaft.state = .offPosition ∨ s.shaft.state = .turning ∨
      s.shaft.state = .positioning
    let near := s.shaft.angle ≤ 2 ∨ 1022 ≤ s.shaft.angle
    (s.shaft.refValid = false →
      exec (.indexPulse forward period) s = .next { s with shaft := { measured with angle := 0, refValid := true } }) ∧
    (s.shaft.refValid = true → (near ∨ ¬enabled) →
      exec (.indexPulse forward period) s = .next { s with shaft := { measured with angle := 0 } }) ∧
    (s.shaft.refValid = true → ¬near → enabled → s.player.errand = .none →
      ∃ t : State, exec (.indexPulse forward period) s = .next t ∧ t.ev.flags &&& Event.shaftFault.bit ≠ 0 ∧
        t.shaft.angle = s.shaft.angle ∧ t.shaft.sMeas = measured.sMeas ∧
        (s.shaft.still = false → t.shaft.state = .fault ∧ t.shaft.cause = some .index)) ∧
    exec .speedTimeout s = .next { s with shaft := { s.shaft with sMeas := 0 } }

/-- R67, R72, R74, R75, R76, R62: the stall timer's expiry, and the shaft that has become still: braked in POSITIONING
it is checked, and held, corrected or failed; a braking shaft goes to OFF and reports it; a faulted one has its brake
released. R68, R69: a faulted shaft goes on to position for a kept hold request, which is a shaft fault anew while the
drive is not ready (R75), and to OFF where no RECOVER can follow. R44: HELD at the end of a recovery sets the cursor
back to an interrupted record and pauses the player as RECOVERED, the queue filled anew. R44, R156, R157: in a REPAIR
pass it ends the pass as REPAIR_END does, with this cursor. R37, R29: HELD at the end of a planned stop, in the first
case that applies: DESIGN halts the player; a REPAIR pass ends at H with REPAIR_DONE (R155); REPAIR begins its pass
(R147 to R149); a STOP record is taken and the change into its block begins; END finishes; a held reason pauses (R152,
R154: as PASS_EMPTY in a pass that has emptied, whichever reason was taken first, DEDUCED, log entry 53); none leaves
the player STARVED (R39). R148: HELD at the end of an entry trim. The expiry and the 20 ms of stillness come as commands
(log entry 9); what HELD makes possible is begun at once (log entry 13), the player is RETURNING from a pass's beginning
on (log entry 22), and an entry trim is entered with a turn request and no hold request before it (DEDUCED, log entry
55). -/
def Obligations.StillShaftIsHeldOrCorrected : Prop :=
  (∀ s : State, s.resetHeld = false → s.quiet = true → s.nc.kept = none → s.player.errand = .none →
    let zone := s.shaft.angle ≤ 8 ∨ 1016 ≤ s.shaft.angle
    let still : Shaft := { s.shaft with still := true }
    let atRest : Shaft := { still with
      demand := 0, stall := none, state := .held, phase := .creep, keptHold := false, keptTurn := false }
    let gov : Governor := { s.gov with
      active := if s.gov.pendingFlag then s.gov.pending else s.gov.active, pendingFlag := false, cPrev := 0 }
    let sStop := s.gov.active.motion.sStop
    (s.shaft.stall = none → exec .stallTimeout s = .next s) ∧
    (s.shaft.stall.isSome = true → (s.shaft.state = .turning ∨ s.shaft.state = .positioning) →
      ∃ t : State, exec .stallTimeout s = .next t ∧ t.ev.flags &&& Event.shaftFault.bit ≠ 0 ∧ t.shaft.demand = 0 ∧
        t.gov.move = none ∧ (s.player.state ≠ .idle → t.shaft.state = .fault ∧ t.shaft.cause = some .stall)) ∧
    ((s.shaft.state = .off ∨ s.shaft.state = .held ∨ s.shaft.state = .offPosition ∨ s.shaft.state = .turning ∨
        (s.shaft.state = .positioning ∧ s.shaft.phase ≠ .braked)) →
      exec .shaftStill s = .next { s with shaft := still }) ∧
    (s.shaft.state = .positioning → s.shaft.phase = .braked →
      (zone → s.player.recovering = false → s.player.positionAsked = false → s.shaft.keptTurn = false →
        exec .shaftStill s = .next { s with shaft := atRest, gov := gov }) ∧
      (¬zone → s.shaft.retry < 2 →
        exec .shaftStill s = .next { s with
          shaft := { still with
            demand := sStop
            stall := if s.shaft.demand = sStop ∧ s.shaft.stall.isSome = true then s.shaft.stall else some 100
            retry := s.shaft.retry + 1
            phase := if 1000 ≤ s.shaft.angle ∧ s.shaft.angle ≤ 1015 then .correct else .creep } }) ∧
      (¬zone → 2 ≤ s.shaft.retry →
        ∃ t : State, exec .shaftStill s = .next t ∧ t.ev.flags &&& Event.shaftFault.bit ≠ 0 ∧ t.gov.move = none ∧
          (s.player.state ≠ .idle → t.shaft.state = .fault ∧ t.shaft.cause = some .position)) ∧
      (zone → s.player.recovering = true → s.shaft.keptTurn = false → s.player.mode = .normal →
        s.frame.owner = .player → s.frame.move = none → s.gov.move = none →
        exec .shaftStill s = .next (({ s with
          shaft := atRest
          gov := gov
          frame := { s.frame with lent := true }
          player := { s.player with
            state := .paused .recovered, recovering := false, cursor := s.player.interrupted.getD s.player.cursor
            interrupted := none, stopReason := none, stopIndex := none, soonStop := false, positionAsked := false
            entryTrim := .none } }.latch .playerState
              (6 :: 6 :: b4 (s.player.interrupted.getD s.player.cursor))).refill)) ∧
      (zone → s.player.recovering = true → s.shaft.keptTurn = false → s.player.mode = .repair →
        s.frame.owner = .player → s.frame.move = none → s.gov.move = none →
        let cursor := s.player.interrupted.getD s.player.cursor
        ∃ t : State, exec .shaftStill s = .next t ∧
          t.player = { s.player with
            state := .paused .recovered, mode := .normal, recovering := false, displaced := true, cursor := cursor
            interrupted := none, stopReason := none, stopIndex := none, soonStop := false, positionAsked := false
            entryTrim := .none
            queue := { s with
              gov := gov
              player := { s.player with state := .paused .recovered, cursor := cursor, queue := [] } }.prefetch.player.queue } ∧
          t.heads = { s.heads with
            table := t.heads.table, repairs := t.heads.repairs, leftPass := true, selection := none, passEnd := none
            passStart := none } ∧
          t.shaft = atRest ∧ t.gov = gov ∧ t.frame = { s.frame with lent := true } ∧
          t.ev = { s.ev with flags := s.ev.flags ||| Event.playerState.bit } ∧ t.store = s.store ∧ t.nc = s.nc ∧
          t.outs = s.outs ∧ t.straps = s.straps ∧ t.pending = s.pending ∧
          t.thread = { s.thread with monitors := t.thread.monitors } ∧
          (∀ (i : Nat) (d : Head), s.heads.table[i]? = some d →
            ∃ d' : Head, t.heads.table[i]? = some d' ∧ d' = { d with condition := d'.condition, role := .none, start := none } ∧
              (d.role ≠ .active → d'.condition = d.condition) ∧
              ∀ q : RepairRecord, (∀ x ∈ s.heads.repairs, x.head = i + 1 ↔ x = q) → q ∈ s.heads.repairs → d.role = .active →
                let record : RepairRecord := { q with
                  point := cursor, block := s.blockOf cursor
                  needle := (s.player.history.getD (s.blockOf cursor) none).getD q.needle }
                d'.condition = .broken ∧ record ∈ t.heads.repairs ∧ (∀ x ∈ t.heads.repairs, x.head = i + 1 → x = record) ∧
                ∀ n : HeadMonitor, s.thread.monitors[i]? = some n →
                  t.thread.monitors[i]? = some { n with run := ⟨0, none, none, none⟩ }) ∧
          (∀ x ∈ s.heads.repairs, (∀ d : Head, 1 ≤ x.head → s.heads.table[x.head - 1]? = some d → d.role ≠ .active) →
            x ∈ t.heads.repairs))) ∧
    (s.shaft.state = .braking →
      exec .shaftStill s = .next { s with
        shaft := { still with
          demand := 0, stall := none, state := .off, phase := .creep, cause := none, faultStill := false, toOff := false }
        gov := { s.gov with cPrev := 0 }
        outs := if s.outs.killUntilOff then { s.outs with kill := false, killUntilOff := false } else s.outs }) ∧
    (s.shaft.state = .fault → s.shaft.keptHold = false →
      (s.shaft.toOff = false → exec .shaftStill s = .next { s with shaft := { still with faultStill := true } }) ∧
      (s.shaft.toOff = true →
        exec .shaftStill s = .next { s with
          shaft := { still with
            demand := 0, stall := none, state := .off, phase := .creep, cause := none, faultStill := false, toOff := false }
          gov := { s.gov with cPrev := 0 }
          outs := if s.outs.killUntilOff then { s.outs with kill := false, killUntilOff := false } else s.outs })) ∧
    (s.shaft.state = .fault → s.shaft.keptHold = true → s.frame.owner ≠ .positioner →
      (s.shaft.driveReady = true →
        exec .shaftStill s = .next { s with
          shaft := { still with
            demand := sStop
            stall := if s.shaft.demand = sStop ∧ s.shaft.stall.isSome = true then s.shaft.stall else some 100
            state := .positioning, phase := .creep, retry := 0, extra := 0, cause := none, faultStill := false
            toOff := false, keptHold := false }
          outs := s.outs.allAuto }) ∧
      (s.shaft.driveReady = false → s.player.state ≠ .idle →
        ∃ t : State, exec .shaftStill s = .next t ∧ t.shaft.state = .fault ∧ t.shaft.cause = some .drive ∧
          t.shaft.keptHold = false ∧ t.player.recovering = false ∧ (s.player.recovering = true → t.outs.kill = true) ∧
          t.ev.flags &&& Event.shaftFault.bit ≠ 0))) ∧
  (∀ s : State, s.resetHeld = false → s.quiet = true → s.nc.kept = none → s.player.errand = .none →
    s.shaft.state = .positioning → s.shaft.phase = .braked → (s.shaft.angle ≤ 8 ∨ 1016 ≤ s.shaft.angle) →
    s.shaft.keptTurn = false → s.player.recovering = false → s.player.positionAsked = true →
    s.frame.owner = .player → s.frame.move = none → s.gov.move = none →
    let answer := exec .shaftStill s
    let reason := s.player.stopReason
    let rested : Player := { s.player with
      stopReason := none, stopIndex := none, soonStop := false, positionAsked := false, entryTrim := .none }
    let held : State := { s with
      shaft := { s.shaft with
        still := true, demand := 0, stall := none, state := .held, phase := .creep, keptHold := false, keptTurn := false }
      gov := { s.gov with
        active := if s.gov.pendingFlag then s.gov.pending else s.gov.active, pendingFlag := false, cPrev := 0 }
      player := { s.player with positionAsked := false } }
    let lent : Frame := { s.frame with lent := true }
    let noPass := ∀ d ∈ s.heads.table, d.role = Role.none
    let rests := fun why : PauseReason =>
      some (if s.player.mode = PassMode.repair ∧ noPass then PauseReason.passEmpty else why)
    let named := fun r : StopReason => match r with
      | .hostStop => rests .hostStop
      | .buttonStop => rests .buttonStop
      | .breakStop => rests .breakStop
      | .bobbinStop => rests .bobbinStop
      | .passEmpty => rests .passEmpty
      | .passEnd => rests .hostStop
      | .repair => none
      | .design => none
    let ends := s.player.mode = .repair ∧ s.player.cursor = s.player.resume
    let none_ahead := ∀ e : QueueEntry, s.player.queue.head? = some e → e.kind ≠ .stop ∧ e.kind ≠ .endRec
    (reason = some .design →
      ∃ t : State, answer = .next t ∧ t.player.state = .halted .design ∧ t.player.queue = [] ∧
        t.player.stopReason = none ∧ t.player.stopIndex = none ∧ t.player.cursor = s.player.cursor ∧
        t.player.resume = s.player.resume ∧ t.shaft.state = .off ∧ t.frame = lent ∧ t.store = s.store ∧
        t.ev.flags &&& Event.playerState.bit ≠ 0) ∧
    (s.player.entryTrim = .none → reason ≠ some .design →
      (∀ mask : Nat, ends →
        (∀ i : Nat, mask.testBit i = true ↔ ∃ d : Head, s.heads.table[i]? = some d ∧ d.role = .active) →
        let repairs := s.heads.repairs.filter fun q =>
          (s.heads.table[q.head - 1]?.map Head.role) != some Role.active
        let ended : State := { held with
          heads := { s.heads with
            table := s.heads.table.map fun d =>
              if d.role = .active then { d with condition := .ok, role := .none, start := none }
              else { d with role := .none, start := none }
            repairs := repairs, selection := none, passEnd := none, passStart := none }
          store := { s.store with
            dir := s.store.dir.map fun (o : Option Design) => o.map fun (x : Design) =>
              if s.player.armed = some x.number then { x with repairPin := repairs.any fun q => q.design == x.number }
              else x } }
        let filled : State :=
          { ended.latch .repairDone (b2 mask ++ b4 s.player.resume) with player := { rested with mode := .normal } }.refill
        let atEnd := ∃ q : Record, s.recordOf s.player.resume = some q ∧ q.kind = .endRec
        ((atEnd ∨ s.player.saved = .finished) →
          answer = .next ({ filled with
            frame := lent
            player := { rested with mode := .normal, state := .finished, queue := [] } }.latch .playerState
              (8 :: 0xFF :: b4 s.player.cursor))) ∧
        (∀ why : PauseReason, ¬atEnd → s.player.saved = .paused why →
          answer = .next ({ filled with
            frame := lent
            player := { filled.player with state := .paused why } }.latch .playerState
              (6 :: b1 why.code ++ b4 s.player.cursor)))) ∧
      (¬ends → reason = some .repair → ∀ (d : Design) (p0 : Nat), s.armedDesign = some d →
        let mask := s.heads.selection.getD 0
        let selected := s.heads.repairs.filter fun q => decide (mask = 0 ∨ mask.testBit (q.head - 1) = true)
        let start := fun q : RepairRecord => max (q.point - s.heads.overlap) ((s.store.firstOfBlock d q.block).getD 0)
        let hEnd := if s.heads.leftPass then s.player.resume else s.player.cursor
        let heads : Heads := { s.heads with
          passEnd := some hEnd, passStart := some p0
          table := (s.heads.table.zipIdx 1).map fun (p : Head × Nat) =>
            match selected.find? fun q => q.head == p.2 with
            | some q => { p.1 with role := .waiting, start := some (start q) }
            | none => p.1 }
        let player : Player := { rested with resume := hEnd, saved := .paused .hostStop }
        let trimDue := s.heads.trimOn = true ∧ (s.heads.lastKind = some .stitch ∨ s.heads.lastKind = some .jump)
        (∃ q ∈ selected, start q = p0) → (∀ q ∈ selected, p0 ≤ start q) →
        (trimDue →
          answer = .next ({ held with
            heads := heads
            player := { player with state := .stopping, entryTrim := .asked } }.prefetch.turnRequest).settle) ∧
        (¬trimDue →
          answer = .next ({ held with
            heads := { heads with leftPass := false }
            player := { player with
              state := .returning, mode := .repair, cursor := p0, displaced := true
              errand := .returnWait .pass } }.refill.holdRequest).settle)) ∧
      (∀ (e : QueueEntry) (rest : List QueueEntry), ¬ends → reason ≠ some .repair → s.player.queue = e :: rest →
        (e.kind = .stop →
          answer = .next ({ held with
            player := { s.player with
              state := .changing, cursor := e.index + 1, stopIndex := none, soonStop := false, positionAsked := false
              resume := if s.player.mode = PassMode.normal then max s.player.resume (e.index + 1) else s.player.resume
              errand := .changeWait .stopRecord (e.block + 1) } }.refill).settle) ∧
        (e.kind = .endRec →
          answer = .next ({ held with
            frame := lent
            player := { rested with state := .finished, queue := [] } }.latch .playerState
              (8 :: 0xFF :: b4 s.player.cursor)))) ∧
      (∀ (r : StopReason) (why : PauseReason), ¬ends → none_ahead → reason = some r → named r = some why →
        answer = .next (({ held with
          frame := lent
          player := { rested with state := .paused why } }.latch .playerState
            (6 :: b1 why.code ++ b4 s.player.cursor)).refill)) ∧
      (¬ends → none_ahead → reason = none →
        let enough := ∃ d : Design, s.armedDesign = some d ∧
          (s.player.cursor + 16 ≤ d.stored ∨ d.stored = d.declared)
        let starved : Player := { rested with
          state := .starved, queue := held.refill.player.queue, starvedMark := s.player.cursor }
        let told : State := { held with player := starved }.latch .playerState (7 :: 0xFF :: b4 s.player.cursor)
        (¬enough → answer = .next told) ∧
        (enough → s.shaft.driveReady = true →
          ∃ t : State, answer = .next t ∧ t.player = { starved with state := .running } ∧ t.shaft.state = .turning ∧
            t.shaft.demand = min held.gov.active.motion.sStart s.gov.sCmd ∧ t.shaft.runUp = true ∧
            t.outs = s.outs.allAuto ∧ t.gov = held.gov ∧ t.frame = s.frame ∧ t.ev = told.ev))) ∧
    (s.player.entryTrim = .ending → reason ≠ some .design →
      (∀ p0 : Nat, reason = none → s.heads.passStart = some p0 →
        answer = .next ({ held with
          heads := { s.heads with leftPass := false }
          player := { rested with
            state := .returning, mode := .repair, cursor := p0, displaced := true
            errand := .returnWait .pass } }.refill.holdRequest).settle) ∧
      (∀ (r : StopReason) (why : PauseReason), reason = some r → named r = some why → s.player.mode = .normal →
        answer = .next (({ held with
          frame := lent
          heads := { s.heads with
            table := s.heads.table.map fun (d : Head) => { d with role := .none, start := none }
            selection := none, passEnd := none, passStart := none }
          player := { rested with state := .paused why } }.latch .playerState
            (6 :: b1 why.code ++ b4 s.player.cursor)).refill))))

/-! ### The revolution boundary (R30, R35, R55 to R59, R70, R80, R142) -/

/-- R30, R56 to R59, R69, R70, R142: the boundary that a forward count reaches in RUNNING or STOPPING: where nothing may
be handed over every head is disengaged and the shaft positions; else the queue's head becomes the active record, the
cursors rise, the governor commands the speed of R58 and begins the record's move, and every head is engaged that may
sew. R82, R128: a TRIM that ends makes the holder countdown 2 and sets the tie-in countdown of its heads; a STITCH with
a head engaged arms the holder and lowers a countdown above 0; a head engaged anew gets its tie-in countdown, the thread
monitor the record and the case position (DEDUCED, log entry 43, where it is between needles). The bound T is the least
of its terms, with the active set's S_stop in each (DEDUCED, log entry 56). In a REPAIR pass the boundary does the same,
but for the resume cursor, which stays. R148: the two boundaries of a pass-entry trim, whose colour block is the
cursor's (DESIGN CHOICE, log entry 51). R150, R151, R154: at a handover in a REPAIR pass a WAITING head joins at its
start point or drops out of the pass, an ACTIVE head that may not sew becomes BROKEN at the record, and a pass left
without heads asks for its stop. -/
def Obligations.BoundaryHandsOverTheQueueHead : Prop :=
  (∀ (s : State) (elapsed : Nat), s.resetHeld = false → s.quiet = true → s.shaft.state = .turning →
    (s.shaft.angle + 1) % 1024 = s.gov.active.motion.wOpen →
    (s.player.state = .running ∨ s.player.state = .stopping) → s.player.entryTrim = .none → s.player.errand = .none →
    s.nc.kept = none →
    let answer := exec (.encoderCount true elapsed) s
    let m := s.gov.active.motion
    let normal := s.player.mode = .normal
    let lastKind := match s.player.active with
      | some a => some a.kind
      | none => s.heads.lastKind
    let trimmed := ∃ a : ActiveRecord, s.player.active = some a ∧ a.kind = .trim
    let outs : Outputs := { s.outs with
      holderCount := if trimmed then 2 else s.outs.holderCount
      holderArmed := s.outs.holderArmed && s.player.active.isNone }
    let stops := match s.player.queue with
      | [] => True
      | e :: _ => e.kind = .stop ∨ e.kind = .endRec ∨ ∃ i : Nat, s.player.stopIndex = some i ∧ i ≤ e.index
    (stops → s.shaft.driveReady = true → s.frame.owner ≠ .positioner →
      ∃ t : State, answer = .next t ∧
        t.player = { s.player with active := none, state := .stopping, positionAsked := true } ∧
        t.heads = { s.heads with
          table := s.heads.table.map fun d => { d with engaged := false }
          lastKind := lastKind } ∧
        t.shaft.state = .positioning ∧ t.shaft.demand = m.sStop ∧ t.shaft.phase = .creep ∧ t.shaft.retry = 0 ∧
        t.shaft.extra = 0 ∧ t.gov = s.gov ∧ t.frame = s.frame ∧ t.store = s.store ∧ t.ev = s.ev ∧
        t.outs = outs.allAuto) ∧
    (∀ (e : QueueEntry) (rest : List QueueEntry), s.player.queue = e :: rest → ¬stops →
      ∃ (t : State) (more : List QueueEntry), answer = .next t ∧
        let first := s.shaft.runUp
        let stopIndex :=
          if s.player.soonStop then
            let given := e.index + min (max 1 (((if first then 0 else s.gov.cPrev) - m.sStop + m.dn - 1) / m.dn)) (rest.length + 1)
            some (match s.player.stopIndex with
              | some i => min i given
              | none => given)
          else s.player.stopIndex
        let bound := speedBound m s.player.queue stopIndex
        let speed := if first then min (min m.sStart s.gov.sCmd) (min m.sMax bound)
          else min (min s.gov.sCmd m.sMax) (min (s.gov.cPrev + m.up) bound)
        t.player = { s.player with
          queue := rest ++ more
          active := some ⟨some e.index, e.kind, e.dx, e.dy, e.block⟩
          cursor := e.index + 1
          resume := if normal then max s.player.resume (e.index + 1) else s.player.resume
          stopIndex := stopIndex
          state := t.player.state
          stopReason := t.player.stopReason
          soonStop := t.player.soonStop } ∧
        (normal → t.player.state = s.player.state ∧ t.player.stopReason = s.player.stopReason ∧ t.player.soonStop = false) ∧
        t.gov = { s.gov with
          cPrev := speed
          move :=
            if (e.kind = .stitch ∨ e.kind = .jump) ∧ (e.nx ≠ 0 ∨ e.ny ≠ 0) then
              let w := if e.kind = .stitch then m.wm else m.wjEff
              some { index := e.index, kind := e.kind, nx := e.nx, ny := e.ny, xNeg := decide (e.dx < 0)
                     yNeg := decide (e.dy < 0), ex := 0, ey := 0, window := w, slice := w / 16
                     profile := s.gov.active.profile, waitX := 0, waitY := 0, overrun := false }
            else none } ∧
        t.shaft.state = .turning ∧ t.shaft.demand = speed ∧ t.shaft.runUp = false ∧
        t.heads = { s.heads with table := t.heads.table, repairs := t.heads.repairs, lastKind := lastKind } ∧
        (normal → t.heads.repairs = s.heads.repairs ∧
          t.heads.table = s.heads.table.map fun d =>
            { d with engaged := d.enabled && d.switch && decide (d.condition = .ok) }) ∧
        (let arms := e.kind = .stitch ∧ (∃ d ∈ t.heads.table, d.engaged = true) ∧ 0 < outs.holderCount
         t.outs = if arms then { outs with holderArmed := true, holderCount := outs.holderCount - 1 } else outs) ∧
        (let profile := s.thread.profileAt s.nc.pos
         t.thread = { s.thread with
           monitors := t.thread.monitors, rev := some ⟨e.kind, e.index, e.dx, e.dy, profile, s.nc.pos⟩, feedOpen := false } ∧
         ∀ (i : Nat) (d d' : Head) (n : HeadMonitor), s.heads.table[i]? = some d → t.heads.table[i]? = some d' →
           s.thread.monitors[i]? = some n →
           ∃ n' : HeadMonitor, t.thread.monitors[i]? = some n' ∧
             n' = { n with
               run := n'.run
               tieIn :=
                 if d'.engaged = true ∧ d.engaged = false then profile.f
                 else if trimmed ∧ d.engaged = true then ((s.thread.rev.map fun r => r.profile.f).getD 0)
                 else n.tieIn } ∧
             (normal → n'.run = n.run)) ∧
        t.frame = s.frame ∧ t.store = s.store ∧ t.nc = s.nc ∧ t.ev = s.ev)) ∧
  (∀ (s : State) (elapsed : Nat), s.resetHeld = false → s.quiet = true → s.shaft.state = .turning →
    (s.shaft.angle + 1) % 1024 = s.gov.active.motion.wOpen → s.player.errand = .none → s.nc.kept = none →
    let answer := exec (.encoderCount true elapsed) s
    let m := s.gov.active.motion
    let speed := min (min m.sStart s.gov.sCmd) (min (min m.sMax m.sTrim) (m.sStop + m.dn))
    (s.player.entryTrim = .asked → s.player.mode = .normal →
      ∃ t : State, answer = .next t ∧
        t.player = { s.player with entryTrim := .active, active := some ⟨none, .trim, 0, 0, s.blockOf s.player.cursor⟩ } ∧
        t.gov = { s.gov with cPrev := speed } ∧ t.shaft.state = .turning ∧ t.shaft.demand = speed ∧ t.shaft.runUp = false ∧
        t.heads = { s.heads with
          table := s.heads.table.map fun d =>
            { d with engaged := d.enabled && d.switch && decide (d.condition = .ok) } } ∧
        t.outs = s.outs ∧ t.frame = s.frame ∧ t.store = s.store ∧ t.nc = s.nc ∧ t.ev = s.ev) ∧
    (∀ a : ActiveRecord, s.player.entryTrim = .active → s.player.active = some a → a.kind = .trim →
      s.shaft.driveReady = true → s.frame.owner ≠ .positioner →
      ∃ t : State, answer = .next t ∧
        t.player = { s.player with active := none, entryTrim := .ending, positionAsked := true } ∧
        t.heads = { s.heads with
          table := s.heads.table.map fun d => { d with engaged := false }
          lastKind := some .trim } ∧
        t.outs.holderCount = 2 ∧ t.outs.kill = s.outs.kill ∧ t.shaft.state = .positioning ∧ t.shaft.demand = m.sStop ∧
        t.gov = s.gov ∧ t.frame = s.frame ∧ t.store = s.store ∧ t.ev = s.ev ∧
        ∀ (i : Nat) (d : Head) (n : HeadMonitor) (r : SewnRevolution), s.heads.table[i]? = some d →
          s.thread.monitors[i]? = some n → s.thread.rev = some r → d.engaged = true →
          t.thread.monitors[i]? = some { n with tieIn := r.profile.f })) ∧
  (∀ (s : State) (elapsed : Nat) (e : QueueEntry) (rest : List QueueEntry), s.resetHeld = false → s.quiet = true →
    s.shaft.state = .turning → (s.shaft.angle + 1) % 1024 = s.gov.active.motion.wOpen →
    (s.player.state = .running ∨ s.player.state = .stopping) → s.player.entryTrim = .none → s.player.errand = .none →
    s.nc.kept = none → s.player.mode = .repair → s.player.queue = e :: rest →
    ¬(e.kind = .stop ∨ e.kind = .endRec ∨ ∃ i : Nat, s.player.stopIndex = some i ∧ i ≤ e.index) →
    (∀ d ∈ s.heads.table, d.role = .active → d.condition = .repairing) →
    let joins := fun d : Head => d.role = .waiting ∧ d.start = some e.index
    let fit := fun d : Head => d.enabled = true ∧ d.switch = true
    let record := fun q : RepairRecord => { q with
      point := e.index, block := s.blockOf e.index, needle := (s.player.history.getD e.block none).getD q.needle }
    ∃ t : State, exec (.encoderCount true elapsed) s = .next t ∧
      t.player.cursor = e.index + 1 ∧ t.player.resume = s.player.resume ∧ t.player.mode = .repair ∧
      t.player.active = some ⟨some e.index, e.kind, e.dx, e.dy, e.block⟩ ∧ t.shaft.state = .turning ∧
      t.frame = s.frame ∧ t.store = s.store ∧ t.nc = s.nc ∧ t.ev = s.ev ∧
      t.heads.table.length = s.heads.table.length ∧
      (∀ (i : Nat) (d : Head), s.heads.table[i]? = some d →
        (joins d → fit d →
          t.heads.table[i]? = some { d with role := .active, condition := .repairing, engaged := true } ∧
          ∀ n : HeadMonitor, s.thread.monitors[i]? = some n → d.engaged = false →
            t.thread.monitors[i]? = some { n with run := ⟨0, none, none, none⟩, tieIn := (s.thread.profileAt s.nc.pos).f }) ∧
        (joins d → ¬fit d → t.heads.table[i]? = some { d with role := .none, start := none, engaged := false }) ∧
        (d.role = .active → fit d → t.heads.table[i]? = some { d with engaged := true }) ∧
        (∀ q : RepairRecord, d.role = .active → ¬fit d → s.heads.repairOf (i + 1) = some q →
          t.heads.table[i]? = some { d with condition := .broken, role := .none, start := none, engaged := false } ∧
          record q ∈ t.heads.repairs ∧ ∀ x ∈ t.heads.repairs, x.head = i + 1 → x = record q) ∧
        (d.role ≠ .active → ¬joins d → t.heads.table[i]? = some { d with engaged := false }) ∧
        (∀ n : HeadMonitor, s.thread.monitors[i]? = some n →
          let cleared := (joins d ∧ fit d) ∨ (d.role = .active ∧ ¬fit d ∧ s.heads.repairOf (i + 1) ≠ none)
          t.thread.monitors[i]?.map HeadMonitor.run = some (if cleared then ⟨0, none, none, none⟩ else n.run))) ∧
      (let emptied := (∃ d ∈ s.heads.table, d.role ≠ Role.none) ∧ ∀ d ∈ t.heads.table, d.role = Role.none
       (emptied → t.player.state = .stopping ∧ t.player.stopReason = some (s.player.stopReason.getD .passEmpty) ∧
          t.player.soonStop = true) ∧
       (¬emptied → t.player.state = s.player.state ∧ t.player.stopReason = s.player.stopReason ∧
          t.player.soonStop = false))) ∧
  (∀ (m : Motion) (queue : List QueueEntry) (stopIndex : Option Nat),
    let scanned := fun (j : Nat) => ∀ i < j, ∀ e : QueueEntry, queue[i]? = some e → e.kind ≠ .stop ∧ e.kind ≠ .endRec
    let term := fun (t : Nat) =>
      (∃ (j : Nat) (e : QueueEntry), queue[j]? = some e ∧ scanned j ∧
        t = (if e.kind = .stop ∨ e.kind = .endRec then m.sStop else e.limit) + j * m.dn) ∨
      (scanned queue.length ∧ t = m.sStop + queue.length * m.dn) ∨
      ∃ (i : Nat) (e : QueueEntry), stopIndex = some i ∧ queue.head? = some e ∧ t = m.sStop + (i - e.index) * m.dn
    term (speedBound m queue stopIndex) ∧ ∀ t : Nat, term t → speedBound m queue stopIndex ≤ t)

/-- R80: at a boundary that begins a revolution of the sewing machine, a needle bar is released only in a STITCH or TRIM
revolution and only for a head that is enabled, switched on, and OK in a NORMAL pass or REPAIRING in a REPAIR pass. -/
def Obligations.BoundaryReleasesOnlyHeadsThatMaySew : Prop :=
  ∀ (s t : State) (elapsed : Nat), s.resetHeld = false → s.shaft.state = .turning →
    (s.shaft.angle + 1) % 1024 = s.gov.active.motion.wOpen → s.player.errand = .none →
    (s.player.entryTrim = .asked ∨ s.player.entryTrim = .active ∨
      (s.player.entryTrim = .none ∧ (s.player.state = .running ∨ s.player.state = .stopping))) →
    (∀ o ∈ s.outs.hold, o.mode = .auto) →
    (∀ d ∈ s.heads.table, d.role = .active → d.condition = .repairing) →
    exec (.encoderCount true elapsed) s = .next t →
    ∀ h : Nat, 1 ≤ h → t.released h = true →
      (∃ a : ActiveRecord, t.player.active = some a ∧ (a.kind = .stitch ∨ a.kind = .trim)) ∧
      ∃ d : Head, t.heads.table[h - 1]? = some d ∧ d.enabled = true ∧ d.switch = true ∧
        (match t.player.mode with
          | .normal => d.condition = .ok
          | .repair => d.condition = .repairing)
end

