-- ==== Sys2Proof/Laws/State.lean ====
section
/-! SUPPORT. One lemma per field per block update, so that no proof unfolds a record update. -/

namespace Sys2Proof.Machine

@[simp] theorem State.modStore_pending (s : State) (f : Store → Store) : (s.modStore f).pending = s.pending := rfl
@[simp] theorem State.modStore_straps (s : State) (f : Store → Store) : (s.modStore f).straps = s.straps := rfl
@[simp] theorem State.modStore_resetHeld (s : State) (f : Store → Store) : (s.modStore f).resetHeld = s.resetHeld := rfl
@[simp] theorem State.modStore_choices (s : State) (f : Store → Store) : (s.modStore f).choices = s.choices := rfl
@[simp] theorem State.modStore_store (s : State) (f : Store → Store) : (s.modStore f).store = f s.store := rfl
@[simp] theorem State.modStore_player (s : State) (f : Store → Store) : (s.modStore f).player = s.player := rfl
@[simp] theorem State.modStore_gov (s : State) (f : Store → Store) : (s.modStore f).gov = s.gov := rfl
@[simp] theorem State.modStore_shaft (s : State) (f : Store → Store) : (s.modStore f).shaft = s.shaft := rfl
@[simp] theorem State.modStore_outs (s : State) (f : Store → Store) : (s.modStore f).outs = s.outs := rfl
@[simp] theorem State.modStore_frame (s : State) (f : Store → Store) : (s.modStore f).frame = s.frame := rfl
@[simp] theorem State.modStore_nc (s : State) (f : Store → Store) : (s.modStore f).nc = s.nc := rfl
@[simp] theorem State.modStore_thread (s : State) (f : Store → Store) : (s.modStore f).thread = s.thread := rfl
@[simp] theorem State.modStore_heads (s : State) (f : Store → Store) : (s.modStore f).heads = s.heads := rfl
@[simp] theorem State.modStore_ev (s : State) (f : Store → Store) : (s.modStore f).ev = s.ev := rfl
@[simp] theorem State.modStore_link (s : State) (f : Store → Store) : (s.modStore f).link = s.link := rfl

@[simp] theorem State.modPlayer_pending (s : State) (f : Player → Player) : (s.modPlayer f).pending = s.pending := rfl
@[simp] theorem State.modPlayer_straps (s : State) (f : Player → Player) : (s.modPlayer f).straps = s.straps := rfl
@[simp] theorem State.modPlayer_resetHeld (s : State) (f : Player → Player) : (s.modPlayer f).resetHeld = s.resetHeld := rfl
@[simp] theorem State.modPlayer_choices (s : State) (f : Player → Player) : (s.modPlayer f).choices = s.choices := rfl
@[simp] theorem State.modPlayer_store (s : State) (f : Player → Player) : (s.modPlayer f).store = s.store := rfl
@[simp] theorem State.modPlayer_player (s : State) (f : Player → Player) : (s.modPlayer f).player = f s.player := rfl
@[simp] theorem State.modPlayer_gov (s : State) (f : Player → Player) : (s.modPlayer f).gov = s.gov := rfl
@[simp] theorem State.modPlayer_shaft (s : State) (f : Player → Player) : (s.modPlayer f).shaft = s.shaft := rfl
@[simp] theorem State.modPlayer_outs (s : State) (f : Player → Player) : (s.modPlayer f).outs = s.outs := rfl
@[simp] theorem State.modPlayer_frame (s : State) (f : Player → Player) : (s.modPlayer f).frame = s.frame := rfl
@[simp] theorem State.modPlayer_nc (s : State) (f : Player → Player) : (s.modPlayer f).nc = s.nc := rfl
@[simp] theorem State.modPlayer_thread (s : State) (f : Player → Player) : (s.modPlayer f).thread = s.thread := rfl
@[simp] theorem State.modPlayer_heads (s : State) (f : Player → Player) : (s.modPlayer f).heads = s.heads := rfl
@[simp] theorem State.modPlayer_ev (s : State) (f : Player → Player) : (s.modPlayer f).ev = s.ev := rfl
@[simp] theorem State.modPlayer_link (s : State) (f : Player → Player) : (s.modPlayer f).link = s.link := rfl

@[simp] theorem State.modGov_pending (s : State) (f : Governor → Governor) : (s.modGov f).pending = s.pending := rfl
@[simp] theorem State.modGov_straps (s : State) (f : Governor → Governor) : (s.modGov f).straps = s.straps := rfl
@[simp] theorem State.modGov_resetHeld (s : State) (f : Governor → Governor) : (s.modGov f).resetHeld = s.resetHeld := rfl
@[simp] theorem State.modGov_choices (s : State) (f : Governor → Governor) : (s.modGov f).choices = s.choices := rfl
@[simp] theorem State.modGov_store (s : State) (f : Governor → Governor) : (s.modGov f).store = s.store := rfl
@[simp] theorem State.modGov_player (s : State) (f : Governor → Governor) : (s.modGov f).player = s.player := rfl
@[simp] theorem State.modGov_gov (s : State) (f : Governor → Governor) : (s.modGov f).gov = f s.gov := rfl
@[simp] theorem State.modGov_shaft (s : State) (f : Governor → Governor) : (s.modGov f).shaft = s.shaft := rfl
@[simp] theorem State.modGov_outs (s : State) (f : Governor → Governor) : (s.modGov f).outs = s.outs := rfl
@[simp] theorem State.modGov_frame (s : State) (f : Governor → Governor) : (s.modGov f).frame = s.frame := rfl
@[simp] theorem State.modGov_nc (s : State) (f : Governor → Governor) : (s.modGov f).nc = s.nc := rfl
@[simp] theorem State.modGov_thread (s : State) (f : Governor → Governor) : (s.modGov f).thread = s.thread := rfl
@[simp] theorem State.modGov_heads (s : State) (f : Governor → Governor) : (s.modGov f).heads = s.heads := rfl
@[simp] theorem State.modGov_ev (s : State) (f : Governor → Governor) : (s.modGov f).ev = s.ev := rfl
@[simp] theorem State.modGov_link (s : State) (f : Governor → Governor) : (s.modGov f).link = s.link := rfl

@[simp] theorem State.modShaft_pending (s : State) (f : Shaft → Shaft) : (s.modShaft f).pending = s.pending := rfl
@[simp] theorem State.modShaft_straps (s : State) (f : Shaft → Shaft) : (s.modShaft f).straps = s.straps := rfl
@[simp] theorem State.modShaft_resetHeld (s : State) (f : Shaft → Shaft) : (s.modShaft f).resetHeld = s.resetHeld := rfl
@[simp] theorem State.modShaft_choices (s : State) (f : Shaft → Shaft) : (s.modShaft f).choices = s.choices := rfl
@[simp] theorem State.modShaft_store (s : State) (f : Shaft → Shaft) : (s.modShaft f).store = s.store := rfl
@[simp] theorem State.modShaft_player (s : State) (f : Shaft → Shaft) : (s.modShaft f).player = s.player := rfl
@[simp] theorem State.modShaft_gov (s : State) (f : Shaft → Shaft) : (s.modShaft f).gov = s.gov := rfl
@[simp] theorem State.modShaft_shaft (s : State) (f : Shaft → Shaft) : (s.modShaft f).shaft = f s.shaft := rfl
@[simp] theorem State.modShaft_outs (s : State) (f : Shaft → Shaft) : (s.modShaft f).outs = s.outs := rfl
@[simp] theorem State.modShaft_frame (s : State) (f : Shaft → Shaft) : (s.modShaft f).frame = s.frame := rfl
@[simp] theorem State.modShaft_nc (s : State) (f : Shaft → Shaft) : (s.modShaft f).nc = s.nc := rfl
@[simp] theorem State.modShaft_thread (s : State) (f : Shaft → Shaft) : (s.modShaft f).thread = s.thread := rfl
@[simp] theorem State.modShaft_heads (s : State) (f : Shaft → Shaft) : (s.modShaft f).heads = s.heads := rfl
@[simp] theorem State.modShaft_ev (s : State) (f : Shaft → Shaft) : (s.modShaft f).ev = s.ev := rfl
@[simp] theorem State.modShaft_link (s : State) (f : Shaft → Shaft) : (s.modShaft f).link = s.link := rfl

@[simp] theorem State.modOuts_pending (s : State) (f : Outputs → Outputs) : (s.modOuts f).pending = s.pending := rfl
@[simp] theorem State.modOuts_straps (s : State) (f : Outputs → Outputs) : (s.modOuts f).straps = s.straps := rfl
@[simp] theorem State.modOuts_resetHeld (s : State) (f : Outputs → Outputs) : (s.modOuts f).resetHeld = s.resetHeld := rfl
@[simp] theorem State.modOuts_choices (s : State) (f : Outputs → Outputs) : (s.modOuts f).choices = s.choices := rfl
@[simp] theorem State.modOuts_store (s : State) (f : Outputs → Outputs) : (s.modOuts f).store = s.store := rfl
@[simp] theorem State.modOuts_player (s : State) (f : Outputs → Outputs) : (s.modOuts f).player = s.player := rfl
@[simp] theorem State.modOuts_gov (s : State) (f : Outputs → Outputs) : (s.modOuts f).gov = s.gov := rfl
@[simp] theorem State.modOuts_shaft (s : State) (f : Outputs → Outputs) : (s.modOuts f).shaft = s.shaft := rfl
@[simp] theorem State.modOuts_outs (s : State) (f : Outputs → Outputs) : (s.modOuts f).outs = f s.outs := rfl
@[simp] theorem State.modOuts_frame (s : State) (f : Outputs → Outputs) : (s.modOuts f).frame = s.frame := rfl
@[simp] theorem State.modOuts_nc (s : State) (f : Outputs → Outputs) : (s.modOuts f).nc = s.nc := rfl
@[simp] theorem State.modOuts_thread (s : State) (f : Outputs → Outputs) : (s.modOuts f).thread = s.thread := rfl
@[simp] theorem State.modOuts_heads (s : State) (f : Outputs → Outputs) : (s.modOuts f).heads = s.heads := rfl
@[simp] theorem State.modOuts_ev (s : State) (f : Outputs → Outputs) : (s.modOuts f).ev = s.ev := rfl
@[simp] theorem State.modOuts_link (s : State) (f : Outputs → Outputs) : (s.modOuts f).link = s.link := rfl

@[simp] theorem State.modFrame_pending (s : State) (f : Frame → Frame) : (s.modFrame f).pending = s.pending := rfl
@[simp] theorem State.modFrame_straps (s : State) (f : Frame → Frame) : (s.modFrame f).straps = s.straps := rfl
@[simp] theorem State.modFrame_resetHeld (s : State) (f : Frame → Frame) : (s.modFrame f).resetHeld = s.resetHeld := rfl
@[simp] theorem State.modFrame_choices (s : State) (f : Frame → Frame) : (s.modFrame f).choices = s.choices := rfl
@[simp] theorem State.modFrame_store (s : State) (f : Frame → Frame) : (s.modFrame f).store = s.store := rfl
@[simp] theorem State.modFrame_player (s : State) (f : Frame → Frame) : (s.modFrame f).player = s.player := rfl
@[simp] theorem State.modFrame_gov (s : State) (f : Frame → Frame) : (s.modFrame f).gov = s.gov := rfl
@[simp] theorem State.modFrame_shaft (s : State) (f : Frame → Frame) : (s.modFrame f).shaft = s.shaft := rfl
@[simp] theorem State.modFrame_outs (s : State) (f : Frame → Frame) : (s.modFrame f).outs = s.outs := rfl
@[simp] theorem State.modFrame_frame (s : State) (f : Frame → Frame) : (s.modFrame f).frame = f s.frame := rfl
@[simp] theorem State.modFrame_nc (s : State) (f : Frame → Frame) : (s.modFrame f).nc = s.nc := rfl
@[simp] theorem State.modFrame_thread (s : State) (f : Frame → Frame) : (s.modFrame f).thread = s.thread := rfl
@[simp] theorem State.modFrame_heads (s : State) (f : Frame → Frame) : (s.modFrame f).heads = s.heads := rfl
@[simp] theorem State.modFrame_ev (s : State) (f : Frame → Frame) : (s.modFrame f).ev = s.ev := rfl
@[simp] theorem State.modFrame_link (s : State) (f : Frame → Frame) : (s.modFrame f).link = s.link := rfl

@[simp] theorem State.modCase_pending (s : State) (f : NeedleCase → NeedleCase) : (s.modCase f).pending = s.pending := rfl
@[simp] theorem State.modCase_straps (s : State) (f : NeedleCase → NeedleCase) : (s.modCase f).straps = s.straps := rfl
@[simp] theorem State.modCase_resetHeld (s : State) (f : NeedleCase → NeedleCase) : (s.modCase f).resetHeld = s.resetHeld := rfl
@[simp] theorem State.modCase_choices (s : State) (f : NeedleCase → NeedleCase) : (s.modCase f).choices = s.choices := rfl
@[simp] theorem State.modCase_store (s : State) (f : NeedleCase → NeedleCase) : (s.modCase f).store = s.store := rfl
@[simp] theorem State.modCase_player (s : State) (f : NeedleCase → NeedleCase) : (s.modCase f).player = s.player := rfl
@[simp] theorem State.modCase_gov (s : State) (f : NeedleCase → NeedleCase) : (s.modCase f).gov = s.gov := rfl
@[simp] theorem State.modCase_shaft (s : State) (f : NeedleCase → NeedleCase) : (s.modCase f).shaft = s.shaft := rfl
@[simp] theorem State.modCase_outs (s : State) (f : NeedleCase → NeedleCase) : (s.modCase f).outs = s.outs := rfl
@[simp] theorem State.modCase_frame (s : State) (f : NeedleCase → NeedleCase) : (s.modCase f).frame = s.frame := rfl
@[simp] theorem State.modCase_nc (s : State) (f : NeedleCase → NeedleCase) : (s.modCase f).nc = f s.nc := rfl
@[simp] theorem State.modCase_thread (s : State) (f : NeedleCase → NeedleCase) : (s.modCase f).thread = s.thread := rfl
@[simp] theorem State.modCase_heads (s : State) (f : NeedleCase → NeedleCase) : (s.modCase f).heads = s.heads := rfl
@[simp] theorem State.modCase_ev (s : State) (f : NeedleCase → NeedleCase) : (s.modCase f).ev = s.ev := rfl
@[simp] theorem State.modCase_link (s : State) (f : NeedleCase → NeedleCase) : (s.modCase f).link = s.link := rfl

@[simp] theorem State.modThread_pending (s : State) (f : Thread → Thread) : (s.modThread f).pending = s.pending := rfl
@[simp] theorem State.modThread_straps (s : State) (f : Thread → Thread) : (s.modThread f).straps = s.straps := rfl
@[simp] theorem State.modThread_resetHeld (s : State) (f : Thread → Thread) : (s.modThread f).resetHeld = s.resetHeld := rfl
@[simp] theorem State.modThread_choices (s : State) (f : Thread → Thread) : (s.modThread f).choices = s.choices := rfl
@[simp] theorem State.modThread_store (s : State) (f : Thread → Thread) : (s.modThread f).store = s.store := rfl
@[simp] theorem State.modThread_player (s : State) (f : Thread → Thread) : (s.modThread f).player = s.player := rfl
@[simp] theorem State.modThread_gov (s : State) (f : Thread → Thread) : (s.modThread f).gov = s.gov := rfl
@[simp] theorem State.modThread_shaft (s : State) (f : Thread → Thread) : (s.modThread f).shaft = s.shaft := rfl
@[simp] theorem State.modThread_outs (s : State) (f : Thread → Thread) : (s.modThread f).outs = s.outs := rfl
@[simp] theorem State.modThread_frame (s : State) (f : Thread → Thread) : (s.modThread f).frame = s.frame := rfl
@[simp] theorem State.modThread_nc (s : State) (f : Thread → Thread) : (s.modThread f).nc = s.nc := rfl
@[simp] theorem State.modThread_thread (s : State) (f : Thread → Thread) : (s.modThread f).thread = f s.thread := rfl
@[simp] theorem State.modThread_heads (s : State) (f : Thread → Thread) : (s.modThread f).heads = s.heads := rfl
@[simp] theorem State.modThread_ev (s : State) (f : Thread → Thread) : (s.modThread f).ev = s.ev := rfl
@[simp] theorem State.modThread_link (s : State) (f : Thread → Thread) : (s.modThread f).link = s.link := rfl

@[simp] theorem State.modHeads_pending (s : State) (f : Heads → Heads) : (s.modHeads f).pending = s.pending := rfl
@[simp] theorem State.modHeads_straps (s : State) (f : Heads → Heads) : (s.modHeads f).straps = s.straps := rfl
@[simp] theorem State.modHeads_resetHeld (s : State) (f : Heads → Heads) : (s.modHeads f).resetHeld = s.resetHeld := rfl
@[simp] theorem State.modHeads_choices (s : State) (f : Heads → Heads) : (s.modHeads f).choices = s.choices := rfl
@[simp] theorem State.modHeads_store (s : State) (f : Heads → Heads) : (s.modHeads f).store = s.store := rfl
@[simp] theorem State.modHeads_player (s : State) (f : Heads → Heads) : (s.modHeads f).player = s.player := rfl
@[simp] theorem State.modHeads_gov (s : State) (f : Heads → Heads) : (s.modHeads f).gov = s.gov := rfl
@[simp] theorem State.modHeads_shaft (s : State) (f : Heads → Heads) : (s.modHeads f).shaft = s.shaft := rfl
@[simp] theorem State.modHeads_outs (s : State) (f : Heads → Heads) : (s.modHeads f).outs = s.outs := rfl
@[simp] theorem State.modHeads_frame (s : State) (f : Heads → Heads) : (s.modHeads f).frame = s.frame := rfl
@[simp] theorem State.modHeads_nc (s : State) (f : Heads → Heads) : (s.modHeads f).nc = s.nc := rfl
@[simp] theorem State.modHeads_thread (s : State) (f : Heads → Heads) : (s.modHeads f).thread = s.thread := rfl
@[simp] theorem State.modHeads_heads (s : State) (f : Heads → Heads) : (s.modHeads f).heads = f s.heads := rfl
@[simp] theorem State.modHeads_ev (s : State) (f : Heads → Heads) : (s.modHeads f).ev = s.ev := rfl
@[simp] theorem State.modHeads_link (s : State) (f : Heads → Heads) : (s.modHeads f).link = s.link := rfl

@[simp] theorem State.modEv_pending (s : State) (f : Events → Events) : (s.modEv f).pending = s.pending := rfl
@[simp] theorem State.modEv_straps (s : State) (f : Events → Events) : (s.modEv f).straps = s.straps := rfl
@[simp] theorem State.modEv_resetHeld (s : State) (f : Events → Events) : (s.modEv f).resetHeld = s.resetHeld := rfl
@[simp] theorem State.modEv_choices (s : State) (f : Events → Events) : (s.modEv f).choices = s.choices := rfl
@[simp] theorem State.modEv_store (s : State) (f : Events → Events) : (s.modEv f).store = s.store := rfl
@[simp] theorem State.modEv_player (s : State) (f : Events → Events) : (s.modEv f).player = s.player := rfl
@[simp] theorem State.modEv_gov (s : State) (f : Events → Events) : (s.modEv f).gov = s.gov := rfl
@[simp] theorem State.modEv_shaft (s : State) (f : Events → Events) : (s.modEv f).shaft = s.shaft := rfl
@[simp] theorem State.modEv_outs (s : State) (f : Events → Events) : (s.modEv f).outs = s.outs := rfl
@[simp] theorem State.modEv_frame (s : State) (f : Events → Events) : (s.modEv f).frame = s.frame := rfl
@[simp] theorem State.modEv_nc (s : State) (f : Events → Events) : (s.modEv f).nc = s.nc := rfl
@[simp] theorem State.modEv_thread (s : State) (f : Events → Events) : (s.modEv f).thread = s.thread := rfl
@[simp] theorem State.modEv_heads (s : State) (f : Events → Events) : (s.modEv f).heads = s.heads := rfl
@[simp] theorem State.modEv_ev (s : State) (f : Events → Events) : (s.modEv f).ev = f s.ev := rfl
@[simp] theorem State.modEv_link (s : State) (f : Events → Events) : (s.modEv f).link = s.link := rfl

@[simp] theorem State.modLink_pending (s : State) (f : Link → Link) : (s.modLink f).pending = s.pending := rfl
@[simp] theorem State.modLink_straps (s : State) (f : Link → Link) : (s.modLink f).straps = s.straps := rfl
@[simp] theorem State.modLink_resetHeld (s : State) (f : Link → Link) : (s.modLink f).resetHeld = s.resetHeld := rfl
@[simp] theorem State.modLink_choices (s : State) (f : Link → Link) : (s.modLink f).choices = s.choices := rfl
@[simp] theorem State.modLink_store (s : State) (f : Link → Link) : (s.modLink f).store = s.store := rfl
@[simp] theorem State.modLink_player (s : State) (f : Link → Link) : (s.modLink f).player = s.player := rfl
@[simp] theorem State.modLink_gov (s : State) (f : Link → Link) : (s.modLink f).gov = s.gov := rfl
@[simp] theorem State.modLink_shaft (s : State) (f : Link → Link) : (s.modLink f).shaft = s.shaft := rfl
@[simp] theorem State.modLink_outs (s : State) (f : Link → Link) : (s.modLink f).outs = s.outs := rfl
@[simp] theorem State.modLink_frame (s : State) (f : Link → Link) : (s.modLink f).frame = s.frame := rfl
@[simp] theorem State.modLink_nc (s : State) (f : Link → Link) : (s.modLink f).nc = s.nc := rfl
@[simp] theorem State.modLink_thread (s : State) (f : Link → Link) : (s.modLink f).thread = s.thread := rfl
@[simp] theorem State.modLink_heads (s : State) (f : Link → Link) : (s.modLink f).heads = s.heads := rfl
@[simp] theorem State.modLink_ev (s : State) (f : Link → Link) : (s.modLink f).ev = s.ev := rfl
@[simp] theorem State.modLink_link (s : State) (f : Link → Link) : (s.modLink f).link = f s.link := rfl

theorem State.modStore_modStore (s : State) (f g : Store → Store) : (s.modStore f).modStore g = s.modStore fun x => g (f x) := rfl
@[simp] theorem State.modStore_id (s : State) : (s.modStore fun x => x) = s := rfl
theorem State.modPlayer_modPlayer (s : State) (f g : Player → Player) : (s.modPlayer f).modPlayer g = s.modPlayer fun x => g (f x) := rfl
@[simp] theorem State.modPlayer_id (s : State) : (s.modPlayer fun x => x) = s := rfl
theorem State.modGov_modGov (s : State) (f g : Governor → Governor) : (s.modGov f).modGov g = s.modGov fun x => g (f x) := rfl
@[simp] theorem State.modGov_id (s : State) : (s.modGov fun x => x) = s := rfl
theorem State.modShaft_modShaft (s : State) (f g : Shaft → Shaft) : (s.modShaft f).modShaft g = s.modShaft fun x => g (f x) := rfl
@[simp] theorem State.modShaft_id (s : State) : (s.modShaft fun x => x) = s := rfl
theorem State.modOuts_modOuts (s : State) (f g : Outputs → Outputs) : (s.modOuts f).modOuts g = s.modOuts fun x => g (f x) := rfl
@[simp] theorem State.modOuts_id (s : State) : (s.modOuts fun x => x) = s := rfl
theorem State.modFrame_modFrame (s : State) (f g : Frame → Frame) : (s.modFrame f).modFrame g = s.modFrame fun x => g (f x) := rfl
@[simp] theorem State.modFrame_id (s : State) : (s.modFrame fun x => x) = s := rfl
theorem State.modCase_modCase (s : State) (f g : NeedleCase → NeedleCase) : (s.modCase f).modCase g = s.modCase fun x => g (f x) := rfl
@[simp] theorem State.modCase_id (s : State) : (s.modCase fun x => x) = s := rfl
theorem State.modThread_modThread (s : State) (f g : Thread → Thread) : (s.modThread f).modThread g = s.modThread fun x => g (f x) := rfl
@[simp] theorem State.modThread_id (s : State) : (s.modThread fun x => x) = s := rfl
theorem State.modHeads_modHeads (s : State) (f g : Heads → Heads) : (s.modHeads f).modHeads g = s.modHeads fun x => g (f x) := rfl
@[simp] theorem State.modHeads_id (s : State) : (s.modHeads fun x => x) = s := rfl
theorem State.modEv_modEv (s : State) (f g : Events → Events) : (s.modEv f).modEv g = s.modEv fun x => g (f x) := rfl
@[simp] theorem State.modEv_id (s : State) : (s.modEv fun x => x) = s := rfl
theorem State.modLink_modLink (s : State) (f g : Link → Link) : (s.modLink f).modLink g = s.modLink fun x => g (f x) := rfl
@[simp] theorem State.modLink_id (s : State) : (s.modLink fun x => x) = s := rfl

end Sys2Proof.Machine
end

