-- ==== Sys2Proof/Laws/Frames.lean ====
section
/-! SUPPORT. What almost every operation leaves alone, said once for each: the waiting commands, the straps, the RESET mark,
and the design store but for its pins. -/

namespace Sys2Proof.Machine

/-- A directory entry without its pins. -/
def Design.unpinned (d : Design) : Design := { d with armedPin := false, repairPin := false }

/-- The design store without its pins. -/
def Store.unpinned (st : Store) : Store := { st with dir := st.dir.map fun o => o.map Design.unpinned }

/-- What only resets and the requests of the design store change. -/
def State.base (s : State) : List Instr × Straps × Bool × Store := (s.pending, s.straps, s.resetHeld, s.store.unpinned)

theorem Store.modDesign_unpinned (st : Store) (n : Nat) (f : Design → Design) (h : ∀ d, (f d).unpinned = d.unpinned) :
    (st.modDesign n f).unpinned = st.unpinned := by
  unfold Store.modDesign Store.unpinned
  simp only [List.map_map, Store.mk.injEq, and_true]
  refine List.map_congr_left fun o _ => ?_
  cases o with
  | none => rfl
  | some d => by_cases hn : d.number = n <;> simp [hn, h]

theorem State.modStore_base (s : State) (f : Store → Store) (h : (f s.store).unpinned = s.store.unpinned) :
    (s.modStore f).base = s.base := by
  simp [State.base, h]

@[simp] theorem State.modPlayer_base (s : State) (f : Player → Player) : (s.modPlayer f).base = s.base := rfl
@[simp] theorem State.modGov_base (s : State) (f : Governor → Governor) : (s.modGov f).base = s.base := rfl
@[simp] theorem State.modShaft_base (s : State) (f : Shaft → Shaft) : (s.modShaft f).base = s.base := rfl
@[simp] theorem State.modOuts_base (s : State) (f : Outputs → Outputs) : (s.modOuts f).base = s.base := rfl
@[simp] theorem State.modFrame_base (s : State) (f : Frame → Frame) : (s.modFrame f).base = s.base := rfl
@[simp] theorem State.modCase_base (s : State) (f : NeedleCase → NeedleCase) : (s.modCase f).base = s.base := rfl
@[simp] theorem State.modThread_base (s : State) (f : Thread → Thread) : (s.modThread f).base = s.base := rfl
@[simp] theorem State.modHeads_base (s : State) (f : Heads → Heads) : (s.modHeads f).base = s.base := rfl
@[simp] theorem State.modEv_base (s : State) (f : Events → Events) : (s.modEv f).base = s.base := rfl
@[simp] theorem State.modLink_base (s : State) (f : Link → Link) : (s.modLink f).base = s.base := rfl
@[simp] theorem State.latch_base (s : State) (e : Event) (detail : List Byte) : (s.latch e detail).base = s.base := by
  unfold State.latch; (repeat' split) <;> simp

@[simp] theorem State.pinRepairs_base (s : State) : s.pinRepairs.base = s.base := by
  unfold State.pinRepairs
  split
  · exact State.modStore_base _ _ (Store.modDesign_unpinned _ _ _ fun _ => rfl)
  · rfl

@[simp] theorem State.removeRecords_base (s : State) (gone : Nat → Bool) : (s.removeRecords gone).base = s.base := by
  simp [State.removeRecords]
@[simp] theorem State.rebreak_base (s : State) (h point needle : Nat) (cause : BreakCause) :
    (s.rebreak h point needle cause).base = s.base := by
  unfold State.rebreak; (repeat' split) <;> simp
@[simp] theorem State.firstBreak_base (s : State) (h point needle : Nat) (cause : BreakCause) :
    (s.firstBreak h point needle cause).base = s.base := by
  simp [State.firstBreak]

/-- A fold of changes that each keep the base keeps it. -/
theorem State.foldl_base {α : Type} (f : State → α → State) (h : ∀ s a, (f s a).base = s.base) (l : List α) (s : State) :
    (l.foldl f s).base = s.base := by
  induction l generalizing s with
  | nil => rfl
  | cons a l ih => simp [ih, h]

@[simp] theorem State.leavePass_base (s : State) : s.leavePass.base = s.base := by
  unfold State.leavePass
  simp only [State.modPlayer_base, State.modHeads_base]
  exact State.foldl_base _ (fun s h => by split <;> simp) _ _

@[simp] theorem State.lend_base (s : State) : s.lend.base = s.base := by
  unfold State.lend; (repeat' split) <;> simp
@[simp] theorem State.release_base (s : State) : s.release.base = s.base := by
  unfold State.release; (repeat' split) <;> simp
@[simp] theorem State.abandonSewing_base (s : State) : s.abandonSewing.base = s.base := by
  unfold State.abandonSewing; (repeat' split) <;> simp
@[simp] theorem State.finishMove_base (s : State) (abort : Option AbortCause) : (s.finishMove abort).base = s.base := by
  unfold State.finishMove; (repeat' split) <;> simp
@[simp] theorem State.slowMove_base (s : State) (cause : AbortCause) : (s.slowMove cause).base = s.base := by
  unfold State.slowMove; (repeat' split) <;> simp
@[simp] theorem State.slowPositioner_base (s : State) (cause : AbortCause) : (s.slowPositioner cause).base = s.base := by
  unfold State.slowPositioner; (repeat' split) <;> simp
@[simp] theorem State.stopFrame_base (s : State) (cause : AbortCause) : (s.stopFrame cause).base = s.base := by
  simp [State.stopFrame]
@[simp] theorem State.endRevolution_base (s : State) (completed : Bool) : (s.endRevolution completed).base = s.base := by
  unfold State.endRevolution; (repeat' split) <;> simp
@[simp] theorem State.disengage_base (s : State) : s.disengage.base = s.base := by
  simp [State.disengage]
@[simp] theorem State.enterOff_base (s : State) : s.enterOff.base = s.base := by
  simp [State.enterOff]
@[simp] theorem State.enterBraking_base (s : State) : s.enterBraking.base = s.base := by
  unfold State.enterBraking; (repeat' split) <;> simp
@[simp] theorem State.brakeRequest_base (s : State) : s.brakeRequest.base = s.base := by
  unfold State.brakeRequest; (repeat' split) <;> simp
@[simp] theorem State.reportPlayer_base (s : State) : s.reportPlayer.base = s.base := by
  simp [State.reportPlayer]
@[simp] theorem State.enterHalted_base (s : State) (c : HaltCause) : (s.enterHalted c).base = s.base := by
  unfold State.enterHalted; simp only []; (repeat' split) <;> simp
@[simp] theorem State.haltAgain_base (s : State) (kept c : HaltCause) : (s.haltAgain kept c).base = s.base := by
  unfold State.haltAgain; simp only []; (repeat' split) <;> simp
@[simp] theorem State.reportFault_base (s : State) (c : HaltCause) : (s.reportFault c).base = s.base := by
  unfold State.reportFault; (repeat' split) <;> simp
@[simp] theorem State.shaftFault_base (s : State) (c : ShaftCause) : (s.shaftFault c).base = s.base := by
  unfold State.shaftFault; simp only []; (repeat' split) <;> simp
@[simp] theorem State.axisFault_base (s : State) (c : AxisCause) : (s.axisFault c).base = s.base := by
  unfold State.axisFault; (repeat' split) <;> simp
@[simp] theorem State.caseFault_base (s : State) (c : CaseCause) : (s.caseFault c).base = s.base := by
  simp [State.caseFault]
@[simp] theorem State.enterPositioning_base (s : State) : s.enterPositioning.base = s.base := by
  unfold State.enterPositioning; simp only []; (repeat' split) <;> simp
@[simp] theorem State.enterTurning_base (s : State) : s.enterTurning.base = s.base := by
  unfold State.enterTurning; simp only []; (repeat' split) <;> simp
@[simp] theorem State.holdRequest_base (s : State) : s.holdRequest.base = s.base := by
  unfold State.holdRequest; (repeat' split) <;> simp
@[simp] theorem State.turnRequest_base (s : State) : s.turnRequest.base = s.base := by
  unfold State.turnRequest; (repeat' split) <;> simp
@[simp] theorem State.positionRequest_base (s : State) : s.positionRequest.base = s.base := by
  unfold State.positionRequest; (repeat' split) <;> simp

theorem State.prefetchN_base (n : Nat) (s : State) : (State.prefetchN n s).base = s.base := by
  induction n generalizing s with
  | zero => rfl
  | succ n ih => unfold State.prefetchN; split <;> simp [ih]

@[simp] theorem State.prefetch_base (s : State) : s.prefetch.base = s.base := State.prefetchN_base 32 s

@[simp] theorem State.refill_base (s : State) : s.refill.base = s.base := by
  simp [State.refill]
@[simp] theorem State.enterPaused_base (s : State) (r : PauseReason) : (s.enterPaused r).base = s.base := by
  simp [State.enterPaused]
@[simp] theorem State.enterFinished_base (s : State) : s.enterFinished.base = s.base := by
  simp [State.enterFinished]
@[simp] theorem State.takeReason_base (s : State) (r : StopReason) (why : PauseReason) :
    (s.takeReason r why).base = s.base := by
  unfold State.takeReason; (repeat' split) <;> simp
@[simp] theorem State.exitStarved_base (s : State) : s.exitStarved.base = s.base := by
  simp [State.exitStarved]
@[simp] theorem State.enterStarved_base (s : State) : s.enterStarved.base = s.base := by
  unfold State.enterStarved; simp only []; (repeat' split) <;> simp
@[simp] theorem State.dropSelection_base (s : State) (r : StopReason) : (s.dropSelection r).base = s.base := by
  unfold State.dropSelection; (repeat' split) <;> simp
@[simp] theorem State.plannedStop_base (s : State) (r : StopReason) (index : Option Nat) :
    (s.plannedStop r index).base = s.base := by
  unfold State.plannedStop; (repeat' split) <;> simp
@[simp] theorem State.designFailed_base (s : State) : s.designFailed.base = s.base := by
  unfold State.designFailed; (repeat' split) <;> simp
@[simp] theorem State.storeReport_base (s : State) : s.storeReport.base = s.base := by
  unfold State.storeReport; simp only []; (repeat' split) <;> simp

theorem State.askStop_base (s t : State) (r : StopReason) (h : s.askStop r = some t) : t.base = s.base := by
  unfold State.askStop at h
  split at h <;> first | (injection h with h; rw [← h]; simp) | (cases h)

@[simp] theorem State.passProper_base (s : State) : s.passProper.base = s.base := by
  simp [State.passProper]
@[simp] theorem State.passBegin_base (s : State) (saved : SavedReason) : (s.passBegin saved).base = s.base := by
  unfold State.passBegin; simp only []; (repeat' split) <;> simp
@[simp] theorem State.entryTrimHeld_base (s : State) : s.entryTrimHeld.base = s.base := by
  unfold State.entryTrimHeld; (repeat' split) <;> simp
@[simp] theorem State.passEnd_base (s : State) : s.passEnd.base = s.base := by
  unfold State.passEnd; simp only []; (repeat' split) <;> simp
@[simp] theorem State.enterRunning_base (s : State) : s.enterRunning.base = s.base := by
  unfold State.enterRunning; simp only []; (repeat' split) <;> simp
@[simp] theorem State.takeStop_base (s : State) (e : QueueEntry) : (s.takeStop e).base = s.base := by
  simp [State.takeStop]
@[simp] theorem State.leadDone_base (s : State) : s.leadDone.base = s.base := by
  unfold State.leadDone; (repeat' split) <;> simp
@[simp] theorem State.returnDone_base (s : State) (source : ChangeSource) : (s.returnDone source).base = s.base := by
  unfold State.returnDone; simp only []; (repeat' split) <;> simp
@[simp] theorem State.landed_base (s : State) : s.landed.base = s.base := by
  simp [State.landed]
@[simp] theorem State.playerMoveDone_base (s : State) : s.playerMoveDone.base = s.base := by
  unfold State.playerMoveDone; (repeat' split) <;> simp
@[simp] theorem State.playerMove_base (s : State) (op : MoveOp) (errand : Errand) :
    (s.playerMove op errand).base = s.base := by
  unfold State.playerMove; simp only []; (repeat' split) <;> simp
@[simp] theorem State.changeDone_base (s : State) : s.changeDone.base = s.base := by
  unfold State.changeDone; simp only []; (repeat' split) <;> simp
@[simp] theorem State.caseComplete_base (s : State) (j : CaseJob) (energised : Bool) :
    (s.caseComplete j energised).base = s.base := by
  unfold State.caseComplete; (repeat' split) <;> simp
@[simp] theorem State.beginCase_base (s : State) (j : CaseJob) : (s.beginCase j).base = s.base := by
  unfold State.beginCase; (repeat' split) <;> simp
@[simp] theorem State.enteringChange_base (s : State) (source : ChangeSource) (block : Nat) :
    (s.enteringChange source block).base = s.base := by
  simp [State.enteringChange]
@[simp] theorem State.restoringChange_base (s : State) (source : ChangeSource) (block target : Nat) :
    (s.restoringChange source block target).base = s.base := by
  unfold State.restoringChange; (repeat' split) <;> simp
@[simp] theorem State.decideChange_base (s : State) (source : ChangeSource) (asked : Nat) :
    (s.decideChange source asked).base = s.base := by
  unfold State.decideChange; simp only []; (repeat' split) <;> simp
@[simp] theorem State.plannedHeld_base (s : State) : s.plannedHeld.base = s.base := by
  unfold State.plannedHeld; simp only []; (repeat' split) <;> simp
@[simp] theorem State.recovered_base (s : State) : s.recovered.base = s.base := by
  unfold State.recovered; simp only []; (repeat' split) <;> simp
theorem State.beginKept_base (s t : State) (h : s.beginKept = some t) : t.base = s.base := by
  unfold State.beginKept at h
  (repeat' split at h) <;> first | (injection h with h; rw [← h]; simp) | (cases h)
@[simp] theorem State.beginKept_getD_base (s : State) : (s.beginKept.getD s).base = s.base := by
  cases h : s.beginKept with
  | none => rfl
  | some t => exact State.beginKept_base s t h
@[simp] theorem State.turnKept_base (s : State) : s.turnKept.base = s.base := by
  unfold State.turnKept; split <;> simp
@[simp] theorem State.reachHeld_base (s : State) : s.reachHeld.base = s.base := by
  unfold State.reachHeld; simp only []; (repeat' split) <;> simp

theorem State.settleOne_base (s t : State) (h : s.settleOne = some t) : t.base = s.base := by
  unfold State.settleOne at h
  split at h
  · exact State.beginKept_base s t h
  · (repeat' split at h) <;> first | (injection h with h; rw [← h]; simp) | (cases h)

theorem State.settleN_base (n : Nat) (s : State) : (State.settleN n s).base = s.base := by
  induction n generalizing s with
  | zero => rfl
  | succ n ih =>
    unfold State.settleN
    split
    · rename_i t h; rw [ih, State.settleOne_base s t h]
    · rfl

@[simp] theorem State.settle_base (s : State) : s.settle.base = s.base := State.settleN_base 2048 s

@[simp] theorem State.normalBreak_base (s : State) (h point needle : Nat) (cause : BreakCause) :
    (s.normalBreak h point needle cause).base = s.base := by
  unfold State.normalBreak; simp only []; (repeat' split) <;> simp
@[simp] theorem State.repairBreak_base (s : State) (h point needle : Nat) (cause : BreakCause) :
    (s.repairBreak h point needle cause).base = s.base := by
  unfold State.repairBreak; simp only []; (repeat' split) <;> simp
@[simp] theorem State.declareBreak_base (s : State) (h : Nat) : (s.declareBreak h).base = s.base := by
  unfold State.declareBreak; simp only []; (repeat' split) <;> simp
@[simp] theorem State.giveVerdict_base (s : State) (r : SewnRevolution) (h : Nat) : (s.giveVerdict r h).base = s.base := by
  unfold State.giveVerdict; simp only []; (repeat' split) <;> simp
@[simp] theorem State.closeHead_base (r : SewnRevolution) (s : State) (h : Nat) : (State.closeHead r s h).base = s.base := by
  unfold State.closeHead; (repeat' split) <;> simp

@[simp] theorem State.closeWindow_base (s : State) (r : SewnRevolution) : (s.closeWindow r).base = s.base := by
  unfold State.closeWindow
  rw [State.foldl_base _ fun s h => State.closeHead_base r s h]
  simp

@[simp] theorem State.joinHeads_base (s : State) (index : Nat) : (s.joinHeads index).base = s.base := by
  simp [State.joinHeads]

@[simp] theorem State.dropHeads_base (s : State) (index block : Nat) : (s.dropHeads index block).base = s.base := by
  unfold State.dropHeads
  exact State.foldl_base _ (fun s h => by split <;> simp) _ _

@[simp] theorem State.passHeads_base (s : State) (index block : Nat) : (s.passHeads index block).base = s.base := by
  unfold State.passHeads; simp only []; (repeat' split) <;> simp
@[simp] theorem State.engage_base (s : State) : s.engage.base = s.base := by
  simp [State.engage]
@[simp] theorem State.handMonitor_base (s : State) (kind : RecKind) (index : Nat) (dx dy : Int) (before : Nat → Bool) :
    (s.handMonitor kind index dx dy before).base = s.base := by
  simp [State.handMonitor]
@[simp] theorem State.armHolder_base (s : State) (kind : RecKind) : (s.armHolder kind).base = s.base := by
  unfold State.armHolder; (repeat' split) <;> simp
@[simp] theorem State.noHandover_base (s : State) : s.noHandover.base = s.base := by
  simp [State.noHandover]
@[simp] theorem State.command_base (s : State) (c : Nat) : (s.command c).base = s.base := by
  simp [State.command]
@[simp] theorem State.handover_base (s : State) (e : QueueEntry) : (s.handover e).base = s.base := by
  simp [State.handover]
@[simp] theorem State.beginEntryTrim_base (s : State) : s.beginEntryTrim.base = s.base := by
  simp [State.beginEntryTrim]
@[simp] theorem State.endEntryTrim_base (s : State) : s.endEntryTrim.base = s.base := by
  simp [State.endEntryTrim]
@[simp] theorem State.playerBoundary_base (s : State) : s.playerBoundary.base = s.base := by
  unfold State.playerBoundary; simp only []; (repeat' split) <;> simp
@[simp] theorem State.boundary_base (s : State) : s.boundary.base = s.base := by
  unfold State.boundary; (repeat' split) <;> simp
@[simp] theorem State.sewn_base (s : State) (v v' : SewMove) : (s.sewn v v').base = s.base := by
  simp [State.sewn]
@[simp] theorem State.sewSteps_base (s : State) (t : Nat) : (s.sewSteps t).base = s.base := by
  unfold State.sewSteps; (repeat' split) <;> simp
@[simp] theorem State.heldSteps_base (s : State) (t : Nat) : (s.heldSteps t).base = s.base := by
  unfold State.heldSteps; simp only []; (repeat' split) <;> simp
@[simp] theorem State.overrunCheck_base (s : State) : s.overrunCheck.base = s.base := by
  unfold State.overrunCheck; (repeat' split) <;> simp
@[simp] theorem State.feedWindow_base (s : State) : s.feedWindow.base = s.base := by
  unfold State.feedWindow; simp only []; (repeat' split) <;> simp
@[simp] theorem State.turningCount_base (s : State) (t : Nat) : (s.turningCount t).base = s.base := by
  unfold State.turningCount; (repeat' split) <;> simp
@[simp] theorem State.brakePoint_base (s : State) : s.brakePoint.base = s.base := by
  unfold State.brakePoint; (repeat' split) <;> simp
@[simp] theorem State.positioningCount_base (s : State) : s.positioningCount.base = s.base := by
  unfold State.positioningCount; (repeat' split) <;> simp
@[simp] theorem State.leaveHeld_base (s : State) : s.leaveHeld.base = s.base := by
  unfold State.leaveHeld; (repeat' split) <;> simp
@[simp] theorem State.count_base (s : State) (forward : Bool) (t : Nat) : (s.count forward t).base = s.base := by
  unfold State.count; (repeat' split) <;> simp
@[simp] theorem State.index_base (s : State) (forward : Bool) (period : Nat) : (s.index forward period).base = s.base := by
  unfold State.index; (repeat' split) <;> simp
@[simp] theorem State.correction_base (s : State) : s.correction.base = s.base := by
  simp [State.correction]
@[simp] theorem State.positionCheck_base (s : State) : s.positionCheck.base = s.base := by
  unfold State.positionCheck; (repeat' split) <;> simp
@[simp] theorem State.faultStillNow_base (s : State) : s.faultStillNow.base = s.base := by
  unfold State.faultStillNow; simp only []; (repeat' split) <;> simp
@[simp] theorem State.stillNow_base (s : State) : s.stillNow.base = s.base := by
  unfold State.stillNow; (repeat' split) <;> simp
@[simp] theorem State.driveLost_base (s : State) : s.driveLost.base = s.base := by
  unfold State.driveLost; (repeat' split) <;> simp
@[simp] theorem State.stalled_base (s : State) : s.stalled.base = s.base := by
  unfold State.stalled; (repeat' split) <;> simp
@[simp] theorem State.axisLost_base (s : State) (a : Axis) : (s.axisLost a).base = s.base := by
  unfold State.axisLost; (repeat' split) <;> simp
@[simp] theorem State.judgeCase_base (s : State) (j : CaseJob) (before : Option Nat) :
    (s.judgeCase j before).base = s.base := by
  unfold State.judgeCase; simp only []; (repeat' split) <;> simp
@[simp] theorem State.casePositionChanged_base (s : State) : s.casePositionChanged.base = s.base := by
  unfold State.casePositionChanged; (repeat' split) <;> simp
@[simp] theorem State.codeSettled_base (s : State) : s.codeSettled.base = s.base := by
  unfold State.codeSettled; simp only []; (repeat' split) <;> simp
@[simp] theorem State.settleExpired_base (s : State) : s.settleExpired.base = s.base := by
  unfold State.settleExpired; simp only []; (repeat' split) <;> simp
@[simp] theorem State.caseTimedOut_base (s : State) : s.caseTimedOut.base = s.base := by
  unfold State.caseTimedOut; (repeat' split) <;> simp
@[simp] theorem State.grant_base (s : State) : s.grant.base = s.base := by
  simp [State.grant]
@[simp] theorem State.beginOperation_base (s : State) (op : MoveOp) (targets : List (Int × Int)) :
    (s.beginOperation op targets).base = s.base := by
  unfold State.beginOperation; (repeat' split) <;> simp
@[simp] theorem State.fieldLimit_base (s : State) (asked made : Int × Int) : (s.fieldLimit asked made).base = s.base := by
  unfold State.fieldLimit; (repeat' split) <;> simp
@[simp] theorem State.positionTo_base (s : State) (op : MoveOp) (asked : Int × Int) :
    (s.positionTo op asked).1.base = s.base := by
  unfold State.positionTo; simp only []; (repeat' split) <;> simp
@[simp] theorem State.beginHoming_base (s : State) (a : Axis) : (s.beginHoming a).base = s.base := by
  simp [State.beginHoming]
@[simp] theorem State.homeInput_base (s : State) : s.homeInput.base = s.base := by
  unfold State.homeInput; (repeat' split) <;> simp
@[simp] theorem State.homeStep_base (s : State) (a : Axis) (away : Bool) (next : HomeStage) :
    (s.homeStep a away next).base = s.base := by
  simp [State.homeStep]
@[simp] theorem State.homeDone_base (s : State) (a : Axis) : (s.homeDone a).base = s.base := by
  unfold State.homeDone; (repeat' split) <;> simp
@[simp] theorem State.homingStep_base (s : State) (a : Axis) (stage : HomeStage) : (s.homingStep a stage).base = s.base := by
  unfold State.homingStep; (repeat' split) <;> simp
@[simp] theorem State.homingLimit_base (s : State) : s.homingLimit.base = s.base := by
  unfold State.homingLimit; (repeat' split) <;> simp
@[simp] theorem State.legDone_base (s : State) (op : MoveOp) (rest : List (Int × Int)) :
    (s.legDone op rest).base = s.base := by
  unfold State.legDone; (repeat' split) <;> simp
@[simp] theorem State.legStep_base (s : State) (op : MoveOp) (leg : Leg) (rest : List (Int × Int)) (slowing : Option AbortCause) :
    (s.legStep op leg rest slowing).base = s.base := by
  unfold State.legStep; simp only []; (repeat' split) <;> simp
@[simp] theorem State.owedStep_base (s : State) (a : Axis) (v : SewMove) : (s.owedStep a v).base = s.base := by
  unfold State.owedStep; simp only []; (repeat' split) <;> simp
@[simp] theorem State.axisStepNow_base (s : State) (a : Axis) : (s.axisStepNow a).base = s.base := by
  unfold State.axisStepNow; (repeat' split) <;> simp
@[simp] theorem State.startNow_base (s : State) : s.startNow.base = s.base := by
  simp [State.startNow]
@[simp] theorem State.returnToPass_base (s : State) : s.returnToPass.base = s.base := by
  unfold State.returnToPass; (repeat' split) <;> simp
@[simp] theorem State.resumeNow_base (s : State) : s.resumeNow.base = s.base := by
  simp [State.resumeNow]
@[simp] theorem State.modInput_base (s : State) (n : Nat) (f : Input → Input) : (s.modInput n f).base = s.base := by
  simp [State.modInput]
@[simp] theorem State.bobbinLatched_base (s : State) (h : Nat) : (s.bobbinLatched h).base = s.base := by
  unfold State.bobbinLatched; simp only []; (repeat' split) <;> simp
@[simp] theorem State.latchInput_base (s : State) (n : Nat) (i : Input) : (s.latchInput n i).base = s.base := by
  unfold State.latchInput; (repeat' split) <;> simp
@[simp] theorem State.latchLevel_base (s : State) (n : Nat) : (s.latchLevel n).base = s.base := by
  unfold State.latchLevel; (repeat' split) <;> simp
@[simp] theorem State.followSwitch_base (s : State) (n : Nat) (on : Bool) : (s.followSwitch n on).base = s.base := by
  unfold State.followSwitch; (repeat' split) <;> simp
@[simp] theorem State.startPress_base (s : State) : s.startPress.base = s.base := by
  unfold State.startPress; (repeat' split) <;> simp

@[simp] theorem State.stopPress_base (s : State) : s.stopPress.base = s.base := by
  unfold State.stopPress
  cases h : s.askStop .buttonStop with
  | none => rfl
  | some t => exact State.askStop_base s t _ h

@[simp] theorem State.becameActive_base (s : State) (n : Nat) : (s.becameActive n).base = s.base := by
  unfold State.becameActive; (repeat' split) <;> simp
@[simp] theorem State.activeChanged_base (s : State) (n : Nat) (on : Bool) : (s.activeChanged n on).base = s.base := by
  unfold State.activeChanged; (repeat' split) <;> simp
@[simp] theorem State.takeLevel_base (s : State) (n : Nat) (i : Input) : (s.takeLevel n i).base = s.base := by
  unfold State.takeLevel; simp only []; (repeat' split) <;> simp
@[simp] theorem State.settleInput_base (s : State) (n : Nat) : (s.settleInput n).base = s.base := by
  unfold State.settleInput; (repeat' split) <;> simp
@[simp] theorem State.rawLine_base (s : State) (line : Nat) (high : Bool) : (s.rawLine line high).base = s.base := by
  unfold State.rawLine; (repeat' split) <;> simp
@[simp] theorem State.followUnfiltered_base (s : State) (line : Nat) : (s.followUnfiltered line).base = s.base := by
  unfold State.followUnfiltered; (repeat' split) <;> simp
@[simp] theorem State.clearInput_base (s : State) (n : Nat) : (s.clearInput n).base = s.base := by
  unfold State.clearInput; (repeat' split) <;> simp
@[simp] theorem State.estopReports_base (s : State) : s.estopReports.base = s.base := by
  simp [State.estopReports]
@[simp] theorem State.estopAssert_base (s : State) : s.estopAssert.base = s.base := by
  unfold State.estopAssert; (repeat' split) <;> simp
@[simp] theorem State.estopReleaseNow_base (s : State) : s.estopReleaseNow.base = s.base := by
  simp [State.estopReleaseNow]
@[simp] theorem refuse_base (s : State) (st : Status) : (refuse s st).1.base = s.base := by
  simp [refuse]
@[simp] theorem okWith_base (s : State) (detail : List Byte) : (okWith s detail).1.base = s.base := by
  simp [okWith]
@[simp] theorem State.serveDsnInfo_base (s : State) (design : Nat) : (s.serveDsnInfo design).1.base = s.base := by
  unfold State.serveDsnInfo; (repeat' split) <;> simp

theorem Store.map_unpinned (st : Store) (f : Design → Design) (h : ∀ d, (f d).unpinned = d.unpinned) :
    ({ st with dir := st.dir.map fun o => o.map f } : Store).unpinned = st.unpinned := by
  unfold Store.unpinned
  simp only [List.map_map, Store.mk.injEq, and_true]
  refine List.map_congr_left fun o _ => ?_
  cases o <;> simp [h]

@[simp] theorem State.armNow_base (s : State) (design hoop : Nat) : (s.armNow design hoop).base = s.base := by
  unfold State.armNow
  simp only [State.prefetch_base, State.modHeads_base, State.modThread_base, State.modOuts_base, State.modFrame_base,
    State.modPlayer_base]
  exact State.modStore_base _ _ (Store.map_unpinned _ _ fun _ => rfl)

@[simp] theorem State.serveArm_base (s : State) (design hoop : Nat) : (s.serveArm design hoop).1.base = s.base := by
  unfold State.serveArm; (repeat' split) <;> simp
@[simp] theorem State.releaseHalted_base (s : State) : s.releaseHalted.base = s.base := by
  unfold State.releaseHalted; simp only []; (repeat' split) <;> simp

@[simp] theorem State.disarmNow_base (s : State) : s.disarmNow.base = s.base := by
  have h : ∀ t : State, (t.modStore fun st => { st with dir := st.dir.map fun o => o.map fun d => { d with armedPin := false } }).base
      = t.base := fun t => State.modStore_base _ _ (Store.map_unpinned _ _ fun _ => rfl)
  unfold State.disarmNow
  split <;> simp [h]

@[simp] theorem State.serveDisarm_base (s : State) : s.serveDisarm.1.base = s.base := by
  unfold State.serveDisarm; (repeat' split) <;> simp
@[simp] theorem State.serveStart_base (s : State) : s.serveStart.1.base = s.base := by
  unfold State.serveStart; (repeat' split) <;> simp
@[simp] theorem State.serveResume_base (s : State) : s.serveResume.1.base = s.base := by
  unfold State.serveResume; (repeat' split) <;> simp

@[simp] theorem State.serveStop_base (s : State) : s.serveStop.1.base = s.base := by
  unfold State.serveStop
  cases h : s.askStop .hostStop with
  | none => simp
  | some t => simpa using State.askStop_base s t _ h

@[simp] theorem State.haltIdle_base (s : State) : s.haltIdle.base = s.base := by
  unfold State.haltIdle; simp only []; (repeat' split) <;> simp
@[simp] theorem State.serveHalt_base (s : State) : s.serveHalt.1.base = s.base := by
  unfold State.serveHalt; (repeat' split) <;> simp
@[simp] theorem State.recoverNow_base (s : State) : s.recoverNow.base = s.base := by
  simp [State.recoverNow]
@[simp] theorem State.serveRecover_base (s : State) : s.serveRecover.1.base = s.base := by
  unfold State.serveRecover; (repeat' split) <;> simp
@[simp] theorem State.serveKeepFrame_base (s : State) (value : Nat) : (s.serveKeepFrame value).1.base = s.base := by
  unfold State.serveKeepFrame; (repeat' split) <;> simp
theorem Shaft.judgeStall_eq (h : Shaft) (sStop : Nat) :
    h.judgeStall sStop = { h with
      stall := if h.demand < sStop then none else if h.stall = none then some 100 else h.stall } := by
  cases hs : h.stall <;> simp [Shaft.judgeStall, Shaft.setDemand, hs]

theorem State.setsWritten_eq (s : State) (g : Governor) :
    s.setsWritten g = { s with
      gov := g
      shaft := if s.player.state.writesPending then s.shaft else s.shaft.judgeStall g.active.motion.sStop } := by
  unfold State.setsWritten; split <;> rfl

@[simp] theorem State.setsWritten_base (s : State) (g : Governor) : (s.setsWritten g).base = s.base := by
  unfold State.setsWritten; split <;> simp
@[simp] theorem State.serveSetMotion_base (s : State) (settings : List Nat) :
    (s.serveSetMotion settings).1.base = s.base := by
  unfold State.serveSetMotion; simp only []; (repeat' split) <;> simp
@[simp] theorem State.serveSetProfile_base (s : State) (points : List Nat) : (s.serveSetProfile points).1.base = s.base := by
  unfold State.serveSetProfile; simp only []; (repeat' split) <;> simp
@[simp] theorem State.serveGetSettings_base (s : State) : s.serveGetSettings.1.base = s.base := by
  simp [State.serveGetSettings]
@[simp] theorem State.serveSpeed_base (s : State) (rpm : Nat) : (s.serveSpeed rpm).1.base = s.base := by
  simp [State.serveSpeed]
@[simp] theorem State.serveSetOutput_base (s : State) (kind head mode polarity : Nat) :
    (s.serveSetOutput kind head mode polarity).1.base = s.base := by
  unfold State.serveSetOutput; (repeat' split) <;> simp
@[simp] theorem State.serveOutputInfo_base (s : State) : s.serveOutputInfo.1.base = s.base := by
  simp [State.serveOutputInfo]

theorem State.positioner_base (s : State) (own : State → Served) (h : ∀ t : State, (own t).1.base = t.base) :
    (s.positioner own).1.base = s.base := by
  unfold State.positioner; split <;> simp [h]

@[simp] theorem State.serveFrameGo_base (s : State) (mode : Nat) (x y : Int) : (s.serveFrameGo mode x y).1.base = s.base := by
  refine State.positioner_base _ _ fun t => ?_
  (repeat' split) <;> simp


@[simp] theorem State.serveFrameHome_base (s : State) : (s.serveFrameHome).1.base = s.base := by
  refine State.positioner_base _ _ fun t => ?_
  (repeat' split) <;> simp


@[simp] theorem State.serveFrameTrace_base (s : State) : s.serveFrameTrace.1.base = s.base := by
  refine State.positioner_base _ _ fun t => ?_
  split
  · simp
  · simp only []; (repeat' split) <;> simp


@[simp] theorem State.serveFramePark_base (s : State) : (s.serveFramePark).1.base = s.base := by
  refine State.positioner_base _ _ fun t => ?_
  (repeat' split) <;> simp

@[simp] theorem State.serveSetFrame_base (s : State) (dirX dirY : Nat) (offX offY parkX parkY : Int) (rPos : Nat) :
    (s.serveSetFrame dirX dirY offX offY parkX parkY rPos).1.base = s.base := by
  unfold State.serveSetFrame; (repeat' split) <;> simp
@[simp] theorem State.serveSetHoop_base (s : State) (entry : Nat) (xmin xmax ymin ymax : Int) :
    (s.serveSetHoop entry xmin xmax ymin ymax).1.base = s.base := by
  unfold State.serveSetHoop; (repeat' split) <;> simp
@[simp] theorem State.serveHoopSelect_base (s : State) (entry : Nat) : (s.serveHoopSelect entry).1.base = s.base := by
  unfold State.serveHoopSelect; (repeat' split) <;> simp
@[simp] theorem State.serveFrameInfo_base (s : State) : s.serveFrameInfo.1.base = s.base := by
  simp [State.serveFrameInfo]
@[simp] theorem State.servePreselect_base (s : State) (needle : Nat) : (s.servePreselect needle).1.base = s.base := by
  unfold State.servePreselect; (repeat' split) <;> simp
@[simp] theorem State.needleNow_base (s : State) (needle : Nat) : (s.needleNow needle).base = s.base := by
  unfold State.needleNow; (repeat' split) <;> simp
@[simp] theorem State.serveNeedleGo_base (s : State) (needle : Nat) : (s.serveNeedleGo needle).1.base = s.base := by
  unfold State.serveNeedleGo; (repeat' split) <;> simp
@[simp] theorem State.serveCaseInfo_base (s : State) : s.serveCaseInfo.1.base = s.base := by
  simp [State.serveCaseInfo]
@[simp] theorem State.serveNeedleProfile_base (s : State) (needle monitor base k rlo rhi b f : Nat) :
    (s.serveNeedleProfile needle monitor base k rlo rhi b f).1.base = s.base := by
  unfold State.serveNeedleProfile; (repeat' split) <;> simp
@[simp] theorem State.serveThreadPolicy_base (s : State) (onBreak onBobbin : Nat) :
    (s.serveThreadPolicy onBreak onBobbin).1.base = s.base := by
  unfold State.serveThreadPolicy; (repeat' split) <;> simp
@[simp] theorem State.serveCaptureArm_base (s : State) (head : Nat) : (s.serveCaptureArm head).1.base = s.base := by
  unfold State.serveCaptureArm; (repeat' split) <;> simp
@[simp] theorem State.serveCaptureRead_base (s : State) : s.serveCaptureRead.1.base = s.base := by
  simp [State.serveCaptureRead]
@[simp] theorem State.serveThreadInfo_base (s : State) : s.serveThreadInfo.1.base = s.base := by
  simp [State.serveThreadInfo]
@[simp] theorem State.serveEnable_base (s : State) (mask : Nat) (on : Bool) : (s.serveEnable mask on).1.base = s.base := by
  unfold State.serveEnable; (repeat' split) <;> simp
@[simp] theorem State.serveRepairCancel_base (s : State) (mask : Nat) : (s.serveRepairCancel mask).1.base = s.base := by
  unfold State.serveRepairCancel; (repeat' split) <;> simp
@[simp] theorem State.repairNow_base (s : State) (mask : Nat) : (s.repairNow mask).base = s.base := by
  unfold State.repairNow; (repeat' split) <;> simp
@[simp] theorem State.serveRepair_base (s : State) (mask : Nat) : (s.serveRepair mask).1.base = s.base := by
  unfold State.serveRepair; (repeat' split) <;> simp
@[simp] theorem State.serveRepairEnd_base (s : State) : s.serveRepairEnd.1.base = s.base := by
  unfold State.serveRepairEnd; (repeat' split) <;> simp
@[simp] theorem State.serveRepairSetup_base (s : State) (overlap trim : Nat) :
    (s.serveRepairSetup overlap trim).1.base = s.base := by
  unfold State.serveRepairSetup; (repeat' split) <;> simp
@[simp] theorem State.serveHeadInfo_base (s : State) : s.serveHeadInfo.1.base = s.base := by
  simp [State.serveHeadInfo]
@[simp] theorem State.serveNotify_base (s : State) (mask : Nat) (on : Bool) : (s.serveNotify mask on).1.base = s.base := by
  simp [State.serveNotify]
@[simp] theorem State.serveEventsClear_base (s : State) (mask : Nat) : (s.serveEventsClear mask).1.base = s.base := by
  simp [State.serveEventsClear]
@[simp] theorem State.judgeAfresh_base (s : State) (input : Nat) (wasActive : Bool) :
    (s.judgeAfresh input wasActive).base = s.base := by
  unfold State.judgeAfresh; simp only []; (repeat' split) <;> simp
@[simp] theorem State.setInputNow_base (s : State) (input : Nat) (mode : InputMode) (filter : Nat) (report : Bool) :
    (s.setInputNow input mode filter report).base = s.base := by
  simp [State.setInputNow]
@[simp] theorem State.serveSetInput_base (s : State) (input mode filter report : Nat) :
    (s.serveSetInput input mode filter report).1.base = s.base := by
  unfold State.serveSetInput; (repeat' split) <;> simp
@[simp] theorem State.clearNamed_base (mask : Nat) (s : State) (n : Nat) : (State.clearNamed mask s n).base = s.base := by
  unfold State.clearNamed; (repeat' split) <;> simp

@[simp] theorem State.serveInputClear_base (s : State) (mask : Nat) : (s.serveInputClear mask).1.base = s.base := by
  unfold State.serveInputClear
  simp only [okWith_base]
  exact State.foldl_base _ (fun s n => State.clearNamed_base mask s n) _ _

@[simp] theorem State.serveInputInfo_base (s : State) : s.serveInputInfo.1.base = s.base := by
  simp [State.serveInputInfo]
@[simp] theorem State.serveStatus_base (s : State) : s.serveStatus.1.base = s.base := by
  simp [State.serveStatus]
@[simp] theorem State.placeReply_base (s : State) (f : LinkFrame) : (s.placeReply f).base = s.base := by
  simp [State.placeReply]
@[simp] theorem State.linkError_base (s : State) (e : LinkFault) : (s.linkError e).base = s.base := by
  simp [State.linkError]
@[simp] theorem State.chooseNext_base (s : State) : s.chooseNext.base = s.base := by
  simp [State.chooseNext]
@[simp] theorem State.toPhase_base (s : State) (r : Receiver) : (s.toPhase r).base = s.base := by
  simp [State.toPhase]
@[simp] theorem State.discard_base (s : State) (e : LinkFault) : (s.discard e).base = s.base := by
  simp [State.discard]
@[simp] theorem State.gapNow_base (s : State) : s.gapNow.base = s.base := by
  unfold State.gapNow; (repeat' split) <;> simp

end Sys2Proof.Machine
end

