-- ==== Sys2Proof/Laws/Link.lean ====
section
/-! SUPPORT. What every command does around its own effect: nothing begins in a quiet state, a reply is placed, a request
that the link takes at once is answered by its block, and one step runs the front of the queue. -/

namespace Sys2Proof.Machine

/-! ### Settling -/

theorem State.settleOne_of_quiet (s : State) (h : s.quiet = true) : s.settleOne = none := by
  simpa [State.quiet, Option.isNone_iff_eq_none] using h

theorem State.settleN_of_quiet (n : Nat) (s : State) (h : s.quiet = true) : State.settleN n s = s := by
  cases n with
  | zero => rfl
  | succ n => rw [State.settleN, s.settleOne_of_quiet h]

/-- Where nothing waits, settling changes nothing. -/
theorem State.settle_of_quiet (s : State) (h : s.quiet = true) : s.settle = s := s.settleN_of_quiet _ h

/-- What decides whether something waits that could begin. -/
theorem State.quiet_congr (s t : State) (hc : s.nc = t.nc) (hs : s.shaft.state = t.shaft.state)
    (he : s.player.errand = t.player.errand) (hf : s.frame.move.isNone = t.frame.move.isNone)
    (hg : s.gov.move.isNone = t.gov.move.isNone) : s.quiet = t.quiet := by
  unfold State.quiet State.settleOne State.beginKept State.isHeld State.frameFree
  rw [hc, hs, he, hf, hg]
  cases t.nc.kept with
  | some j => simp only []; split <;> simp only [Option.isNone_some, Option.isNone_none]
  | none => cases t.player.errand <;> simp only [] <;> split <;> simp only [Option.isNone_some, Option.isNone_none]

/-- With no kept case request and no chain of operations, nothing waits. -/
theorem State.quiet_of_idle (s : State) (hk : s.nc.kept = none) (he : s.player.errand = .none) : s.quiet = true := by
  simp [State.quiet, State.settleOne, hk, he]

/-! ### Replies -/

theorem State.placeReply_eq (s : State) (ty : Nat) (p : List Byte) : s.placeReply ⟨ty, p⟩ = s.replied ty p := by
  cases h : s.link.transmitter <;> simp [State.placeReply, State.replied, State.modLink, Link.choose, h]

@[simp] theorem State.replied_quiet (s : State) (ty : Nat) (p : List Byte) : (s.replied ty p).quiet = s.quiet :=
  State.quiet_congr _ _ rfl rfl rfl rfl rfl

@[simp] theorem State.replied_base (s : State) (ty : Nat) (p : List Byte) : (s.replied ty p).base = s.base := rfl

@[simp] theorem State.replied_reply (s : State) (ty : Nat) (p : List Byte) : (s.replied ty p).link.reply = some ⟨ty, p⟩ := rfl

/-- The state in which a block answers: the taking of its request is under way (R176). -/
def State.takingOn (s : State) : State := s.modLink fun l => { l with taking := true }

@[simp] theorem State.takingOn_quiet (s : State) : s.takingOn.quiet = s.quiet :=
  State.quiet_congr _ _ rfl rfl rfl rfl rfl

/-- Replying hides whether the taking was marked. -/
@[simp] theorem State.takingOn_replied (s : State) (ty : Nat) (p : List Byte) : s.takingOn.replied ty p = s.replied ty p := rfl

/-! ### Requests -/

theorem State.linkFree_iff (s : State) :
    s.linkFree = true ↔ s.resetHeld = false ∧ s.link.requests = [] ∧ s.link.reply = none := by
  simp [State.linkFree, and_assoc]

/-- R175, R177: a request that the link takes at once is answered by its block, and its reply is placed. -/
theorem State.request_free (s : State) (i : Instr) (h : s.linkFree = true) (hc : i.counted = true) :
    s.request i =
      .next ((((s.takingOn.serve i).1).replied ((frameOf i).ty + 0x80) (s.takingOn.serve i).2).settle) := by
  obtain ⟨h1, h2, h3⟩ := s.linkFree_iff.1 h
  unfold State.request State.event State.submit State.answer
  simp only [h1, h2, h3, hc, List.isEmpty_nil, Option.isNone_none, Bool.and_self, if_true, Bool.false_eq_true, if_false]
  rw [State.placeReply_eq]
  rfl

/-- A request of counts that do not fit its length is refused by the link (R177). -/
theorem State.request_badLength (s : State) (i : Instr) (h : s.linkFree = true) (hc : i.counted = false) :
    s.request i = .next ((s.replied ((frameOf i).ty + 0x80) (replyOf .badLength [])).settle) := by
  obtain ⟨h1, h2, h3⟩ := s.linkFree_iff.1 h
  unfold State.request State.event State.submit
  simp only [h1, h2, h3, hc, List.isEmpty_nil, Option.isNone_none, Bool.and_self, if_true, Bool.false_eq_true, if_false]
  rw [State.placeReply_eq]

/-- A request whose answer leaves nothing waiting: the state its block answers with, and the reply. -/
theorem State.request_served (s t : State) (i : Instr) (p : List Byte) (h : s.linkFree = true) (hc : i.counted = true)
    (hs : s.takingOn.serve i = (t, p)) (hq : t.quiet = true) :
    s.request i = .next (t.replied ((frameOf i).ty + 0x80) p) := by
  rw [s.request_free i h hc, hs]
  simp only []
  rw [State.settle_of_quiet _ (by simpa using hq)]

theorem State.ready_iff (s : State) : s.ready = true ↔ s.linkFree = true ∧ s.quiet = true := by
  simp [State.ready]

/-- An event outside RESET that leaves nothing waiting. -/
theorem State.event_quiet (s : State) (f : State → State) (h : s.resetHeld = false) (hq : (f s).quiet = true) :
    s.event f = f s := by
  unfold State.event
  rw [h]
  simp [State.settle_of_quiet _ hq]

/-! ### Steps -/

theorem step_front (s : State) (c : Instr) (rest : List Instr) (h : s.pending = c :: rest) :
    step s = exec c { s with pending := rest } := by
  unfold step; rw [h]

theorem step_empty (s : State) (h : s.pending = []) : step s = .next s.idle := by
  unfold step; rw [h]

end Sys2Proof.Machine
end

