-- ==== Sys2Proof/Laws/Memory.lean ====
section
/-! SUPPORT. The serial RAM: what a write leaves to read, and that writes keep the canonical form; and when a block of
records passes its checks. -/

namespace Sys2Proof.Machine

/-- Every address listed lies above `a`. -/
def memAbove (a : Nat) (m : List Host.Cell) : Prop := ∀ c ∈ m, a < c.1

theorem memWf_cons (k : Nat) (v : Byte) (m : List Host.Cell) :
    memWf ((k, v) :: m) = true ↔ v ≠ 0 ∧ memAbove k m ∧ memWf m = true := by
  induction m generalizing k v with
  | nil => simp [memWf, memAbove]
  | cons c m ih =>
    obtain ⟨k', v'⟩ := c
    have step : memWf ((k, v) :: (k', v') :: m) = true ↔ v ≠ 0 ∧ k < k' ∧ memWf ((k', v') :: m) = true := by
      simp [memWf, and_assoc]
    rw [step]
    constructor
    · rintro ⟨hv, hk, hm⟩
      refine ⟨hv, ?_, hm⟩
      have := (ih k' v').1 hm
      intro c hc
      rcases List.mem_cons.1 hc with rfl | hc
      · exact hk
      · exact hk.trans (this.2.1 c hc)
    · rintro ⟨hv, ha, hm⟩
      exact ⟨hv, ha (k', v') List.mem_cons_self, hm⟩

theorem memAbove_memWrite (b a : Nat) (v : Byte) (m : List Host.Cell) (hb : b < a) (hm : memAbove b m) :
    memAbove b (memWrite m a v) := by
  induction m with
  | nil =>
    unfold memWrite
    split
    · exact hm
    · intro c hc; rw [List.mem_singleton.1 hc]; exact hb
  | cons c m ih =>
    obtain ⟨k, w⟩ := c
    have hk : b < k := hm (k, w) List.mem_cons_self
    have ht : memAbove b m := fun c hc => hm c (List.mem_cons_of_mem _ hc)
    have two : ∀ (x : Host.Cell) (l : List Host.Cell), b < x.1 → memAbove b l → memAbove b (x :: l) := by
      intro x l hx hl c hc
      rcases List.mem_cons.1 hc with rfl | hc
      · exact hx
      · exact hl c hc
    unfold memWrite
    split
    · split
      · exact hm
      · exact two _ _ hb hm
    · split
      · split
        · exact ht
        · exact two _ _ hb ht
      · exact two _ _ hk (ih ht)

/-- A write keeps the canonical form. -/
theorem memWf_memWrite (m : List Host.Cell) (a : Nat) (v : Byte) (h : memWf m = true) : memWf (memWrite m a v) = true := by
  induction m with
  | nil =>
    unfold memWrite
    split
    · exact h
    · rw [memWf_cons]; exact ⟨by assumption, fun c hc => absurd hc (by simp), rfl⟩
  | cons c m ih =>
    obtain ⟨k, w⟩ := c
    obtain ⟨hw, ha, hm⟩ := (memWf_cons k w m).1 h
    unfold memWrite
    split
    · rename_i hak
      split
      · exact h
      · rw [memWf_cons]
        refine ⟨by assumption, ?_, h⟩
        intro c hc
        rcases List.mem_cons.1 hc with rfl | hc
        · exact hak
        · exact hak.trans (ha c hc)
    · split
      · rename_i _ hak
        split
        · exact hm
        · subst hak; rw [memWf_cons]; exact ⟨by assumption, ha, hm⟩
      · rw [memWf_cons]
        refine ⟨hw, memAbove_memWrite k a v m (by omega) ha, ih hm⟩

theorem memRead_above (m : List Host.Cell) (a : Nat) (h : memAbove a m) : memRead m a = 0 := by
  induction m with
  | nil => rfl
  | cons c m ih =>
    obtain ⟨k, w⟩ := c
    have hk : a < k := h (k, w) List.mem_cons_self
    unfold memRead
    rw [if_neg (by omega)]
    exact ih fun c hc => h c (List.mem_cons_of_mem _ hc)

/-- A read after a write gives the value written at its address, and what was there before at every other. -/
theorem memRead_memWrite (m : List Host.Cell) (a b : Nat) (v : Byte) (h : memWf m = true) :
    memRead (memWrite m a v) b = if b = a then v else memRead m b := by
  induction m with
  | nil =>
    unfold memWrite
    split
    · rename_i hv; subst hv; simp [memRead]
    · simp only [memRead, eq_comm]
  | cons c m ih =>
    obtain ⟨k, w⟩ := c
    obtain ⟨hw, ha, hm⟩ := (memWf_cons k w m).1 h
    unfold memWrite
    split
    · rename_i hak
      split
      · rename_i hv
        by_cases hb : b = a
        · subst hb
          rw [if_pos rfl, hv, memRead, if_neg (by omega)]
          exact memRead_above m b fun c hc => hak.trans (ha c hc)
        · rw [if_neg hb]
      · by_cases hb : b = a
        · subst hb; simp [memRead]
        · rw [if_neg hb]; conv_lhs => rw [memRead]
          rw [if_neg (fun e => hb e.symm)]
    · split
      · rename_i _ hak
        subst hak
        split
        · rename_i hv
          by_cases hb : b = a
          · subst hb; rw [if_pos rfl, hv]; exact memRead_above m b ha
          · rw [if_neg hb, memRead, if_neg (fun e => hb e.symm)]
        · by_cases hb : b = a
          · subst hb; simp [memRead]
          · rw [if_neg hb, memRead, if_neg (fun e => hb e.symm), memRead, if_neg (fun e => hb e.symm)]
      · rename_i h1 h2
        rw [memRead, memRead, ih hm]
        by_cases hb : b = a
        · subst hb; rw [if_neg (fun e => h2 e.symm)]; simp
        · simp [hb]

/-- The three bytes of a stored record keep the canonical form. -/
theorem memWf_writeRecord (m : List Host.Cell) (page slot : Nat) (r : RawRecord) (h : memWf m = true) :
    memWf (writeRecord m page slot r) = true := by
  unfold writeRecord
  exact memWf_memWrite _ _ _ (memWf_memWrite _ _ _ (memWf_memWrite _ _ _ h))

/-- What a byte reads as after a record has been written. -/
theorem memRead_writeRecord (m : List Host.Cell) (page slot : Nat) (r : RawRecord) (b : Nat) (h : memWf m = true) :
    memRead (writeRecord m page slot r) b =
      if b = slotAddress page slot + 2 then r.dy
      else if b = slotAddress page slot + 1 then r.dx
      else if b = slotAddress page slot then r.kind else memRead m b := by
  unfold writeRecord
  simp only []
  rw [memRead_memWrite _ _ _ _ (memWf_memWrite _ _ _ (memWf_memWrite _ _ _ h)),
    memRead_memWrite _ _ _ _ (memWf_memWrite _ _ _ h), memRead_memWrite _ _ _ _ h]

/-! ### Blocks -/

/-- R8: a block passes exactly when each of its records passes, judged by the trial values the records before it leave. -/
theorem blockReason_eq_none (d : Design) (l : List RawRecord) : ∀ (t : Trial) (off : Nat),
    blockReason d t off l = none ↔
      ∀ (j : Nat) (q : RawRecord), l[j]? = some q → recordReason d ((l.take j).foldl Trial.advance t) q = none := by
  induction l with
  | nil => intro t off; simp [blockReason]
  | cons r rs ih =>
    intro t off
    cases h : recordReason d t r with
    | some c =>
      simp only [blockReason, h, reduceCtorEq, false_iff, not_forall]
      exact ⟨0, r, by simp, by simp [h]⟩
    | none =>
      simp only [blockReason, h, ih]
      refine ⟨fun H j q hq => ?_, fun H j q hq => H (j + 1) q (by simpa using hq)⟩
      cases j with
      | zero => simp at hq; subst hq; simpa using h
      | succ n => simpa using H n q (by simpa using hq)

end Sys2Proof.Machine
end

