-- ==== Sys2Proof/Tests/Slice0.lean ====
section
/-! SUPPORT. The model's own tests: ill-formed commands that WellFormed refuses; numbers that the manual works out, as it
prints them; and, for every obligation with hypotheses, a theorem `witness_<Name>` that shows for each of its clauses a
state and operands that meet the hypotheses (with the reply or effect that follows, where it is cheap to evaluate). -/

namespace Sys2Proof.Tests

open Sys2Proof Sys2Proof.Machine

-- One theorem at a time: elaborated side by side, these many small evaluations ask for more threads than a check has.
set_option Elab.async false

/-! ### Helpers -/

/-- The command answers a next state with this property. -/
def becomes (c : Instr) (s : State) (p : State → Bool) : Bool :=
  match exec c s with
  | .next t => p t
  | .fault _ => false
  | .refused _ => false

/-- The command answers a next state whose reply slot holds this payload. -/
def answers (c : Instr) (s : State) (payload : List Byte) : Bool :=
  becomes c s fun t => t.link.reply.map LinkFrame.payload == some payload

/-- The state after a run of commands. -/
def after (cs : List Instr) (s : State) : State :=
  cs.foldl (fun u c => match exec c u with | .next t => t | .fault _ => u | .refused _ => u) s

/-- The machine after reset. -/
def base : State := State.reset

/-- The machine with the E-STOP line taken high, all heads switched on, and the frame homed. -/
def fit : State :=
  (((base.modEv fun v => { v with estop := some true }).modFrame fun f => { f with known := true }).modHeads fun h =>
    { h with table := h.table.map fun d => { d with switch := true } })

/-- The player in a state. -/
def playing (p : PlayerState) (s : State) : State := s.modPlayer fun q => { q with state := p }

/-- The shaft unit in a state. -/
def turned (h : ShaftState) (s : State) : State := s.modShaft fun q => { q with state := h, refValid := true }

/-- Design 7: STITCH 30, 12; STOP; STITCH −30, 12; END; in page 0. -/
def design7 : Design :=
  { number := 7, state := .ready, declared := 4, blocks := 2, box := ⟨0, 270, 0, 204⟩, seq := [⟨2, false⟩, ⟨5, false⟩],
    stored := 4, chain := [⟨0, 0, 0, 0, 4⟩], nextBlock := 1, runX := 0, runY := 24
    crc := [0, 30, 12, 3, 0, 0, 0, 226, 12, 4, 0, 0].foldl crcByte 0xFFFFFFFF, stops := 1, armedPin := false
    repairPin := false }

/-- A store that holds one design in its first slot, with its records in page 0. -/
def storeOf (d : Design) : Store :=
  { dir := [some d, none, none, none, none, none, none, none], free := (List.range 2048).drop 1
    ram := [(1, 30), (2, 12), (3, 3), (7, 226), (8, 12), (9, 4)] }

/-- The fit machine with design 7 stored. -/
def loaded : State := { fit with store := storeOf design7 }

/-- Design 7 while it is being loaded: two of its four records are stored. -/
def loading7 : Design :=
  { design7 with state := .loading, stored := 2, chain := [⟨0, 0, 0, 0, 2⟩], runX := 30, runY := 12
                 crc := [0, 30, 12, 3, 0, 0].foldl crcByte 0xFFFFFFFF }

/-- Design 7 armed at the frame's position, block 0 entered with needle 2. -/
def armed : State :=
  { playing .armed loaded with store := storeOf { design7 with armedPin := true } }.modPlayer fun p =>
    { p with armed := some 7, origin := some (0, 0) }

/-- A queue entry of a stitch. -/
def entry (i : Nat) : QueueEntry :=
  { index := i, kind := .stitch, dx := 30, dy := 12, nx := 120, ny := 48, block := 0, limit := 1200 }

/-- Sewing, one count before the boundary, with a stitch at the head of the queue. -/
def sewing : State :=
  ((((turned .turning (playing .running armed)).modShaft fun h => { h with angle := 799 }).modFrame fun f =>
    { f with owner := .player }).modPlayer fun p => { p with queue := [entry 0, { entry 1 with kind := .endRec }] })

/-- Head 1 with the role and condition of a repair pass. -/
def headed (r : Role) (c : Condition) (s : State) : State :=
  s.modHeads fun h => { h with table := updAt 0 (fun d => { d with role := r, condition := c }) h.table }

/-- A repair record of head 1 at record 0 of design 7. -/
def record1 : RepairRecord := { head := 1, design := 7, point := 0, cause := .break, needle := 2, block := 0 }

/-- Head 1 broken, with its record. -/
def broken (s : State) : State := (headed .none .broken s).modHeads fun h => { h with repairs := [record1] }

/-! ### Ill-formed commands, one for each check of `Instr.wf` and `Instr.counted` -/

theorem test_wf_frames :
    Instr.wf (.receiveFrame []) = false ∧ Instr.wf (.receiveFrame (List.replicate 307 0)) = false ∧
    Instr.wf (.unknownType 0x01 []) = false ∧ Instr.wf (.unknownType 256 []) = false ∧
    Instr.wf (.unknownType 0x60 (List.replicate 301 0)) = false := by decide +kernel

theorem test_wf_masks :
    Instr.wf (.notifyOn 65536) = false ∧ Instr.wf (.notifyOff 65536) = false ∧ Instr.wf (.eventsClear 65536) = false ∧
    Instr.wf (.inputClear 4294967296) = false ∧ Instr.wf (.headsOn 65536) = false ∧ Instr.wf (.headsOff 65536) = false ∧
    Instr.wf (.repair 65536) = false ∧ Instr.wf (.repairCancel 65536) = false := by decide +kernel

theorem test_wf_inputs :
    Instr.wf (.setInput 256 0 0 0) = false ∧ Instr.wf (.setInput 0 256 0 0) = false ∧ Instr.wf (.setInput 0 0 256 0) = false ∧
    Instr.wf (.setInput 0 0 0 256) = false ∧ Instr.wf (.inputLineChange 33 true) = false ∧
    Instr.wf (.inputFilterSettled 32) = false := by decide +kernel

theorem test_wf_design_open :
    Instr.wf (.dsnOpen 65536 1 1 0 0 0 0 1 [1]) = false ∧ Instr.wf (.dsnOpen 1 4294967296 1 0 0 0 0 1 [1]) = false ∧
    Instr.wf (.dsnOpen 1 1 65536 0 0 0 0 1 [1]) = false ∧ Instr.wf (.dsnOpen 1 1 1 (-32769) 0 0 0 1 [1]) = false ∧
    Instr.wf (.dsnOpen 1 1 1 0 32768 0 0 1 [1]) = false ∧ Instr.wf (.dsnOpen 1 1 1 0 0 (-32769) 0 1 [1]) = false ∧
    Instr.wf (.dsnOpen 1 1 1 0 0 0 32768 1 [1]) = false ∧ Instr.wf (.dsnOpen 1 1 1 0 0 0 0 65536 [1]) = false ∧
    Instr.wf (.dsnOpen 1 1 1 0 0 0 0 283 (List.replicate 283 1)) = false := by decide +kernel

theorem test_wf_design_rest :
    Instr.wf (.dsnBlock 65536 0 0 []) = false ∧ Instr.wf (.dsnBlock 0 65536 0 []) = false ∧
    Instr.wf (.dsnBlock 0 0 256 []) = false ∧ Instr.wf (.dsnBlock 0 0 99 (List.replicate 99 ⟨0, 0, 0⟩)) = false ∧
    Instr.wf (.dsnClose 65536 0) = false ∧ Instr.wf (.dsnClose 0 4294967296) = false ∧ Instr.wf (.dsnDrop 65536) = false ∧
    Instr.wf (.dsnInfo 65536) = false ∧ Instr.wf (.seqEdit 65536 0 0 []) = false ∧ Instr.wf (.seqEdit 0 256 0 []) = false ∧
    Instr.wf (.seqEdit 0 0 65536 []) = false ∧ Instr.wf (.seqEdit 0 0 296 (List.replicate 296 1)) = false := by decide +kernel

theorem test_wf_player :
    Instr.wf (.arm 65536 0) = false ∧ Instr.wf (.arm 0 256) = false ∧ Instr.wf (.keepFrame 256) = false ∧
    Instr.wf (.preselect 256) = false ∧ Instr.wf (.needleGo 256) = false ∧ Instr.wf (.speed 65536) = false ∧
    Instr.wf (.setMotion [65536]) = false ∧ Instr.wf (.setMotion (List.replicate 151 0)) = false ∧
    Instr.wf (.setProfile [65536]) = false ∧ Instr.wf (.setProfile (List.replicate 151 0)) = false := by decide +kernel

theorem test_wf_frame :
    Instr.wf (.frameGo 256 0 0) = false ∧ Instr.wf (.frameGo 0 32768 0) = false ∧ Instr.wf (.frameGo 0 0 (-32769)) = false ∧
    Instr.wf (.setFrame 256 0 0 0 0 0 0) = false ∧ Instr.wf (.setFrame 0 256 0 0 0 0 0) = false ∧
    Instr.wf (.setFrame 0 0 32768 0 0 0 0) = false ∧ Instr.wf (.setFrame 0 0 0 32768 0 0 0) = false ∧
    Instr.wf (.setFrame 0 0 0 0 32768 0 0) = false ∧ Instr.wf (.setFrame 0 0 0 0 0 32768 0) = false ∧
    Instr.wf (.setFrame 0 0 0 0 0 0 65536) = false ∧ Instr.wf (.setHoop 256 0 0 0 0) = false ∧
    Instr.wf (.setHoop 0 32768 0 0 0) = false ∧ Instr.wf (.setHoop 0 0 32768 0 0) = false ∧
    Instr.wf (.setHoop 0 0 0 32768 0) = false ∧ Instr.wf (.setHoop 0 0 0 0 32768) = false ∧
    Instr.wf (.hoopSelect 256) = false := by decide +kernel

theorem test_wf_outputs_and_thread :
    Instr.wf (.setOutput 256 0 0 0) = false ∧ Instr.wf (.setOutput 0 256 0 0) = false ∧ Instr.wf (.setOutput 0 0 256 0) = false ∧
    Instr.wf (.setOutput 0 0 0 256) = false ∧ Instr.wf (.needleProfile 256 0 0 0 0 0 0 0) = false ∧
    Instr.wf (.needleProfile 0 256 0 0 0 0 0 0) = false ∧ Instr.wf (.needleProfile 0 0 256 0 0 0 0 0) = false ∧
    Instr.wf (.needleProfile 0 0 0 65536 0 0 0 0) = false ∧ Instr.wf (.needleProfile 0 0 0 0 256 0 0 0) = false ∧
    Instr.wf (.needleProfile 0 0 0 0 0 256 0 0) = false ∧ Instr.wf (.needleProfile 0 0 0 0 0 0 256 0) = false ∧
    Instr.wf (.needleProfile 0 0 0 0 0 0 0 256) = false ∧ Instr.wf (.threadPolicy 256 0) = false ∧
    Instr.wf (.threadPolicy 0 256) = false ∧ Instr.wf (.captureArm 256) = false ∧ Instr.wf (.repairSetup 256 0) = false ∧
    Instr.wf (.repairSetup 0 256) = false := by decide +kernel

theorem test_wf_events :
    Instr.wf (.powerOnReset 16 0 0) = false ∧ Instr.wf (.powerOnReset 0 16 0) = false ∧ Instr.wf (.powerOnReset 0 0 4) = false ∧
    Instr.wf (.indexPulse true 0) = false ∧ Instr.wf (.feedPulse 0) = false ∧ Instr.wf (.feedPulse 13) = false ∧
    Instr.wf (.caseCodeLineChange 16) = false := by decide +kernel

theorem test_counted :
    Instr.counted (.dsnOpen 1 1 1 0 0 0 0 2 [1]) = false ∧ Instr.counted (.dsnBlock 1 0 1 []) = false ∧
    Instr.counted (.seqEdit 1 0 2 [1]) = false ∧ Instr.counted (.setMotion [1]) = false ∧
    Instr.counted (.setProfile [0]) = false := by decide +kernel

/-! ### Numbers the manual prints -/

/-- R10: the nine ASCII bytes 123456789 give the check value 0xCBF43926. -/
theorem test_design_check : checkValue ([49, 50, 51, 52, 53, 54, 55, 56, 57].foldl crcByte 0xFFFFFFFF) = 0xCBF43926 := by
  decide +kernel

/-- R173: the same nine bytes give the frame check 0x29B1. -/
theorem test_frame_check : frameCheck [49, 50, 51, 52, 53, 54, 55, 56, 57] = 0x29B1 := by decide +kernel

/-- Sections 3.2 and 3.3: the windows of the default settings, and the steepest slice of the default profile. -/
theorem test_windows :
    Motion.default.wOpen = 800 ∧ Motion.default.wm = 448 ∧ Motion.default.wjEff = 960 ∧ steepest defaultProfile = 24 := by
  decide +kernel

/-- Section 3.5's table of limits with the default settings, and section 3.11's with R_max 8,000. -/
theorem test_record_limits :
    recordLimit .default .stitch 120 48 = 1200 ∧ recordLimit .default .stitch 240 0 = 1166 ∧
    recordLimit .default .stitch 0 280 = 1000 ∧ recordLimit .default .stitch 480 0 = 583 ∧
    recordLimit .default .stitch 508 0 = 551 ∧ recordLimit .default .jump 508 0 = 1000 ∧
    recordLimit .default .trim 0 0 = 200 ∧ recordLimit .default .stop 0 0 = 80 ∧
    recordLimit { motion := { Motion.default with rMax := 8000 }, profile := defaultProfile } .stitch 120 0 = 1166 ∧
    recordLimit { motion := { Motion.default with rMax := 8000 }, profile := defaultProfile } .stitch 480 0 = 291 := by
  decide +kernel

/-- Section 3.6: the long stitch at position 7 with a full queue bounds the speed at 1,143, at position 0 at 583; without
it term 2 of 32 stitches is 2,640 and the first entry's 1,200 is the least. -/
theorem test_speed_bound :
    speedBound .default ((List.range 7).map entry ++ { entry 7 with limit := 583 } :: (List.range 24).map fun i => entry (i + 8))
      none = 1143 ∧
    speedBound .default ({ entry 0 with limit := 583 } :: (List.range 31).map fun i => entry (i + 1)) none = 583 ∧
    speedBound .default ((List.range 32).map entry) none = 1200 ∧
    queueBound .default 32 [] = 2640 := by decide +kernel

/-- Sections 3.6, 11.4 and 11.9: commanded speeds, and the stop position from 320 rpm. -/
theorem test_commanded_speed :
    commandedSpeed .default false 1200 583 1200 = 623 ∧ commandedSpeed .default true 1200 0 800 = 200 ∧
    commandedSpeed .default false 1200 400 320 = 320 ∧ stopPosition .default 320 = 3 ∧ stopPosition .default 1200 = 14 ∧
    stopPosition .default 0 = 1 := by decide +kernel

/-- Section 3.7's step schedule: X steps 1, 30, 60 and 120 of 120, and Y steps 1, 12 and 48 of 48, at their offsets and not
one count earlier. -/
theorem test_step_schedule :
    stepsDue defaultProfile 28 120 14 = 0 ∧ stepsDue defaultProfile 28 120 15 = 1 ∧
    stepsDue defaultProfile 28 48 32 = 0 ∧ stepsDue defaultProfile 28 48 33 = 1 ∧
    stepsDue defaultProfile 28 120 145 = 29 ∧ stepsDue defaultProfile 28 120 146 = 30 ∧
    stepsDue defaultProfile 28 48 145 = 11 ∧ stepsDue defaultProfile 28 48 146 = 12 ∧
    stepsDue defaultProfile 28 120 223 = 59 ∧ stepsDue defaultProfile 28 120 224 = 60 ∧
    stepsDue defaultProfile 28 120 447 = 119 ∧ stepsDue defaultProfile 28 120 448 = 120 ∧
    stepsDue defaultProfile 28 48 448 = 48 := by decide +kernel

/-- Sections 11.1 and 7.3: a 3.0 mm stitch of 36 units expects 28 pulses, low below 10 and high above 70. -/
theorem test_expected_count :
    expectedCount .default 30 12 = 28 ∧ expectedCount .default (-30) 12 = 28 ∧
    verdictOf .default 30 12 9 = .low ∧ verdictOf .default 30 12 10 = .normal ∧ verdictOf .default 30 12 27 = .normal ∧
    verdictOf .default 30 12 70 = .normal ∧ verdictOf .default 30 12 71 = .high := by decide +kernel

/-- Sections 11.3 and 11.5: the timeouts of the case moves from 1 to 2 (420 ms) and from 2 to 5 (660 ms). -/
theorem test_case_timeouts :
    (NeedleCase.powerOn 6 1).timeout 6 2 = 420 ∧ (NeedleCase.powerOn 6 2).timeout 6 5 = 660 ∧
    (NeedleCase.powerOn 6 1).direction 2 = true ∧ (NeedleCase.powerOn 6 5).direction 2 = false := by decide +kernel

/-- Sections 11.7 and 11.9: Y leads both moves, with 720 and 11,664 steps; a leg of 720 steps turns to slowing at half its
way, at a rate of 2,000² + 360 × 200,000 squared, short of R_pos. -/
theorem test_held_moves :
    (Leg.between 4120 (-1184) 4240 (-1904)).leads = .y ∧ (Leg.between 4120 (-1184) 4240 (-1904)).ny = 720 ∧
    (Leg.between 4840 (-1664) 0 10000).leads = .y ∧ (Leg.between 4840 (-1664) 0 10000).ny = 11664 ∧
    slowSteps (4000000 + 360 * 200000) = 360 ∧ slowSteps (12000 * 12000) = 700 := by decide +kernel

/-- R183: strap pins 0 and 13 to 15 give 12 heads, 0 gives 15 needles, and the four link rates. -/
theorem test_straps :
    Straps.sample 0 0 0 = ⟨12, 15, 460800⟩ ∧ Straps.sample 13 15 1 = ⟨12, 15, 921600⟩ ∧
    Straps.sample 4 6 2 = ⟨4, 6, 1843200⟩ ∧ Straps.sample 12 1 3 = ⟨12, 1, 3000000⟩ := by decide +kernel

/-- R186: byte 0x85 names needle 5 with the pause flag; needle 0, a needle above the count and a bit of 4 to 6 name none. -/
theorem test_sequence_entry :
    seqEntryOf 6 0x85 = some ⟨5, true⟩ ∧ seqEntryOf 6 0x80 = none ∧ seqEntryOf 6 0x07 = none ∧ seqEntryOf 6 0x15 = none ∧
    (SeqEntry.mk 5 true).byte = 0x85 := by decide +kernel

/-- R8's worked refusal (section 11.2): record 12 sent with dx = +90 leaves the box. -/
theorem test_out_of_box :
    recordReason { loading7 with declared := 20, runX := 210, runY := 132 } ⟨210, 132, 1, 12⟩ ⟨0, 90, 12⟩ = some 8 := by
  decide +kernel

/-- No table word spells a command, so `withFetchWord` leaves the state. -/
theorem test_no_table_word (nbits w : Nat) : decodeTableWord nbits w = none ∧ base.withFetchWord nbits w = base := ⟨rfl, rfl⟩

/-! ### Witnesses: the queue of commands, frames and the link -/

theorem witness_StepRunsTheFrontCommand :
    ({ base with pending := [.speedTimeout, .status] }).pending = .speedTimeout :: [.status] ∧ base.pending = [] := by
  decide +kernel

theorem witness_RequestFrameReadsBack :
    Instr.wf (.speed 65535) = true ∧ encodeRequest (.speed 65535) = some (0x33, [0xFF, 0xFF]) ∧
    Instr.wf (.unknownType 0x6F [1]) = true ∧ encodeRequest (.unknownType 0x6F [1]) = some (0x6F, [1]) ∧
    Instr.wf (.dsnBlock 7 0 2 [⟨0, 1, 1⟩]) = true ∧ Instr.counted (.dsnBlock 7 0 2 [⟨0, 1, 1⟩]) = false ∧
    Instr.counted (.speed 65535) = true := by decide +kernel

theorem witness_ReceivedFrameActsAsItsRequest :
    Instr.wf (.unknownType 0x60 (List.replicate 300 0)) = true ∧
    encodeRequest (.unknownType 0x60 (List.replicate 300 0)) = some (0x60, List.replicate 300 0) ∧
    (List.replicate 300 (0 : Byte)).length ≤ 300 ∧ base.resetHeld = false ∧ base.link.receiver = .hunt ∧ base.quiet = true ∧
    answers (.receiveFrame (LinkFrame.bytes ⟨0x33, [0x84, 0x03]⟩)) base [0, 0x84, 0x03] = true := by decide +kernel

/-- The receiver in a phase. -/
def heard (r : Receiver) : State := base.modLink fun l => { l with receiver := r }

theorem witness_ReceiverPhases :
    (heard (.length none)).quiet = true ∧ (heard (.length none)).resetHeld = false ∧
    becomes (.byteReceived 0xC3 true) base (fun t => t.link.receiver == .length none) = true ∧
    becomes (.byteReceived 44 true) (heard (.length none)) (fun t => t.link.receiver == .length (some 44)) = true ∧
    becomes (.byteReceived 1 true) (heard (.length (some 44))) (fun t => t.link.receiver == .type 300) = true ∧
    becomes (.byteReceived 1 true) (heard (.length (some 45))) (fun t => t.link.receiver == .hunt) = true ∧
    becomes (.byteReceived 1 true) (heard (.type 0)) (fun t => t.link.receiver == .check 1 [] none) = true ∧
    becomes (.byteReceived 3 true) (heard (.type 1)) (fun t => t.link.receiver == .payload 1 3 []) = true ∧
    becomes (.byteReceived 9 true) (heard (.payload 2 3 [])) (fun t => t.link.receiver == .payload 2 3 [9]) = true ∧
    becomes (.byteReceived 9 true) (heard (.payload 2 3 [8])) (fun t => t.link.receiver == .check 3 [8, 9] none) = true ∧
    becomes (.byteReceived 9 true) (heard (.check 3 [8, 9] none)) (fun t => t.link.receiver == .check 3 [8, 9] (some 9)) = true ∧
    (frameCheck (LinkFrame.checked ⟨3, [8, 9]⟩)).toNat ≠ (9 : Byte).toNat + 256 * (9 : Byte).toNat ∧
    becomes .linkGapTimeout (heard (.type 0)) (fun t => t.link.receiver == .hunt) = true ∧
    becomes (.byteReceived 1 false) (heard (.type 0)) (fun t => t.ev.flags == Event.linkError.bit) = true := by decide +kernel

/-- The link with a reply in its slot and requests in its queue. -/
def busy (queued : List LinkFrame) : State := base.modLink fun l =>
  { l with reply := some ⟨0x81, []⟩, transmitter := .reply ⟨0x81, []⟩, requests := queued }

theorem witness_LinkQueuesAndRefusesRequests :
    (busy [⟨1, []⟩]).resetHeld = false ∧ (busy [⟨1, []⟩]).quiet = true ∧ (busy [⟨1, []⟩]).link.reply.isSome = true ∧
    encodeRequest .halt = some (0x25, []) ∧
    becomes .halt (busy [⟨1, []⟩]) (fun t => t.link.requests == [⟨1, []⟩, ⟨0x25, []⟩]) = true ∧
    becomes .halt (busy [⟨1, []⟩, ⟨2, []⟩]) (fun t => t.ev.flags == Event.linkError.bit) = true ∧ base.ready = true ∧
    Instr.counted (.setMotion []) = false ∧ encodeRequest (.setMotion []) = some (0x30, []) ∧
    answers (.setMotion []) base [2] = true ∧ assignedTypes.contains 0x6F = false ∧ assignedTypes.contains 0x70 = false ∧
    assignedTypes.contains 0xFF = false ∧ answers (.unknownType 0x70 []) base [1, 0x70] = true := by decide +kernel

/-- The link sending a frame, with notices and requests waiting. -/
def sending (t : Transmitter) (notices : List Notice) (queued : List LinkFrame) : State := base.modLink fun l =>
  { l with transmitter := t, notices := notices, requests := queued, reply := if queued = [] then none else some ⟨0x81, []⟩ }

theorem witness_FrameSentChoosesTheNext :
    base.resetHeld = false ∧ base.quiet = true ∧ base.link.transmitter = .idle ∧
    becomes .frameSent (sending (.notice ⟨0xF0, []⟩) [⟨2, []⟩] []) (fun t => t.link.notices == []) = true ∧
    becomes .frameSent (sending (.reply ⟨0x81, []⟩) [⟨2, []⟩] []) (fun t => t.link.notices == []) = true ∧
    becomes .frameSent (sending (.reply ⟨0x81, []⟩) [] [⟨1, []⟩]) (fun t => t.link.requests == []) = true ∧
    (sending (.reply ⟨0x81, []⟩) [⟨2, []⟩] [⟨1, []⟩]).quiet = true ∧
    (sending (.reply ⟨0x81, []⟩) [⟨2, []⟩] [⟨1, []⟩]).link.requests = [⟨1, []⟩] ∧
    (sending (.reply ⟨0x81, []⟩) [⟨2, []⟩] [⟨1, []⟩]).link.notices = [⟨2, []⟩] := by decide +kernel

theorem witness_StepKeepsQueuesAndChains : State.reset.InForm ∧ ∃ t, step State.reset = .next t :=
  ⟨by constructor <;> decide +kernel, _, rfl⟩

/-! ### Witnesses: events and status -/

/-- Subscribed to every flag. -/
def subscribed : State := base.modEv fun v => { v with subscribed := 0xFFFF }

theorem witness_EventFlagsAndMasks :
    base.ev.subscribed &&& Event.frameDone.bit = 0 ∧ subscribed.ev.subscribed &&& Event.frameDone.bit ≠ 0 ∧
    subscribed.link.transmitter = .idle ∧ subscribed.link.taking = false ∧ subscribed.link.reply = none ∧
    subscribed.link.notices = [] ∧
    (subscribed.modLink fun l => { l with taking := true, notices := List.replicate 8 ⟨0, []⟩ }).link.taking = true ∧
    base.ready = true ∧ answers (.notifyOn 0x8001) base [0, 1, 0x80] = true ∧
    answers (.notifyOff 0x8000) subscribed [0, 0xFF, 0x7F] = true ∧ answers (.eventsClear 65535) base [0, 0, 0] = true := by
  decide +kernel

theorem witness_StatusReportsTheState :
    fit.ready = true ∧ fit.heads.table.length = 12 ∧
    becomes .status fit (fun t => (t.link.reply.map fun f => f.payload.length) == some 50) = true := by decide +kernel

/-! ### Witnesses: the design store -/

/-- A full directory. -/
def full : State := fit.modStore fun st => { st with dir := (List.range 8).map fun n => some { design7 with number := n + 1 } }

theorem witness_DsnOpenFillsTheLowestSlot :
    fit.ready = true ∧ answers (.dsnOpen 9 4 2 0 270 0 204 3 [2, 5]) fit [2] = true ∧
    answers (.dsnOpen 0 4 2 0 270 0 204 2 [2, 5]) fit [3] = true ∧
    answers (.dsnOpen 9 524289 1 0 270 0 204 1 [2]) fit [3] = true ∧
    none ∉ full.store.dir ∧ answers (.dsnOpen 9 524288 1 0 0 0 0 1 [0x8F]) full [7] = true ∧
    answers (.dsnOpen 7 4 2 0 270 0 204 2 [2, 5]) loaded [6] = true ∧ none ∈ loaded.store.dir ∧
    7 ∈ loaded.store.designs.map Design.number ∧ 65535 ∉ loaded.store.designs.map Design.number ∧
    loaded.store.dir = [some design7] ++ none :: List.replicate 6 none ∧ none ∉ [some design7] ∧
    answers (.dsnOpen 65535 1 1 (-32767) 32767 0 0 1 [0x8F]) loaded [0] = true := by decide +kernel

/-- Design 7 being loaded. -/
def loading : State := { fit with store := storeOf loading7 }

/-- A design with a full first page and no page left. -/
def pageless : State :=
  { fit with store := { storeOf { loading7 with declared := 524288, stored := 256 } with free := [] } }

theorem witness_DsnBlockRefusals :
    (loading.ready = true ∧ answers (.dsnBlock 7 1 2 [⟨0, 0, 0⟩]) loading [2] = true ∧
      answers (.dsnBlock 7 1 0 []) loading [3] = true ∧
      answers (.dsnBlock 7 1 65 (List.replicate 65 ⟨0, 0, 0⟩)) loading [3] = true ∧
      answers (.dsnBlock 8 1 1 [⟨0, 0, 0⟩]) loading [8] = true ∧ answers (.dsnBlock 7 1 1 [⟨0, 0, 0⟩]) loaded [4, 2] = true ∧
      answers (.dsnBlock 7 2 1 [⟨0, 0, 0⟩]) loading [9, 1, 0] = true ∧
      answers (.dsnBlock 7 1 2 [⟨0, 226, 12⟩, ⟨5, 0, 0⟩]) loading [10, 1, 1] = true ∧
      recordReason loading7 ([⟨0, 226, 12⟩].foldl Trial.advance loading7.trial) ⟨5, 0, 0⟩ = some 1 ∧ pageless.store.free = [] ∧
      answers (.dsnBlock 7 1 64 (List.replicate 64 ⟨0, 0, 0⟩)) pageless [7, 0, 0] = true) ∧
    (∀ (j : Nat) (q : RawRecord), [(⟨0, 226, 12⟩ : RawRecord)][j]? = some q →
      recordReason loading7 (([⟨0, 226, 12⟩].take j).foldl Trial.advance loading7.trial) q = none) ∧
    (∀ (j : Nat) (q : RawRecord), (List.replicate 64 (⟨0, 0, 0⟩ : RawRecord))[j]? = some q →
      recordReason { loading7 with declared := 524288, stored := 256 } (((List.replicate 64 ⟨0, 0, 0⟩).take j).foldl
        Trial.advance (Design.trial { loading7 with declared := 524288, stored := 256 })) q = none) :=
  ⟨by decide +kernel, (blockReason_eq_none _ _ _ 0).mp (by decide +kernel),
    (blockReason_eq_none _ _ _ 0).mp (by decide +kernel)⟩

/-- STARVED at TDC with the armed design 7 loaded by half. -/
def starving : State :=
  turned .held (playing .starved { armed with store := storeOf { loading7 with armedPin := true } })

theorem witness_DsnBlockIsStoredWhole :
    starving.ready = true ∧ starving.store.find 7 = some { loading7 with armedPin := true } ∧ starving.player.armed = some 7 ∧
    starving.player.errand = .none ∧ starving.nc.kept = none ∧ starving.shaft.driveReady = true ∧
    starving.frame.owner ≠ .positioner ∧ ¬(starving.player.starvedMark + 16 ≤ 2 + 1 ∨ (2 : Nat) + 1 = loading7.declared) ∧
    becomes (.dsnBlock 7 1 1 [⟨0, 226, 12⟩]) starving
      (fun t => t.player.state == .starved && t.player.queue.length == 3) = true ∧
    becomes (.dsnBlock 7 1 2 [⟨0, 226, 12⟩, ⟨4, 0, 0⟩]) starving
      (fun t => t.player.state == .running && t.player.queue.length == 4 && t.shaft.state == .turning) = true ∧
    loading.ready = true ∧ loading.store.find 7 = some loading7 ∧ loading7.state = .loading ∧ loading7.nextBlock ≤ 8191 ∧
    blockReason loading7 loading7.trial 0 [⟨0, 226, 12⟩, ⟨4, 0, 0⟩] = none ∧ loading7.armedPin = false ∧
    ¬(loading7.stored % 256 = 0 ∨ 256 < loading7.stored % 256 + 2) ∧ 0 ≤ loading.store.free.length ∧
    answers (.dsnBlock 7 1 2 [⟨0, 226, 12⟩, ⟨4, 0, 0⟩]) loading [0, 4, 0, 0, 0, 2, 0, 255, 7] = true := by decide +kernel

/-- The armed design 7 loaded by half, the player in a state with an empty queue. -/
def halfLoaded (p : PlayerState) : State := playing p { armed with store := storeOf { loading7 with armedPin := true } }

theorem witness_DsnBlockIsStoredWhole_states :
    (halfLoaded .armed).ready = true ∧ (halfLoaded .armed).store.find 7 = some { loading7 with armedPin := true } ∧
    ([PlayerState.armed, .running, .stopping, .changing, .returning, .paused .hostStop].all fun p =>
      becomes (.dsnBlock 7 1 2 [⟨0, 226, 12⟩, ⟨4, 0, 0⟩]) (halfLoaded p) fun t =>
        t.player.state == p && t.player.queue.map QueueEntry.index == [0, 1, 2, 3]) = true ∧
    ([PlayerState.finished, .halted .axis].all fun p =>
      becomes (.dsnBlock 7 1 1 [⟨0, 226, 12⟩]) (halfLoaded p) fun t =>
        t.player == (halfLoaded p).player && t.store.designs.map Design.stored == [3]) = true ∧
    becomes (.dsnBlock 7 1 2 [⟨0, 226, 12⟩, ⟨4, 0, 0⟩]) (turned .offPosition starving)
      (fun t => t.player.state == .running && t.shaft.state == .positioning && t.shaft.keptTurn) = true := by decide +kernel

theorem rest_ascending (n : Nat) : ((List.range n).drop 1).Pairwise (· < ·) :=
  List.Pairwise.sublist (List.drop_sublist 1 _) List.pairwise_lt_range

theorem rest_perm (n : Nat) (h : 0 < n) : ((List.range n).drop 1 ++ [0]).Perm (List.range n) := by
  obtain ⟨m, rfl⟩ : ∃ m, n = m + 1 := ⟨n - 1, by omega⟩
  rw [List.range_succ_eq_map]
  exact List.perm_append_comm

theorem storeOf_free (d : Design) : (storeOf d).free = (List.range 2048).drop 1 := by
  simp only [storeOf]

theorem storeOf_sound (d : Design) (hn : d.stored ≤ 256) (hs : 0 < d.stored) (x y : Int) (b : Nat)
    (hc : d.chain = [⟨0, x, y, b, d.stored⟩]) : (storeOf d).Sound := by
  have hr : (storeOf d).ram = [(1, 30), (2, 12), (3, 3), (7, 226), (8, 12), (9, 4)] := rfl
  have hd : (storeOf d).designs = [d] := rfl
  have h : (storeOf d).chained = [0] := by rw [Store.chained, hd]; simp [hc]
  refine ⟨rfl, by rw [hd]; simp, ?_, ?_, ?_, by rw [hr]; decide⟩
  · rw [storeOf_free]; exact rest_ascending _
  · rw [h, storeOf_free]; exact rest_perm _ (by decide)
  · intro e he
    rw [hd, List.mem_singleton] at he
    subst he
    refine ⟨by rw [hc, List.length_singleton]; omega, fun k c hk => ?_⟩
    rw [hc] at hk
    match k with
    | 0 => simp at hk; subst hk; simp; omega
    | n + 1 => simp at hk

theorem witness_StoredBlockReadsBack :
    (storeOf loading7).Sound ∧ (storeOf loading7).find loading7.number = some loading7 ∧
    [(⟨0, 226, 12⟩ : RawRecord), ⟨4, 0, 0⟩].length ≤ 64 ∧
    blockReason loading7 loading7.trial 0 [⟨0, 226, 12⟩, ⟨4, 0, 0⟩] = none ∧ loading7.needsPage 2 = false ∧
    (storeOf loading7).Summed loading7 := by
  refine ⟨storeOf_sound _ (by decide) (by decide) 0 0 0 rfl, by decide +kernel, by decide, by decide +kernel, by decide, ?_⟩
  refine ⟨by decide +kernel, by decide +kernel, fun k c hk => ?_⟩
  match k with
  | 0 => simp [loading7, design7] at hk; subst hk; decide +kernel
  | n + 1 => simp [loading7, design7] at hk

theorem witness_PositionAndBlockOfRecord :
    design7.Chained ∧ (storeOf design7).Summed design7 ∧ (4 : Nat) ≤ design7.stored ∧ (1 : Nat) ≤ design7.stops ∧
    (storeOf design7).position design7 2 = (30, 12) ∧ (storeOf design7).block design7 2 = 1 ∧
    (storeOf design7).firstOfBlock design7 1 = some 2 ∧ (storeOf design7).firstOfBlock design7 2 = none := by
  have hs := (storeOf_sound design7 (by decide) (by decide) 0 0 0 rfl).chains design7 (by simp [Store.designs, storeOf])
  refine ⟨hs, ⟨by decide +kernel, by decide +kernel, fun k c hk => ?_⟩, by decide, by decide, by decide +kernel,
    by decide +kernel, by decide +kernel, by decide +kernel⟩
  match k with
  | 0 => simp [design7] at hk; subst hk; decide +kernel
  | n + 1 => simp [design7] at hk

/-- Design 7 loaded but not closed, with this many STOP records observed and this pin. -/
def unclosed (stops : Nat) (pin : Bool) : State :=
  { fit with store := storeOf { design7 with state := .loading, stops := stops, armedPin := pin } }

/-- The check value of design 7's records. -/
def check7 : Nat := (design7.crc ^^^ 0xFFFFFFFF).toNat

theorem witness_DsnCloseJudgesTheDesign :
    (unclosed 1 false).ready = true ∧ answers (.dsnClose 8 0) loaded [8] = true ∧ answers (.dsnClose 7 0) loaded [4, 2] = true ∧
    answers (.dsnClose 7 0) loading [11, 2, 0, 0, 0, 1, 0] = true ∧
    becomes (.dsnClose 7 (check7 + 1)) (unclosed 1 false) (fun t => t.ev.flags == Event.designFailed.bit) = true ∧
    answers (.dsnClose 7 check7) (unclosed 0 false) [12, 1, 0] = true ∧
    answers (.dsnClose 7 check7) (unclosed 1 false) [0] = true ∧
    (playing .running (unclosed 1 true)).ready = true ∧
    becomes (.dsnClose 7 (check7 + 1)) ((playing .running (unclosed 1 true)).modPlayer fun p => { p with armed := some 7 })
      (fun t => t.player.stopReason == some .design) = true := by decide +kernel

/-- The design being sewn, loaded but not closed, with this many STOP records observed and the player in a state. -/
def closing (stops : Nat) (p : PlayerState) : State :=
  (playing p (unclosed stops true)).modPlayer fun q => { q with armed := some 7 }

/-- A check value that is wrong for it. -/
def badCheck : Instr := .dsnClose 7 (check7 + 1)

theorem witness_DsnCloseJudgesTheDesign_states :
    (closing 1 .stopping).ready = true ∧
    becomes badCheck ((closing 1 .stopping).modPlayer fun p => { p with stopReason := some .repair }) (fun t =>
      t.player.state == .stopping && t.player.stopReason == some .design && t.player.soonStop) = true ∧
    becomes badCheck (closing 1 .changing) (fun t => t.player.state == .changing && t.player.stopReason == some .design) = true ∧
    becomes (.dsnClose 7 check7) (closing 0 .returning) (fun t =>
      t.player.state == .returning && t.player.stopReason == some .design && t.ev.flags == Event.designFailed.bit) = true ∧
    ([PlayerState.armed, .paused .hostStop, .starved, .finished].all fun p =>
      becomes badCheck (closing 1 p) fun t => t.player.state == .halted .design && t.player.armed == some 7) = true ∧
    becomes (.dsnClose 7 check7) (closing 0 .armed) (fun t =>
      t.player.state == .halted .design && t.link.reply == some ⟨0x92, [12, 1, 0]⟩) = true ∧
    (closing 1 (.halted .axis)).player.recovering = false ∧ (closing 1 (.halted .axis)).gov.move = none ∧
    becomes badCheck (closing 1 (.halted .axis)) (fun t => t.player.state == .halted .axis) = true ∧
    (closing 1 (.halted .axis)).player.errand = .none ∧
    becomes badCheck (turned .positioning ((closing 1 (.halted .axis)).modPlayer fun p => { p with recovering := true }))
      (fun t => t.player.state == .halted .axis && !t.player.recovering && t.shaft.state == .off) = true ∧
    becomes (.dsnClose 7 check7) (closing 1 .armed) (fun t =>
      t.player.state == .armed && t.ev.flags == Event.designReady.bit) = true ∧
    design7.stored = design7.declared ∧
    becomes (.dsnClose 7 check7) (turned .held (closing 1 .starved)) (fun t => t.player.state == .running) = true := by
  decide +kernel

theorem witness_DsnDropFreesItsPages :
    loaded.ready = true ∧ answers (.dsnDrop 8) loaded [8] = true ∧ answers (.dsnDrop 7) armed [6] = true ∧
    design7.armedPin = false ∧ design7.repairPin = false ∧ loaded.store.free.Pairwise (· < ·) ∧
    (List.range 2048).Pairwise (· < ·) ∧ (List.range 2048).Perm (loaded.store.free ++ design7.chain.map ChainPage.page) ∧
    answers (.dsnDrop 7) loaded [0, 1, 0, 0, 8] = true := by
  have hf : loaded.store.free = (List.range 2048).drop 1 := by simp only [loaded, storeOf]
  have hc : design7.chain.map ChainPage.page = [0] := rfl
  refine ⟨by decide +kernel, by decide +kernel, by decide +kernel, rfl, rfl, ?_, List.pairwise_lt_range, ?_, by decide +kernel⟩
  · rw [hf]; exact rest_ascending _
  · rw [hf, hc]; exact (rest_perm _ (by decide)).symm

theorem witness_StepKeepsStoreSound : loaded.store.Sound ∧ ∃ t, step loaded = .next t :=
  ⟨storeOf_sound _ (by decide) (by decide) 0 0 0 rfl, _, rfl⟩

/-! ### Witnesses: the stitch player -/

theorem witness_PrefetchFillsTheQueue :
    base.player.state.prefetches = false ∧ armed.player.state.prefetches = true ∧ armed.player.queue.length ≤ 32 ∧
    armed.player.queue.getLast? = none ∧ armed.prefetch.player.queue.length = 4 ∧
    (armed.modPlayer fun p => { p with queue := (List.range 32).map entry }).player.queue.length ≤ 32 ∧
    (armed.modPlayer fun p => { p with queue := [{ entry 3 with kind := .endRec }] }).prefetch.player.queue.length = 1 ∧
    (playing .finished armed).prefetch.player.queue = [] ∧ (playing (.halted .halt) armed).prefetch.player.queue = [] ∧
    (playing .idle armed).prefetch.player.queue = [] := by decide +kernel

theorem witness_ArmChecksAndSetsThePlayerRecord :
    loaded.ready = true ∧ loaded.player.state = .idle ∧ (playing .running loaded).ready = true ∧
    answers (.arm 7 1) (playing .running loaded) [4] = true ∧ answers (.arm 7 8) loaded [3] = true ∧
    answers (.arm 8 7) loaded [8] = true ∧
    answers (.arm 7 1) { loaded with store := storeOf { design7 with state := .failed } } [4] = true ∧
    answers (.arm 7 1) (broken loaded) [6] = true ∧
    answers (.arm 7 1) (loaded.modFrame fun f => { f with known := false }) [14] = true ∧
    answers (.arm 7 1) (loaded.modFrame fun f => { f with owner := .positioner }) [5] = true ∧
    answers (.arm 7 1) (loaded.modFrame fun f => { f with x := 22921 }) [13] = true ∧
    loaded.store.find 7 = some design7 ∧ loaded.heads.repairs = [] ∧ loaded.frame.known = true ∧
    boxFits (loaded.frame.hoops.getD 7 fullTravel) design7.box 22920 0 = true ∧
    boxFits (loaded.frame.hoops.getD 7 fullTravel) design7.box loaded.frame.x loaded.frame.y = true ∧
    answers (.arm 7 7) loaded [0] = true := by decide +kernel

/-- Halted, with this cause and with or without a recovery in progress. -/
def halted (c : HaltCause) (recovering : Bool) : State :=
  (playing (.halted c) armed).modPlayer fun p => { p with recovering := recovering }

/-- The E-STOP line asserted. -/
def pressed (s : State) : State := s.modEv fun v => { v with estop := some false, estopRaw := false }

theorem witness_DisarmLeavesNothingArmed :
    armed.ready = true ∧ (playing .starved armed).ready = true ∧ answers .disarm (playing .starved armed) [4] = true ∧
    armed.player.state = .armed ∧ answers .disarm armed [0] = true ∧ answers .disarm (playing .finished armed) [0] = true ∧
    answers .disarm (playing (.paused .hostStop) armed) [0] = true ∧ (halted .halt true).ready = true ∧
    answers .disarm (halted .halt true) [5] = true ∧ (pressed (halted .estop false)).ready = true ∧
    answers .disarm (pressed (halted .estop false)) [4] = true ∧ (halted .halt false).ev.estop ≠ some false ∧
    (halted .halt false).nc.kept = none ∧ answers .disarm (halted .halt false) [0] = true ∧
    (turned .fault (halted .shaft false)).ready = true ∧ (turned .fault (halted .shaft false)).shaft.still = true ∧
    becomes .disarm (turned .fault (halted .shaft false)) (fun t => t.shaft.state == .off) = true ∧
    becomes .disarm ((turned .fault (halted .shaft false)).modShaft fun h => { h with still := false })
      (fun t => t.shaft.state == .fault && t.shaft.toOff) = true := by decide +kernel

theorem witness_HoldRequestByShaftState :
    armed.shaft.state = .off ∧ armed.shaft.driveReady = true ∧ armed.frame.owner ≠ .positioner ∧
    (turned .offPosition armed).shaft.state = .offPosition ∧ (turned .fault armed).shaft.still = true ∧
    ((turned .fault armed).modShaft fun h => { h with still := false }).shaft.still = false ∧
    (turned .held armed).shaft.state = .held ∧ (turned .positioning armed).shaft.state = .positioning ∧
    (turned .turning armed).shaft.state = .turning ∧ (turned .braking armed).shaft.state = .braking := by decide +kernel

theorem witness_StartBeginsItsChain :
    loaded.ready = true ∧ answers .start loaded [4] = true ∧ (pressed armed).ready = true ∧
    answers .start (pressed armed) [4] = true ∧ answers .start (turned .braking armed) [4] = true ∧
    answers .start (turned .fault armed) [4] = true ∧
    answers .start (armed.modCase fun c => { c with state := .fault }) [4] = true ∧ armed.ready = true ∧
    armed.ev.estop ≠ some false ∧ armed.nc.state ≠ .fault ∧
    answers .start (armed.modFrame fun f => { f with known := false }) [14] = true ∧
    answers .start (armed.modFrame fun f => { f with owner := .positioner }) [5] = true ∧
    becomes .start armed (fun t => t.player.state == .changing && t.shaft.state == .positioning && t.frame.owner == .player) = true ∧
    becomes .start (armed.modPlayer fun p => { p with displaced := true }) (fun t => t.player.state == .returning) = true := by
  decide +kernel

/-- Paused in a NORMAL pass. -/
def paused : State := playing (.paused .hostStop) armed

/-- Paused in a REPAIR pass in which head 1 is ACTIVE. -/
def inPass : State := (headed .active .repairing paused).modPlayer fun p => { p with mode := .repair }

theorem witness_ResumeBeginsItsChain :
    armed.ready = true ∧ answers .resume armed [4] = true ∧ paused.ready = true ∧ answers .resume (pressed paused) [4] = true ∧
    (paused.modPlayer fun p => { p with mode := .repair }).ready = true ∧
    answers .resume (paused.modPlayer fun p => { p with mode := .repair }) [4] = true ∧ paused.player.mode = .normal ∧
    paused.ev.estop ≠ some false ∧ paused.shaft.state = .off ∧ inPass.ready = true ∧ inPass.player.mode = .repair ∧
    (inPass.heads.table[0]?.map Head.role) = some .active ∧
    answers .resume (paused.modFrame fun f => { f with known := false }) [14] = true ∧
    answers .resume (paused.modFrame fun f => { f with owner := .positioner }) [5] = true ∧
    answers .resume paused [0] = true ∧ answers .resume inPass [0] = true := by decide +kernel

/-- Owed steps of an overrun move, two on X and one on Y. -/
def owing : SewMove :=
  { index := 0, kind := .stitch, nx := 120, ny := 48, xNeg := false, yNeg := false, ex := 118, ey := 47, window := 448
    slice := 28, profile := defaultProfile, waitX := 0, waitY := 0, overrun := true }

/-- In IDLE after a DISARM that found owed steps: the release waits for them. -/
def owed : State := (fit.modGov fun g => { g with move := some owing }).modFrame fun f =>
  { f with owner := .player, after := .release }

/-- HELD, waiting for the colour change into block 0 after a START. -/
def waiting : State :=
  (turned .held (playing .changing armed)).modPlayer fun p => { p with errand := .changeWait .start 0 }

theorem witness_EnteringChangeDrivesTheCase :
    waiting.shaft.state = .held ∧ waiting.nc.state = .idle ∧ waiting.nc.kept = none ∧ waiting.nc.directBusy = false ∧
    waiting.player.errand = .changeWait .start 0 ∧ waiting.player.mode = .normal ∧
    waiting.armedDesign = some { design7 with armedPin := true } ∧ design7.seq[0]? = some ⟨2, false⟩ ∧
    waiting.nc.pos ≠ waiting.player.preselect.getD 2 ∧
    (waiting.modPlayer fun p => { p with preselect := some 15 }).nc.pos ≠ 15 ∧
    (waiting.settle.nc.job.map CaseJob.target) = some 2 := by decide +kernel

/-- HELD with the frame the player's, waiting for a colour change, the case at needle 2. -/
def changeFor (source : ChangeSource) (asked : Nat) (f : Player → Player) : State :=
  ((waiting.modFrame fun m => { m with owner := .player }).modCase fun c => { c with pos := 2 }).modPlayer fun p =>
    f { p with errand := .changeWait source asked }

/-- Design 7 armed with a pause at its second block. -/
def pausing (s : State) : State :=
  { s with store := storeOf { design7 with armedPin := true, seq := [⟨2, true⟩, ⟨5, true⟩] } }

theorem witness_EnteringChangeDrivesTheCase_blocks :
    (changeFor .stopRecord 1 id).shaft.state = .held ∧ (changeFor .stopRecord 1 id).nc.state = .idle ∧
    (changeFor .stopRecord 1 id).nc.kept = none ∧ (changeFor .stopRecord 1 id).nc.directBusy = false ∧
    (changeFor .stopRecord 1 id).armedDesign = some { design7 with armedPin := true } ∧
    (changeFor .stopRecord 1 id).settle.nc.job = some ⟨5, .stopRecord, some 1⟩ ∧
    (changeFor .stopRecord 1 id).settle.player.history[1]? = some (some 5) ∧
    (changeFor .stopRecord 1 fun p => { p with preselect := some 9 }).settle.nc.job = some ⟨9, .stopRecord, some 1⟩ ∧
    (changeFor .stopRecord 1 fun p => { p with preselect := some 9 }).settle.player.preselect = none ∧
    -- a restoring change of a RESUME: the needle of block 1 as it was entered, the preselect untouched
    (changeFor .resume 0 fun p => { p with cursor := 2, history := updAt 1 (fun _ => some 4) p.history }).blockOf 2 = 1 ∧
    ((changeFor .resume 0 fun p => { p with cursor := 2, history := updAt 1 (fun _ => some 4) p.history, preselect := some 9 })
      ).settle.nc.job = some ⟨4, .resume, some 1⟩ ∧
    ((changeFor .resume 0 fun p => { p with cursor := 2, history := updAt 1 (fun _ => some 4) p.history, preselect := some 9 })
      ).settle.player.preselect = some 9 ∧
    -- in a REPAIR pass the history gives the needle, or the table where the block has not been entered; neither is written
    (changeFor .stopRecord 1 fun p => { p with mode := .repair, history := updAt 1 (fun _ => some 6) p.history
      }).settle.nc.job = some ⟨6, .stopRecord, some 1⟩ ∧
    (changeFor .pass 0 fun p => { p with mode := .repair, cursor := 2 }).settle.nc.job = some ⟨5, .pass, some 1⟩ ∧
    (changeFor .pass 0 fun p => { p with mode := .repair, cursor := 2 }).settle.player.history[1]? = some none := by
  decide +kernel

theorem witness_EnteringChangeDrivesTheCase_stands :
    (changeFor .start 0 id).nc.pos = 2 ∧ (changeFor .start 0 id).frame.owner = .player ∧
    (changeFor .start 0 id).frame.move = none ∧ (changeFor .start 0 id).gov.move = none ∧
    (changeFor .start 0 id).player.stopReason = none ∧ (changeFor .start 0 id).settle.nc.job = none ∧
    (changeFor .start 0 id).settle.outs.holderCount = 2 ∧
    (changeFor .start 0 id).settle.ev.flags &&& Event.colourDone.bit ≠ 0 ∧
    (pausing (changeFor .start 0 id)).settle.player.state = .paused .colourPause ∧
    (changeFor .start 0 fun p => { p with stopReason := some .bobbinStop }).settle.player.state = .paused .bobbinStop ∧
    (changeFor .start 0 fun p => { p with stopReason := some .hostStop }).settle.player.state = .paused .hostStop ∧
    (changeFor .start 0 fun p => { p with stopReason := some .buttonStop }).settle.player.state = .paused .buttonStop ∧
    (changeFor .start 0 fun p => { p with stopReason := some .breakStop }).settle.player.state = .paused .breakStop ∧
    (changeFor .start 0 fun p => { p with stopReason := some .passEmpty }).settle.player.state = .paused .passEmpty ∧
    -- a RESUME into a block without a history entry completes where the case stands, without a look at the pause flag
    (pausing (changeFor .resume 0 id)).player.history[0]? = some none ∧
    (pausing (changeFor .resume 0 id)).settle.ev.flags &&& Event.colourDone.bit ≠ 0 ∧
    (pausing (changeFor .resume 0 id)).settle.player.history[0]? = some (some 2) ∧
    (pausing (changeFor .resume 0 id)).settle.player.state = .running ∧
    -- in a REPAIR pass that has emptied every reason pauses as PASS_EMPTY; with a head ACTIVE the reason is shown
    (changeFor .stopRecord 0 fun p => { p with mode := .repair, stopReason := some .hostStop }).settle.player.state =
      .paused .passEmpty ∧
    (headed .active .repairing (changeFor .stopRecord 0 fun p => { p with mode := .repair, stopReason := some .hostStop })
      ).settle.player.state = .paused .hostStop ∧
    -- a STOP record's change of a REPAIR pass completes without a pause; a restoring change at its needle is not made
    (pausing (changeFor .stopRecord 0 fun p => { p with mode := .repair })).settle.ev.flags &&& Event.colourDone.bit ≠ 0 ∧
    (pausing (changeFor .stopRecord 0 fun p => { p with mode := .repair })).settle.player.state = .running ∧
    (changeFor .resume 0 fun p => { p with history := updAt 0 (fun _ => some 2) p.history }).settle.ev.flags &&&
      Event.colourDone.bit = 0 ∧
    (changeFor .resume 0 fun p => { p with history := updAt 0 (fun _ => some 2) p.history }).settle.player.state = .running := by
  decide +kernel

theorem witness_StopAsksForAPlannedStop :
    (playing .running armed).ready = true ∧
    becomes .stop (playing .running armed) (fun t => t.player.state == .stopping && t.player.soonStop) = true ∧
    (playing .stopping armed).ready = true ∧ (playing .changing armed).ready = true ∧ (playing .returning armed).ready = true ∧
    answers .stop (playing .changing armed) [0] = true ∧
    ((playing .starved armed).modFrame fun f => { f with owner := .player }).ready = true ∧
    ((playing .starved armed).modFrame fun f => { f with owner := .player }).frame.move = none ∧
    becomes .stop ((playing .starved armed).modFrame fun f => { f with owner := .player })
      (fun t => t.player.state == .paused .hostStop && t.frame.lent) = true ∧
    base.ready = true ∧ answers .stop base [4] = true ∧ answers .stop paused [4] = true ∧
    answers .stop (halted .halt false) [4] = true ∧ answers .stop (playing .finished armed) [4] = true := by decide +kernel

theorem witness_HaltAbandonsEverything :
    sewing.ready = true ∧ sewing.player.state = .running ∧
    becomes .halt sewing (fun t => t.player.state == .halted .halt && t.outs.kill) = true ∧ (halted .halt false).ready = true ∧
    (halted .halt false).player.recovering = false ∧ (halted .halt false).gov.move = none ∧
    answers .halt (halted .halt false) [0] = true ∧ (halted .estop true).ready = true ∧
    (halted .estop true).player.errand = .none ∧
    becomes .halt (halted .estop true) (fun t => t.player.state == .halted .halt) = true ∧ base.ready = true ∧
    base.player.state = .idle ∧ base.player.errand = .none ∧ base.frame.owner ≠ .positioner ∧ base.shaft.state ≠ .positioning ∧
    base.gov.move = none ∧ answers .halt base [0] = true ∧ owed.ready = true ∧ owed.player.state = .idle ∧
    owed.player.errand = .none ∧ owed.frame.owner = .player ∧ owed.frame.after = .release ∧ owed.frame.move = none ∧
    owed.gov.move.isSome = true ∧ owed.shaft.state ≠ .positioning ∧
    becomes .halt owed (fun t => t.gov.move.isNone && t.frame.owner == .none) = true ∧
    becomes .shaftDriveNotReady (turned .held owed) (fun t => t.gov.move.isNone && t.frame.owner == .none) = true := by
  decide +kernel

theorem witness_RecoverBeginsAPositioningTurn :
    armed.ready = true ∧ answers .recover armed [4] = true ∧ (halted .halt true).ready = true ∧
    answers .recover (halted .halt true) [5] = true ∧ answers .recover (turned .braking (halted .halt false)) [5] = true ∧
    answers .recover (pressed (halted .halt false)) [4] = true ∧
    answers .recover ((halted .halt false).modFrame fun f => { f with readyY := false }) [4] = true ∧
    (halted .halt false).ready = true ∧ (halted .halt false).shaft.driveReady = true ∧
    (halted .halt false).frame.readyX = true ∧ (halted .halt false).frame.readyY = true ∧
    (halted .halt false).anyLimit = false ∧
    (halted .halt false).armedDesign = some { design7 with armedPin := true } ∧
    becomes .recover (halted .halt false) (fun t => t.player.recovering && t.shaft.state == .positioning) = true := by
  decide +kernel

theorem witness_KeepFrameAndPreselectAreStored :
    base.ready = true ∧ armed.ready = true ∧ answers (.keepFrame 2) base [3] = true ∧ answers (.keepFrame 1) base [0, 1] = true ∧
    answers (.preselect 1) base [4] = true ∧ answers (.preselect 16) armed [3] = true ∧
    answers (.preselect 15) armed [0, 15] = true ∧ answers (.preselect 0) armed [0, 0xFF] = true := by decide +kernel

/-- The overview of DSN_INFO 0 has 1 + 2 + 8 × 7 bytes. -/
theorem witness_InformationRequestsOnlyReport :
    loaded.ready = true ∧ answers (.dsnInfo 8) loaded [8] = true ∧ loaded.store.find 7 = some design7 ∧
    becomes .caseInfo loaded (fun t => t.link.reply.isSome) = true ∧
    becomes (.dsnInfo 0) loaded (fun t => (t.link.reply.map fun f => f.payload.length) == some 59) = true := by decide +kernel

/-! ### Witnesses: the speed governor and the outputs -/

/-- The thirteen default settings. -/
def settings13 : List Nat := [250, 790, 10, 16, 960, 16000, 1200, 200, 80, 40, 80, 200, 1000]

/-- A shaft that positions with this demand and this stall timer, the player PAUSED. -/
def creeping (demand : Nat) (stall : Option Nat) : State :=
  (turned .positioning paused).modShaft fun h => { h with demand := demand, stall := stall }

theorem witness_MotionSetsAreWrittenAndChecked :
    base.ready = true ∧ (playing .running armed).ready = true ∧ settings13.length = 13 ∧ defaultProfile.length = 17 ∧
    answers (.setMotion settings13) base ([0] ++ settings13.flatMap b2 ++ b2 800 ++ b2 448 ++ b2 960 ++ b2 28 ++ b2 60 ++ [0])
      = true ∧
    becomes (.setMotion (settings13.set 5 8000)) (playing .running armed)
      (fun t => t.gov.pendingFlag && t.gov.active.motion.rMax == 16000 && t.gov.pending.motion.rMax == 8000) = true ∧
    becomes (.setMotion (settings13.set 8 90)) (creeping 80 (some 50)) (fun t => t.shaft.stall.isNone && t.shaft.demand == 80)
      = true ∧
    becomes .stallTimeout (after [.setMotion (settings13.set 8 90)] (creeping 80 (some 50)))
      (fun t => t.shaft.state == .positioning) = true ∧
    becomes (.setMotion (settings13.set 8 80)) (creeping 80 none) (fun t => t.shaft.stall == some 100) = true ∧
    becomes (.setMotion (settings13.set 8 40)) (creeping 80 (some 50)) (fun t => t.shaft.stall == some 50) = true ∧
    becomes (.setProfile defaultProfile) ((creeping 80 (some 50)).modGov fun g =>
      { g with pendingFlag := true, pending := { g.pending with motion := { g.pending.motion with sStop := 81 } } })
      (fun t => t.shaft.stall.isNone) = true ∧
    becomes (.setMotion (settings13.set 8 90)) (playing .stopping (creeping 80 (some 50))) (fun t => t.shaft.stall == some 50)
      = true ∧
    answers (.setProfile (List.replicate 17 0)) base [3, 0] = true ∧
    answers (.setMotion [100, 950, 63, 63, 1008, 40000, 1500, 400, 40, 200, 300, 600, 1500]) base [3, 1] = true ∧
    answers (.setMotion (settings13.set 5 1000)) base [3, 2] = true := by decide +kernel

theorem witness_SpeedIsClampedAndStored :
    base.ready = true ∧ base.gov.active.motion.sStop ≤ base.gov.active.motion.sMax ∧ answers (.speed 79) base [0, 80, 0] = true ∧
    answers (.speed 80) base [0, 80, 0] = true ∧ answers (.speed 1201) base [0, 0xB0, 4] = true := by decide +kernel

theorem witness_SetOutputNamesItsOutputs :
    base.ready = true ∧ answers (.setOutput 3 0 0 0) base [3] = true ∧ answers (.setOutput 0 0 4 0) base [3] = true ∧
    OutMode.code .forceOn = 1 ∧ Polarity.code .activeLow = 1 ∧ answers (.setOutput 1 13 1 0) base [3] = true ∧
    (turned .turning base).ready = true ∧ answers (.setOutput 0 12 1 0) (turned .turning base) [6] = true ∧
    answers (.setOutput 0 12 0 0) (turned .turning base) [0, 0, 0] = true ∧
    answers (.setOutput 0 12 1 0) base [0, 1, 0] = true ∧ answers (.setOutput 1 1 0 1) (turned .turning base) [6] = true ∧
    answers (.setOutput 1 0 3 1) base [0, 3, 1] = true ∧ answers (.setOutput 2 99 2 0) (turned .turning base) [6] = true ∧
    answers (.setOutput 2 99 2 1) base [0, 2, 1] = true := by decide +kernel

/-- A trim revolution of an engaged head 1 at this angle. -/
def trimming (angle : Nat) : State :=
  (((turned .turning fit).modShaft fun h => { h with angle := angle }).modHeads fun h =>
    { h with table := updAt 0 (fun d => { d with engaged := true }) h.table }).modPlayer fun p =>
      { p with active := some ⟨some 3, .trim, 0, 0, 0⟩ }

theorem witness_OutputsFollowTheirRules :
    (trimming 420).outs.hold[0]? = some ⟨.auto, .activeHigh⟩ ∧ (trimming 420).outs.trim[0]? = some ⟨.auto, .activeHigh⟩ ∧
    (trimming 420).outs.holder = ⟨.auto, .activeHigh⟩ ∧ (trimming 420).outs.kill = false ∧ (trimming 420).estop = false ∧
    (trimming 420).holdValue 1 = some false ∧ (trimming 420).holdValue 2 = some true ∧
    (trimming 420).trimValue 1 = some true ∧ (trimming 419).trimValue 1 = some false ∧ (trimming 719).trimValue 1 = some true ∧
    (trimming 720).trimValue 1 = some false ∧
    ((trimming 199).modOuts fun o => { o with holderArmed := true }).holderValue = some false ∧
    ((trimming 200).modOuts fun o => { o with holderArmed := true }).holderValue = some true ∧
    ((trimming 499).modOuts fun o => { o with holderArmed := true }).holderValue = some true ∧
    ((trimming 500).modOuts fun o => { o with holderArmed := true }).holderValue = some false ∧
    (pressed (trimming 420)).estop = true ∧ (pressed (trimming 420)).holdValue 1 = some true ∧
    (pressed (trimming 420)).trimValue 1 = some false := by decide +kernel

/-! ### Witnesses: the frame unit -/

/-- The positioner owns the frame. -/
def positioning (s : State) : State := s.modFrame fun f => { f with owner := .positioner }

theorem witness_PositionerMovesToItsTarget :
    fit.ready = true ∧ answers (.frameGo 0 0 0) (pressed fit) [4] = true ∧
    answers .framePark (fit.modFrame fun f => { f with readyX := false }) [4] = true ∧
    answers (.frameGo 0 0 0) (positioning fit) [5] = true ∧
    answers .framePark (armed.modPlayer fun p => { p with keepFrame := true }) [6] = true ∧
    answers (.frameGo 2 0 0) fit [3] = true ∧ answers (.frameGo 0 (-32768) 0) fit [3] = true ∧
    answers (.frameGo 0 0 0) (fit.modFrame fun f => { f with known := false }) [14] = true ∧
    answers .framePark (fit.modFrame fun f => { f with known := false }) [14] = true ∧
    answers (.frameGo 0 6000 (-2500)) fit [0, 0x70, 0x17, 0x3C, 0xF6] = true ∧
    becomes (.frameGo 0 6001 0) fit (fun t => t.ev.flags == Event.fieldLimit.bit && t.frame.move.isSome) = true ∧
    becomes (.frameGo 1 0 0) fit (fun t => t.ev.flags == Event.frameDone.bit && t.frame.move.isNone) = true ∧
    answers .framePark fit [0, 0, 0, 0xC4, 0x09] = true ∧ fit.frame.owner = .none ∧ fit.player.armed = none ∧
    fit.player.errand = .none ∧ fit.inputActive 26 = false := by decide +kernel

theorem witness_HomeAndTraceBegin :
    fit.ready = true ∧ answers .frameHome (pressed fit) [4] = true ∧ answers .frameTrace (turned .turning fit) [4] = true ∧
    answers .frameHome (positioning fit) [5] = true ∧
    answers .frameTrace (armed.modPlayer fun p => { p with keepFrame := true }) [6] = true ∧
    fit.homeBlocked .x = false ∧ fit.homeBlocked .y = false ∧ answers .frameHome fit [0] = true ∧
    (fit.modEv fun v => { v with inputs := updAt 26 (fun i => { i with level := some false }) v.inputs }).homeBlocked .x = true ∧
    answers .frameHome (fit.modEv fun v => { v with inputs := updAt 26 (fun i => { i with level := some false }) v.inputs }) [4]
      = true ∧
    fit.armedDesign = none ∧ answers .frameTrace fit [4] = true ∧ armed.player.origin = some (0, 0) ∧
    answers .frameTrace (armed.modFrame fun f => { f with known := false }) [14] = true ∧
    (Leg.between 4 0 0 0).isEmpty = false ∧ answers .frameTrace (armed.modFrame fun f => { f with x := 4 }) [0] = true ∧
    answers .frameTrace ((armed.modFrame fun f => { f with x := 4 }).modEv fun v =>
      { v with inputs := updAt 26 (fun i => { i with level := some false }) v.inputs }) [4] = true := by decide +kernel

theorem witness_HomeAndTraceBegin_empty :
    armed.frame.known = true ∧ (Leg.between 0 0 0 0).isEmpty = true ∧ armed.limitAhead (Leg.between 0 0 0 0) = none ∧
    becomes .frameTrace armed (fun t => t.frame.move ==
      some (.legs .trace (Leg.between 0 0 1080 0) [(1080, 816), (0, 816), (0, 0), (0, 0)] none)) = true ∧
    armed.player.errand = .none ∧
    becomes .frameTrace { armed with store := storeOf { design7 with armedPin := true, box := ⟨0, 0, 0, 0⟩ } } (fun t =>
      t.frame.move.isNone && t.frame.owner == .none && t.ev.flags == Event.frameDone.bit && t.player.displaced) = true := by
  decide +kernel

theorem witness_FrameTablesAreStored :
    base.ready = true ∧ answers (.setHoop 0 0 1 0 1) base [3] = true ∧ answers (.setHoop 7 1 0 0 0) base [3] = true ∧
    (playing .armed base).ready = true ∧
    answers (.setHoop 1 0 1 0 1) ((playing .armed base).modFrame fun f => { f with hoop := 1 }) [6] = true ∧
    answers (.setHoop 7 (-7000) 7000 0 0) base [0, 0x90, 0xE8, 0x70, 0x17, 0, 0, 0, 0] = true ∧
    answers (.hoopSelect 8) base [3] = true ∧ answers (.hoopSelect 7) (playing .armed base) [4] = true ∧
    becomes (.hoopSelect 7) base (fun t => t.frame.hoop == 7) = true ∧
    answers (.setFrame 2 0 0 0 0 0 0) base [3] = true ∧ answers (.setFrame 0 0 0 0 0 0 0) (positioning base) [5] = true ∧
    becomes (.setFrame 1 0 0 0 0 0 1999) base (fun t => t.frame.settings.rPos == 2000 && t.frame.settings.dirX) = true := by
  decide +kernel

/-- The frame with this move in flight for the positioner. -/
def moving (m : FrameMove) : State := fit.modFrame fun f => { f with owner := .positioner, move := some m }

theorem witness_AxisStepsMoveTheFrame :
    fit.resetHeld = false ∧ (moving (.legs .go (Leg.between 0 0 8 (-4)) [] none)).quiet = true ∧
    (moving (.legs .go (Leg.between 0 0 8 (-4)) [] none)).gov.move = none ∧ (Leg.between 0 0 8 (-4)).leads = .x ∧
    ((Leg.between 0 0 8 (-4)).advance 12000 false).done = false ∧ -262143 ≤ fit.frame.x ∧ fit.frame.y ≤ 262143 ∧
    (Frame.stepX { fit.frame with x := -262143 } true 1).known = false ∧
    (Frame.stepX { fit.frame with x := -262143 } true 1).x = -262143 ∧
    becomes (.axisStep .x) (moving (.legs .go (Leg.between 0 0 8 (-4)) [] none)) (fun t => t.frame.x == 1 && t.frame.y == 0)
      = true ∧
    becomes (.axisStep .y) (moving (.legs .go (Leg.between 0 0 8 (-4)) [] none)) (fun t => t.frame.x == 0 && t.frame.y == 0)
      = true ∧
    (moving (.homing .x (.search 0))).quiet = true ∧ (moving (.homing .x (.search 0))).homeActive .x = false ∧
    0 < searchBound .x ∧ becomes (.axisStep .x) (moving (.homing .x (.search 0))) (fun t => t.frame.x == -1) = true ∧
    becomes .homingSearchLimit (moving (.homing .y (.search (searchBound .y)))) (fun t => t.frame.move.isNone) = true ∧
    (moving (.homing .y (.backOff 39))).frame.owner = .positioner ∧ (moving (.homing .y (.backOff 39))).player.errand = .none ∧
    becomes (.axisStep .y) (moving (.homing .y (.backOff 39))) (fun t => t.frame.known && t.frame.y == -10000) = true := by
  decide +kernel

/-- A leg of 4 and −2 steps before its last step. -/
def lastStep : Leg := { nx := 4, ny := 2, xNeg := false, yNeg := true, ex := 3, ey := 1, rateSq := 4000000 }

/-- A leg of 40 steps on X that runs at this rate. -/
def running (rateSq : Nat) : Leg := { nx := 40, ny := 0, xNeg := false, yNeg := false, ex := 9, ey := 0, rateSq := rateSq }

theorem witness_AxisStepsMoveTheFrame_ends :
    lastStep.leads = .x ∧ (lastStep.advance 12000 false).done = true ∧ firstLeg 1 (-1) [] = none ∧
    (moving (.legs .go lastStep [] none)).quiet = true ∧ (moving (.legs .go lastStep [] none)).player.errand = .none ∧
    becomes (.axisStep .x) (moving (.legs .go lastStep [] none)) (fun t =>
      t.frame.x == 1 && t.frame.y == -1 && t.frame.owner == .none && t.ev.flags == Event.frameDone.bit) = true ∧
    firstLeg 1 (-1) [(1, -1), (5, 5)] = some (Leg.between 1 (-1) 5 5, []) ∧
    becomes (.axisStep .x) (moving (.legs .trace lastStep [(1, -1), (5, 5)] none)) (fun t =>
      t.frame.move == some (.legs .trace (Leg.between 1 (-1) 5 5) [] none)) = true ∧
    ((running 9000000).advance 12000 true).done = false ∧ 4000000 < ((running 9000000).advance 12000 true).rateSq ∧
    (moving (.legs .go (running 9000000) [] (some .halt))).quiet = true ∧
    becomes (.axisStep .x) (moving (.legs .go (running 9000000) [] (some .halt))) (fun t => t.frame.move.isSome) = true ∧
    ((running 4200000).advance 12000 true).rateSq ≤ 4000000 ∧
    becomes (.axisStep .x) (moving (.legs .go (running 4200000) [] (some .halt))) (fun t =>
      t.frame.move.isNone && t.ev.flags == Event.frameDone.bit) = true := by decide +kernel

/-- The lead-in of the player before its last step, the shaft HELD. -/
def leading (e : Errand) (r : Option StopReason) (queue : List QueueEntry) : State :=
  ((turned .held (playing .returning armed)).modFrame fun f =>
    { f with owner := .player, move := some (.legs .leadIn lastStep [] none) }).modPlayer fun p =>
      { p with errand := e, stopReason := r, queue := queue, displaced := true }

theorem witness_AxisStepsMoveTheFrame_chain :
    (leading .leadMove none [entry 0]).quiet = true ∧ (leading (.returnMove .start) none []).quiet = true ∧
    (leading .leadMove none []).frame.owner = .player ∧ (leading .leadMove none []).frame.after = .keep ∧
    (leading .leadMove none []).gov.move = none ∧
    becomes (.axisStep .x) (leading (.returnMove .start) none []) (fun t =>
      t.player.state == .changing && !t.player.displaced) = true ∧
    becomes (.axisStep .x) (leading (.returnMove .start) (some .hostStop) []) (fun t =>
      t.player.state == .paused .hostStop && t.frame.lent && !t.player.displaced) = true ∧
    becomes (.axisStep .x) (leading (.returnMove .start) (some .design) []) (fun t =>
      t.player.state == .halted .design && t.frame.lent) = true ∧
    becomes (.axisStep .x) (leading .leadMove (some .bobbinStop) []) (fun t =>
      t.player.state == .paused .bobbinStop && t.frame.lent) = true ∧
    becomes (.axisStep .x) (leading .leadMove (some .design) []) (fun t => t.player.state == .halted .design) = true ∧
    becomes (.axisStep .x) (leading .leadMove none [{ entry 1 with kind := .stop }]) (fun t =>
      t.player.state == .changing && t.player.cursor == 2 && t.player.resume == 2) = true ∧
    becomes (.axisStep .x) (leading .leadMove none [{ entry 3 with kind := .endRec }]) (fun t =>
      t.player.state == .finished && t.frame.lent) = true ∧
    (leading .leadMove none [entry 0]).shaft.state = .held ∧ (leading .leadMove none [entry 0]).shaft.driveReady = true ∧
    becomes (.axisStep .x) (leading .leadMove none [entry 0]) (fun t =>
      t.player.state == .running && t.shaft.state == .turning && t.shaft.demand == 200) = true ∧
    becomes (.axisStep .x) ((leading .leadMove none [entry 0]).modPlayer fun p => { p with mode := .repair }) (fun t =>
      t.player.state == .stopping && t.player.stopReason == some .passEnd && t.player.stopIndex == some 0) = true ∧
    (loading7.stored < 0 + 16 ∧ loading7.stored ≠ loading7.declared) ∧
    becomes (.axisStep .x) { leading .leadMove none [] with store := storeOf { loading7 with armedPin := true } } (fun t =>
      t.player.state == .starved && t.player.queue == []) = true := by decide +kernel

/-- HELD and waiting with an errand, the frame with no move 8 steps from the origin on each axis. -/
def returning (e : Errand) (queue : List QueueEntry) : State :=
  (leading e none queue).modFrame fun f => { f with move := none, x := 8, y := -8 }

/-- The record at the cursor is record 2, at 30 and 12 steps of the design, 120 and 48 of the frame. -/
theorem witness_AxisStepsMoveTheFrame_return :
    (returning (.returnWait .start) []).nc.kept = none ∧ (returning (.returnWait .start) []).gov.move = none ∧
    (returning (.returnWait .start) []).frame.owner = .player ∧ (returning (.returnWait .start) []).frame.lent = false ∧
    (returning (.returnWait .start) []).player.origin = some (0, 0) ∧
    (returning (.returnWait .start) []).shaft.state = .held ∧
    (let s := (returning (.returnWait .start) [entry 9]).modPlayer fun p => { p with cursor := 2 }
     s.positionOf 2 = (30, 12) ∧ s.settle.frame.move = some (.legs .returnMove (Leg.between 8 (-8) 120 48) [] none) ∧
     s.settle.player.queue.map QueueEntry.index = [2, 3] ∧ s.settle.player.errand = .returnMove .start ∧
     (s.modFrame fun f => { f with readyY := false }).settle.player.state = .halted .axis) ∧
    (returning .leadWait [entry 0]).settle.frame.move = some (.legs .leadIn (Leg.between 8 (-8) 0 0) [] none) ∧
    (returning .leadWait [entry 0]).settle.player.errand = .leadMove ∧
    ((returning .leadWait [entry 0]).modInput 26 fun i => { i with level := some false }).settle.player.state = .halted .axis ∧
    ((returning .leadWait [entry 0]).modInput 26 fun i => { i with level := some false }).settle.frame.known = false ∧
    ((returning .leadWait [entry 0]).modInput 27 fun i => { i with level := some false }).settle.frame.move.isSome = true ∧
    ((returning (.returnWait .start) []).modFrame fun f => { f with x := 0, y := 0 }).settle.player.displaced = false := by
  decide +kernel

/-- The X axis at home or not, in a stage of its homing. -/
def homing (stage : HomeStage) (atHome : Bool) : State :=
  (moving (.homing .x stage)).modInput 30 fun i => { i with level := some !atHome }

theorem witness_AxisStepsMoveTheFrame_homing :
    (homing (.clear 3999) true).homeActive .x = true ∧ (homing (.clear 3999) true).quiet = true ∧
    (homing (.search 0) false).homeActive .x = false ∧ (homing (.clear 4000) true).frame.owner = .positioner ∧
    (homing (.clear 4000) true).frame.lent = false ∧ (homing (.clear 4000) true).player.errand = .none ∧
    becomes (.axisStep .x) (homing (.clear 3999) true) (fun t => t.frame.x == 1) = true ∧
    becomes (.axisStep .x) (homing (.clear 4000) true) (fun t => t.frame.x == 0) = true ∧
    becomes .homingSearchLimit (homing (.clear 4000) true) (fun t => t.frame.move.isNone && !t.frame.known &&
      t.frame.owner == .none) = true ∧
    becomes (.axisStep .x) (homing (.clearMore 38) false) (fun t => t.frame.move == some (.homing .x (.clearMore 39))) = true ∧
    becomes (.axisStep .x) (homing (.clearMore 39) false) (fun t => t.frame.move == some (.homing .x (.search 0))) = true ∧
    becomes (.axisStep .x) (homing (.clearMore 39) true) (fun t => t.frame.move == some (.homing .x (.backOff 0))) = true ∧
    becomes (.axisStep .x) (homing (.search 55999) false) (fun t => t.frame.x == -1) = true ∧
    becomes (.axisStep .x) (homing (.search 56000) false) (fun t => t.frame.x == 0) = true ∧
    becomes .homingSearchLimit (homing (.search 56000) false) (fun t => t.frame.move.isNone) = true ∧
    becomes (.axisStep .x) (homing (.backOff 38) true) (fun t => t.frame.move == some (.homing .x (.backOff 39))) = true ∧
    becomes (.axisStep .x) (homing (.backOff 39) true) (fun t => t.frame.move == some (.homing .y (.search 0))) = true := by
  decide +kernel

/-! ### Witnesses: the needle case -/

/-- In CHANGING with a lead-in leg in flight at this rate. -/
def leadingAt (rateSq : Nat) : State := (playing .changing armed).modFrame fun f =>
  { f with owner := .player, move := some (.legs .leadIn (running rateSq) [] none) }

/-- The positioner's move in flight while the player, at rest with its frame lent, is armed. -/
def lentMoving (m : FrameMove) : State := paused.modFrame fun f => { f with owner := .positioner, lent := true, move := some m }

/-- HALTED with owed steps, the lending waiting for them. -/
def haltedOwed : State := ((halted .halt false).modGov fun g => { g with move := some owing }).modFrame fun f =>
  { f with owner := .player, after := .lend }

/-- The frame after a HALT. -/
def frameHalted (s : State) (p : Frame → Bool) : Bool := becomes .halt s fun t => p t.frame

theorem witness_HaltAbandonsEverything_frame :
    (leadingAt 9000000).ready = true ∧ (leadingAt 9000000).player.state = .changing ∧
    frameHalted (leadingAt 9000000) (fun f =>
      f.move == some (.legs .leadIn (running 9000000) [] (some .halt)) && f.after == .lend) = true ∧
    (leadingAt 4000000).frame.after = .keep ∧
    frameHalted (leadingAt 4000000) (fun f => f.move.isNone && f.lent && f.owner == .player) = true ∧
    (lentMoving (.legs .go (running 9000000) [] none)).ready = true ∧
    frameHalted (lentMoving (.legs .go (running 9000000) [] none)) (fun f => f.owner == .positioner && f.move.isSome) = true ∧
    frameHalted (lentMoving (.homing .x (.search 3))) (fun f => f.owner == .player && f.move.isNone) = true ∧
    sewing.gov.move = none ∧ sewing.frame.move = none ∧ sewing.frame.after = .keep ∧
    frameHalted sewing (fun f => f.owner == .player && f.lent) = true ∧
    haltedOwed.ready = true ∧ haltedOwed.player.recovering = false ∧ haltedOwed.player.errand = .none ∧
    haltedOwed.gov.move.isSome = true ∧ haltedOwed.frame.move = none ∧
    frameHalted haltedOwed (fun f => f.lent && f.after == .keep) = true ∧
    (moving (.legs .go (running 9000000) [] none)).ready = true ∧
    (moving (.legs .go (running 9000000) [] none)).player.state = .idle ∧
    (moving (.legs .go (running 9000000) [] none)).shaft.state ≠ .positioning ∧
    frameHalted (moving (.legs .go (running 9000000) [] none)) (fun f => f.move.isSome && f.owner == .positioner) = true ∧
    (running 4000000).rateSq ≤ 4000000 ∧ (moving (.legs .go (running 4000000) [] none)).frame.lent = false ∧
    frameHalted (moving (.legs .go (running 4000000) [] none)) (fun f => f.move.isNone && f.owner == .none) = true ∧
    becomes .halt (moving (.homing .y (.search 3))) (fun t => t.ev.flags == Event.frameDone.bit && t.frame.owner == .none)
      = true ∧
    (turned .positioning base).ready = true ∧ (turned .positioning base).frame.owner ≠ .positioner ∧
    becomes .halt ((turned .positioning base).modShaft fun h => { h with still := false }) (fun t => t.shaft.state == .braking)
      = true := by decide +kernel

theorem witness_SeqEditReplacesEntries :
    loaded.ready = true ∧ answers (.seqEdit 8 0 1 [2]) loaded [8] = true ∧ loaded.store.find 7 = some design7 ∧
    answers (.seqEdit 7 0 0 []) loaded [3] = true ∧ answers (.seqEdit 7 1 2 [1, 1]) loaded [3] = true ∧
    answers (.seqEdit 7 0 1 [0x10]) loaded [3] = true ∧ answers (.seqEdit 7 1 1 [0x8F]) loaded [0, 1, 1, 0x8F] = true ∧
    armed.ready = true ∧ armed.player.armed = some 7 ∧
    answers (.seqEdit 7 0 1 [2]) (armed.modPlayer fun p => { p with mode := .repair }) [6] = true ∧
    answers (.seqEdit 7 0 1 [2]) (armed.modPlayer fun p => { p with history := updAt 1 (fun _ => some 5) p.history }) [6]
      = true ∧
    answers (.seqEdit 7 1 1 [2]) (armed.modPlayer fun p => { p with history := updAt 0 (fun _ => some 5) p.history }) [0, 1, 1, 2]
      = true := by decide +kernel

theorem witness_NeedleGoIsKeptUntilHeld :
    fit.ready = true ∧ answers (.needleGo 0) fit [3] = true ∧ answers (.needleGo 16) fit [3] = true ∧
    answers (.needleGo 1) (pressed fit) [4] = true ∧ answers (.needleGo 1) (playing .running armed) [4] = true ∧
    (playing .changing armed).ready = true ∧ answers (.needleGo 1) (playing .changing armed) [5] = true ∧
    (turned .fault fit).ready = true ∧ answers (.needleGo 1) (turned .fault fit) [4] = true ∧
    answers (.needleGo 1) (positioning fit) [5] = true ∧ fit.shaft.state = .off ∧
    becomes (.needleGo 15) fit (fun t => t.nc.kept == some ⟨15, .direct, none⟩ && t.shaft.state == .positioning) = true ∧
    (turned .held fit).ready = true ∧ (turned .held fit).player.errand = .none ∧ (1 : Nat) ≠ fit.nc.pos ∧
    becomes (.needleGo 1) (turned .held fit) (fun t => t.nc.state == .moving) = true ∧
    becomes (.needleGo 2) ((turned .held fit).modCase fun c => { c with pos := 2 })
      (fun t => t.nc.state == .idle && t.outs.holderCount == 2) = true ∧
    becomes (.needleGo 4) ((turned .held fit).modCase fun c => { c with state := .fault, pos := 2, code := 4 })
      (fun t => t.nc.state == .idle && t.nc.pos == 4) = true := by decide +kernel

/-- The case driven up from 1 to 3, the lines now reading this code. -/
def driving (code overshoot : Nat) : State := (turned .held fit).modCase fun c =>
  { c with state := .moving, job := some ⟨3, .direct, none⟩, dirUp := some true, lastSeen := some 2, pos := 2, code := 2
           raw := code, overshoot := overshoot, timer := 500 }

theorem witness_CaseCodeIsTakenAndJudged :
    (driving 3 0).resetHeld = false ∧ (driving 3 0).quiet = true ∧
    becomes (.caseCodeLineChange 5) (driving 3 0) (fun t => t.nc.raw == 5 && t.nc.pos == 2) = true ∧
    becomes .caseCodeSettled (driving 2 0) (fun t => t.nc.state == .moving) = true ∧
    becomes .caseCodeSettled (driving 3 0) (fun t => t.nc.state == .settling && t.nc.settle == 40) = true ∧
    becomes .caseCodeSettled (driving 4 0) (fun t => t.nc.dirUp == some false && t.nc.overshoot == 1) = true ∧
    becomes .caseCodeSettled (driving 1 0) (fun t => t.nc.cause == some .away) = true ∧
    becomes .caseCodeSettled (driving 0 0) (fun t => t.nc.pos == 0 && t.nc.state == .moving) = true ∧
    becomes .caseCodeSettled
      ((driving 3 0).modCase fun c => { c with job := some ⟨5, .direct, none⟩ }) (fun t => t.nc.lastSeen == some 3) = true ∧
    (driving 4 1).player.state = .idle ∧ (driving 4 1).player.errand = .none ∧
    becomes .caseCodeSettled (driving 4 1) (fun t => t.nc.cause == some .overshoot && t.nc.pos == 4) = true ∧
    becomes .caseCodeSettled ((driving 4 0).modCase fun c => { c with lastSeen := none })
      (fun t => t.nc.dirUp == some false && t.nc.overshoot == 0 && t.nc.lastSeen == some 4) = true ∧
    becomes .caseCodeSettled ((driving 4 0).modCase fun c => { c with state := .settling })
      (fun t => t.nc.state == .settling && t.nc.lastSeen == some 4) = true ∧
    becomes .caseCodeSettled ((driving 4 0).modCase fun c => { c with state := .fault })
      (fun t => t.nc.state == .fault && t.nc.pos == 4) = true ∧
    (fit.modCase fun c => { c with raw := 4 }).quiet = true ∧ fit.nc.state = .idle ∧
    becomes .caseCodeSettled (fit.modCase fun c => { c with raw := 4 }) (fun t => t.nc.lastSeen == some 4) = true ∧
    becomes .caseCodeSettled ((turned .turning fit).modCase fun c => { c with raw := 4 })
      (fun t => t.nc.cause == some .drift) = true := by decide +kernel

/-- The case settling at this position on its way up to 3. -/
def settling (pos : Nat) : State := (driving 3 0).modCase fun c => { c with state := .settling, settle := 0, pos := pos }

theorem witness_CaseTimersEndAMove :
    (settling 3).resetHeld = false ∧ (settling 3).quiet = true ∧ (settling 3).nc.kept = none ∧
    (settling 3).player.errand = .none ∧ (settling 3).nc.job = some ⟨3, .direct, none⟩ ∧
    becomes .caseSettleExpiry (settling 3) (fun t => t.nc.state == .idle && t.outs.holderCount == 2) = true ∧
    becomes .caseSettleExpiry (settling 2) (fun t => t.nc.state == .moving && t.nc.overshoot == 0) = true ∧
    becomes .caseSettleExpiry (settling 4) (fun t => t.nc.overshoot == 1) = true ∧
    becomes .caseSettleExpiry (settling 0) (fun t => t.nc.overshoot == 1) = true ∧
    ((settling 4).modCase fun c => { c with overshoot := 1 }).quiet = true ∧
    becomes .caseSettleExpiry ((settling 4).modCase fun c => { c with overshoot := 1 })
      (fun t => t.nc.cause == some .overshoot && t.nc.state == .fault) = true ∧
    becomes .caseTimeout (driving 2 0) (fun t => t.nc.cause == some .timeout) = true := by decide +kernel

/-- The change into block 0 after a START, settled at needle 2. -/
def changed (r : Option StopReason) : State :=
  (((turned .held (playing .changing armed)).modCase fun c =>
    { c with state := .settling, job := some ⟨2, .start, some 0⟩, dirUp := some true, pos := 2, code := 2 }).modFrame fun f =>
      { f with owner := .player, x := 40 }).modPlayer fun p => { p with errand := .changeMove .start 0, stopReason := r }

theorem witness_CaseTimersEndAMove_change :
    (changed none).quiet = true ∧ (changed none).nc.kept = none ∧ (changed none).frame.owner = .player ∧
    (changed none).frame.move = none ∧ (changed none).gov.move = none ∧
    becomes .caseSettleExpiry (changed (some .design)) (fun t => t.player.state == .halted .design && t.frame.lent) = true ∧
    becomes .caseSettleExpiry (changed (some .hostStop)) (fun t => t.player.state == .paused .hostStop && t.frame.lent) = true ∧
    becomes .caseSettleExpiry (changed (some .buttonStop)) (fun t => t.player.state == .paused .buttonStop) = true ∧
    becomes .caseSettleExpiry (changed (some .breakStop)) (fun t => t.player.state == .paused .breakStop) = true ∧
    becomes .caseSettleExpiry (changed (some .bobbinStop)) (fun t => t.player.state == .paused .bobbinStop) = true ∧
    becomes .caseSettleExpiry (changed (some .passEmpty)) (fun t => t.player.state == .paused .passEmpty) = true ∧
    becomes .caseSettleExpiry ((changed (some .breakStop)).modPlayer fun p => { p with mode := .repair })
      (fun t => t.player.state == .paused .passEmpty) = true ∧
    becomes .caseSettleExpiry
      { changed none with store := storeOf { design7 with armedPin := true, seq := [⟨2, true⟩, ⟨5, false⟩] } }
      (fun t => t.player.state == .paused .colourPause && t.frame.lent) = true ∧
    (changed none).armedDesign = some { design7 with armedPin := true } ∧ (changed none).anyLimit = false ∧
    (changed none).frame.readyX = true ∧ (changed none).frame.readyY = true ∧
    (Leg.between 40 0 0 0).isEmpty = false ∧
    becomes .caseSettleExpiry (changed none) (fun t =>
      t.player.state == .returning && t.frame.move == some (.legs .leadIn (Leg.between 40 0 0 0) [] none)) = true ∧
    becomes .caseSettleExpiry ((changed none).modFrame fun f => { f with x := 0 }) (fun t =>
      t.player.state == .running) = true ∧
    becomes .caseTimeout ((changed none).modCase fun c => { c with state := .moving }) (fun t =>
      t.player.state == .halted .needleCase && t.nc.cause == some .timeout) = true := by decide +kernel

/-! ### Witnesses: the thread monitor -/

theorem witness_ThreadSettingsAreStored :
    base.ready = true ∧ answers (.needleProfile 16 0 0 0 0 0 0 0) base [3] = true ∧
    answers (.needleProfile 15 2 0 0 0 0 0 0) base [3] = true ∧
    answers (.needleProfile 0 1 255 1024 17 65 0 16) base [0, 1, 255, 0xFF, 3, 16, 64, 1, 15] = true ∧
    answers (.threadPolicy 2 0) base [3] = true ∧ answers (.threadPolicy 1 1) base [0, 1, 1] = true ∧
    BreakPolicy.code .stop = 1 ∧ BobbinPolicy.code .stop = 1 ∧ answers (.captureArm 13) base [3] = true ∧
    answers (.captureArm 12) base [0, 12] = true ∧
    answers .captureRead base ([0, 0] ++ List.replicate 10 0xFF ++ [0, 0]) = true := by decide +kernel

/-- A revolution of a 3.0 mm stitch at needle 2. -/
def revolution : SewnRevolution := ⟨.stitch, 5, 30, 12, .default, 2⟩

/-- Head 1 engaged, its pulse counter and tie-in countdown as given. -/
def counting (count tieIn : Nat) : State :=
  (fit.modHeads fun h => { h with table := updAt 0 (fun d => { d with engaged := true }) h.table }).modThread fun t =>
    { t with feedOpen := true, capture := 1, monitors := updAt 0 (fun m => { m with count := count, tieIn := tieIn }) t.monitors }

/-- Sewing, with a low count and a run of three on head 1 that the next verdict makes a break. -/
def breaking (r : Role) (c : Condition) (p : PassMode) : State :=
  ((((headed r c sewing).modHeads fun h =>
      { h with
        table := updAt 0 (fun d => { d with engaged := true }) h.table
        repairs := match r with
          | .active => [record1]
          | .waiting => []
          | .none => [] }).modPlayer fun q => { q with mode := p }).modThread fun q =>
    { q with monitors := updAt 0 (fun _ => ⟨9, ⟨3, some 3, some 2, some .low⟩, 0⟩) q.monitors })

/-- Sewing a stitch with head 1 engaged, at an angle. -/
def windowed (a : Nat) : State :=
  (((sewing.modShaft fun h => { h with angle := a }).modHeads fun h =>
    { h with table := updAt 0 (fun d => { d with engaged := true }) h.table }).modThread fun q =>
    { q with
      rev := some revolution, feedOpen := true
      monitors := updAt 0 (fun m => { m with count := 9 }) q.monitors })

theorem witness_FeedPulsesAreCountedAndJudged :
    (counting 65535 0).resetHeld = false ∧ (counting 65535 0).quiet = true ∧
    (counting 65535 0).thread.monitors[0]? = some ⟨65535, .clear, 0⟩ ∧ (counting 0 0).heads.table[11]?.isSome = true ∧
    becomes (.feedPulse 1) (counting 65535 0) (fun t => (t.thread.monitors[0]?.map HeadMonitor.count) == some 65535) = true ∧
    becomes (.feedPulse 1) (counting 7 0) (fun t => (t.thread.monitors[0]?.map HeadMonitor.count) == some 8) = true ∧
    becomes (.feedPulse 12) (counting 7 0) (fun t => (t.thread.monitors[11]?.map HeadMonitor.count) == some 0) = true ∧
    SuspicionRun.take ⟨15, some 1, some 2, some .low⟩ .low 9 3 = ⟨15, some 1, some 2, some .low⟩ ∧
    SuspicionRun.take .clear .high 9 3 = ⟨1, some 9, some 3, some .high⟩ ∧
    (((counting 9 1).closeHead revolution 1).thread.monitors[0]?.map HeadMonitor.tieIn) = some 0 ∧
    (((counting 9 0).closeHead revolution 1).thread.monitors[0]?.map fun m => m.run.length) = some 1 ∧
    (((counting 10 0).closeHead revolution 1).thread.monitors[0]?.map fun m => m.run.length) = some 0 ∧
    ((counting 9 0).closeHead revolution 1).thread.slot = some ⟨9, 28, 5, 2, .low⟩ ∧
    ((counting 9 0).closeHead revolution 2).thread = (counting 9 0).thread ∧
    SuspicionRun.take ⟨3, some 3, some 2, some .low⟩ .low 5 2 = ⟨4, some 3, some 2, some .low⟩ ∧
    revolution.profile.b ≤ 4 ∧ (breaking .none .ok .normal).player.state = .running ∧
    (breaking .none .ok .normal).player.armed = some 7 ∧
    ((breaking .none .ok .normal).closeHead revolution 1).heads.repairs = [⟨1, 7, 3, .break, 2, 1⟩] ∧
    (((breaking .none .ok .normal).closeHead revolution 1).heads.table[0]?.map Head.condition) = some .broken ∧
    ((breaking .none .ok .normal).closeHead revolution 1).player.stopReason = none ∧
    (breaking .active .repairing .repair).heads.repairOf 1 = some record1 ∧
    ((breaking .active .repairing .repair).closeHead revolution 1).heads.repairs = [⟨1, 7, 3, .break, 2, 1⟩] ∧
    ((breaking .active .repairing .repair).closeHead revolution 1).player.stopReason = some .passEmpty ∧
    (windowed 299).resetHeld = false ∧ (windowed 299).quiet = true ∧ (windowed 299).shaft.state = .turning ∧
    (windowed 299).gov.move = none ∧ (windowed 299).thread.rev = some revolution ∧ revolution.kind = .stitch ∧
    (windowed 299).gov.active.motion.e = 250 ∧ (windowed 779).gov.active.motion.wOpen = 800 ∧
    becomes (.encoderCount true 73) (windowed 299)
      (fun t => t.thread.feedOpen && (t.thread.monitors[0]?.map HeadMonitor.count) == some 0) = true ∧
    (windowed 779).quiet = true ∧ (windowed 779).thread.feedOpen = true ∧
    becomes (.encoderCount true 73) (windowed 779)
      (fun t => !t.thread.feedOpen && (t.thread.monitors[0]?.map fun m => m.run.length) == some 1) = true ∧
    becomes (.encoderCount true 73) (windowed 500) (fun t => t.thread == (windowed 500).thread) = true := by decide +kernel

/-! ### Witnesses: heads and repair passes -/

theorem witness_HeadSettingsAreStored :
    base.ready = true ∧ base.heads.table.length ≤ 12 ∧ base.straps.heads = 12 ∧ answers (.headsOn 4096) base [3] = true ∧
    answers (.headsOff 4096) base [3] = true ∧ answers (.headsOff 4095) base [0, 0, 0] = true ∧
    answers (.headsOff 1) base [0, 0xFE, 0x0F] = true ∧ answers (.headsOn 0) base [0, 0xFF, 0x0F] = true ∧
    answers (.repairSetup 16 1) base [0, 15, 1] = true ∧ answers (.repairSetup 0 2) base [3] = true := by decide +kernel

theorem witness_RepairCancelRemovesRecords :
    (broken paused).ready = true ∧ (broken paused).heads.table.length = (broken paused).straps.heads ∧
    answers (.repairCancel 4096) (broken paused) [3] = true ∧ answers (.repairCancel 1) inPass [4] = true ∧
    answers (.repairCancel 4094) (broken paused) [8] = true ∧ answers (.repairCancel 1) (broken paused) [0, 1, 0] = true ∧
    answers (.repairCancel 0) (broken paused) [0, 1, 0] = true ∧
    answers (.repairCancel 0) ((broken paused).modPlayer fun p => { p with stopReason := some .repair }) [4] = true := by
  decide +kernel

/-- Paused after record 2 with head 1 broken at record 0. -/
def brokenAt2 : State := (broken paused).modPlayer fun p => { p with cursor := 3, resume := 3 }

theorem witness_RepairBeginsAPass :
    brokenAt2.ready = true ∧ answers (.repair 4096) brokenAt2 [3] = true ∧ answers (.repair 0) inPass [5] = true ∧
    answers (.repair 0) (broken armed) [4] = true ∧ answers (.repair 0) (pressed brokenAt2) [4] = true ∧
    answers (.repair 0) paused [8] = true ∧ answers (.repair 4094) brokenAt2 [8] = true ∧
    answers (.repair 0) (brokenAt2.modFrame fun f => { f with known := false }) [14] = true ∧
    answers (.repair 0) (positioning brokenAt2) [5] = true ∧ (broken (playing .running armed)).ready = true ∧
    (broken (playing .running armed)).player.stopReason = none ∧
    becomes (.repair 1) (broken (playing .running armed)) (fun t => t.player.stopReason == some .repair) = true ∧
    brokenAt2.armedDesign = some { design7 with armedPin := true } ∧ brokenAt2.heads.lastKind = none ∧
    becomes (.repair 0) brokenAt2
      (fun t => t.player.mode == .repair && t.player.cursor == 0 && t.heads.passEnd == some 3) = true ∧
    (brokenAt2.modHeads fun h => { h with lastKind := some .stitch }).heads.trimOn = true ∧
    becomes (.repair 0) (brokenAt2.modHeads fun h => { h with lastKind := some .stitch })
      (fun t => t.player.entryTrim == .asked && t.player.state == .stopping) = true ∧
    (playing .finished brokenAt2).ready = true ∧
    becomes (.repair 0) (playing .finished brokenAt2) (fun t => t.player.saved == .finished) = true := by decide +kernel

theorem witness_RepairEndLeavesThePass :
    paused.ready = true ∧ answers .repairEnd paused [4] = true ∧
    answers .repairEnd (playing .running inPass) [4] = true ∧ inPass.ready = true ∧ inPass.player.state = .paused .hostStop ∧
    inPass.player.mode = .repair ∧ (inPass.modHeads fun h => { h with repairs := [record1] }).heads.repairs = [record1] ∧
    becomes .repairEnd (inPass.modHeads fun h => { h with repairs := [record1] })
      (fun t => t.player.mode == .normal && t.heads.leftPass && (t.heads.table[0]?.map Head.condition) == some .broken) = true ∧
    becomes .repairEnd (((inPass.modHeads fun h => { h with repairs := [record1] }).modPlayer fun p =>
        { p with cursor := 2, queue := [entry 9] }).modThread fun q =>
          { q with monitors := updAt 0 (fun m => { m with run := ⟨3, some 3, some 2, some .low⟩ }) q.monitors })
      (fun t => t.heads.repairs.contains { record1 with point := 2, block := 1 } &&
        t.player.queue.map QueueEntry.index == [2, 3] &&
        (t.thread.monitors[0]?.map HeadMonitor.run) == some ⟨0, none, none, none⟩) = true := by
  decide +kernel

/-! ### Witnesses: inputs, resets and drives -/

/-- A condition input changed. -/
def lined (n : Nat) (f : Input → Input) (s : State) : State := s.modEv fun v => { v with inputs := updAt n f v.inputs }

/-- Every filtered level taken, at the inactive level. -/
def taken : State := fit.modEv fun v => { v with inputs := v.inputs.map fun i => { i with level := some i.raw } }

theorem witness_SetInputAndInputClear :
    fit.ready = true ∧ fit.ev.inputs.length = 32 ∧ answers (.setInput 32 0 0 0) fit [3] = true ∧
    answers (.setInput 31 5 0 0) fit [3] = true ∧ answers (.setInput 31 1 0 2) fit [3] = true ∧
    (moving (.homing .x (.search 0))).ready = true ∧
    answers (.setInput 26 1 0 0) (moving (.homing .x (.search 0))) [5] = true ∧ taken.ready = true ∧
    taken.ev.inputs[25]? = some ⟨.falling, 5, false, true, some true, false, true⟩ ∧
    (taken.ev.inputs[25]?.map Input.isActive) = some false ∧
    answers (.setInput 25 3 32 1) taken [0, 3, 31, 1] = true ∧
    (lined 31 (fun i => { i with level := some false }) taken).ready = true ∧
    (lined 25 (fun i => { i with raw := false }) taken).ready = true ∧
    becomes (.setInput 25 3 0 1) (lined 25 (fun i => { i with raw := false }) taken)
      (fun t => (t.ev.inputs[25]?.map Input.level) == some (some true)) = true ∧
    becomes (.setInput 31 1 5 1) (lined 31 (fun i => { i with level := some false }) taken)
      (fun t => (t.ev.inputs[31]?.map Input.latch) == some true && t.ev.flags == Event.input.bit) = true ∧
    (taken.ev.inputs[12]?.map Input.isActive) = some false ∧
    becomes (.setInput 12 1 0 0) (lined 12 (fun i => { i with level := some true, raw := true }) taken)
      (fun t => (t.heads.table[0]?.map Head.switch) == some false) = true ∧
    becomes (.setInput 12 1 0 0) { taken with heads := base.heads } (fun t => (t.heads.table[0]?.map Head.switch) == some true)
      = true ∧
    taken.thread.bobbinPolicy = .notify ∧ taken.ev.inputs[11]?.isSome = true ∧
    becomes (.setInput 11 1 5 1) (lined 11 (fun i => { i with level := some false }) taken)
      (fun t => (t.heads.table[11]?.map Head.bobbinLow) == some true && t.ev.flags == Event.input.bit ||| Event.bobbinLow.bit)
      = true ∧
    becomes (.setInput 24 2 5 0) { armed with ev := taken.ev } (fun t => t.player.state == .changing) = true ∧
    becomes (.setInput 24 2 5 0) taken (fun t => t.player == taken.player) = true ∧
    becomes (.setInput 25 2 5 0) { playing .running armed with ev := taken.ev }
      (fun t => t.player.stopReason == some .buttonStop) = true ∧
    ({ sewing with ev := taken.ev } : State).ready = true ∧
    becomes (.setInput 29 0 5 0) { sewing with ev := taken.ev } (fun t => t.player.state == .halted .axis && !t.frame.known)
      = true ∧
    becomes (.setInput 29 1 5 0) (lined 29 (fun i => { i with mode := .levelHigh }) taken)
      (fun t => t.frame.known && t.ev.flags == 0) = true ∧
    answers (.inputClear 0x80000000) (lined 31 (fun i => { i with level := some false, latch := true }) taken) [0, 0, 0, 0, 0x80]
      = true ∧
    answers (.inputClear 0x02000000) (lined 25 (fun i => { i with latch := true }) taken) [0, 0, 0, 0, 0] = true := by
  decide +kernel

theorem witness_InputLinesAreFilteredAndTaken :
    taken.resetHeld = false ∧ taken.quiet = true ∧ taken.ev.inputs.length = 32 ∧ base.ev.inputs[24]?.isSome = true ∧
    becomes (.inputLineChange 0 false) taken (fun t => (t.ev.inputs[0]?.map fun i => (i.raw, i.level)) == some (false, some true))
      = true ∧
    becomes (.inputFilterSettled 0) taken (fun t => t.ev.inputs == taken.ev.inputs) = true ∧
    becomes (.inputFilterSettled 25) fit (fun t => (t.ev.inputs[25]?.map fun i => (i.level, i.latch)) == some (some true, false))
      = true ∧
    becomes (.inputFilterSettled 11) (lined 11 (fun i => { i with raw := false }) taken)
      (fun t => (t.heads.table[11]?.map Head.bobbinLow) == some true && t.ev.flags == Event.bobbinLow.bit) = true ∧
    becomes (.inputFilterSettled 12) (lined 12 (fun i => { i with raw := true, latch := true }) taken)
      (fun t => (t.heads.table[0]?.map Head.switch) == some true) = true ∧
    (lined 25 (fun i => { i with raw := false }) { playing .running armed with ev := taken.ev }).quiet = true ∧
    becomes (.inputFilterSettled 25) (lined 25 (fun i => { i with raw := false }) { playing .running armed with ev := taken.ev })
      (fun t => t.player.stopReason == some .buttonStop) = true ∧
    becomes (.inputFilterSettled 24) (lined 24 (fun i => { i with raw := false }) { armed with ev := taken.ev })
      (fun t => t.player.state == .changing && t.shaft.state == .positioning) = true ∧
    becomes (.inputFilterSettled 24) (lined 24 (fun i => { i with raw := false }) { paused with ev := taken.ev })
      (fun t => t.player.state == .changing) = true ∧
    becomes (.inputFilterSettled 24) (lined 24 (fun i => { i with raw := false }) taken) (fun t => t.player == taken.player)
      = true ∧
    becomes (.inputFilterSettled 25) (lined 25 (fun i => { i with raw := false }) { playing .changing armed with ev := taken.ev })
      (fun t => t.player.stopReason == some .buttonStop && t.player.state == .changing) = true ∧
    becomes (.inputFilterSettled 25) (lined 25 (fun i => { i with raw := false }) { paused with ev := taken.ev })
      (fun t => t.player == paused.player) = true ∧
    becomes (.inputFilterSettled 30) (lined 30 (fun i => { i with raw := false })
        { moving (.homing .x (.search 7)) with ev := taken.ev })
      (fun t => t.frame.move == some (.homing .x (.backOff 0))) = true ∧
    becomes (.inputFilterSettled 31) (lined 31 (fun i => { i with level := some false })
        { moving (.homing .y (.clear 7)) with ev := taken.ev })
      (fun t => t.frame.move == some (.homing .y (.clearMore 0))) = true ∧
    becomes (.inputFilterSettled 31) (lined 31 (fun i => { i with level := none, raw := false })
        { moving (.homing .y (.search 7)) with ev := taken.ev })
      (fun t => t.frame.move == some (.homing .y (.backOff 0))) = true ∧
    becomes (.inputFilterSettled 29) (lined 29 (fun i => { i with raw := false }) { sewing with ev := taken.ev })
      (fun t => t.player.state == .halted .axis && !t.frame.known) = true := by decide +kernel

/-- Bobbin input 11 about to be taken as low, under the bobbin policy STOP. -/
def bobbinLow (s : State) : State :=
  lined 11 (fun i => { i with raw := false }) ({ s with ev := taken.ev }.modThread fun q => { q with bobbinPolicy := .stop })

/-- The stop button about to be taken as pressed. -/
def button (s : State) : State := lined 25 (fun i => { i with raw := false }) { s with ev := taken.ev }

/-- STARVED with the frame the player's. -/
def starvedOwner : State := (playing .starved armed).modFrame fun f => { f with owner := .player }

theorem witness_InputLinesAreFilteredAndTaken_stops :
    (bobbinLow sewing).thread.bobbinPolicy = .stop ∧ ((bobbinLow sewing).heads.table[11]?.map Head.enabled) = some true ∧
    (bobbinLow sewing).quiet = true ∧ starvedOwner.frame.move = none ∧ starvedOwner.gov.move = none ∧
    becomes (.inputFilterSettled 11) (bobbinLow sewing) (fun t =>
      t.player.state == .stopping && t.player.stopReason == some .bobbinStop && t.player.soonStop) = true ∧
    becomes (.inputFilterSettled 11) (bobbinLow ((playing .stopping sewing).modPlayer fun p => { p with stopReason := some .hostStop }))
      (fun t => t.player.stopReason == some .hostStop && t.player.soonStop) = true ∧
    becomes (.inputFilterSettled 11) (bobbinLow (playing .changing armed)) (fun t =>
      t.player.state == .changing && t.player.stopReason == some .bobbinStop) = true ∧
    becomes (.inputFilterSettled 11) (bobbinLow starvedOwner) (fun t =>
      t.player.state == .paused .bobbinStop && t.frame.lent) = true ∧
    becomes (.inputFilterSettled 11) (bobbinLow armed) (fun t =>
      t.player == armed.player && t.ev.flags == Event.bobbinLow.bit) = true ∧
    becomes (.inputFilterSettled 25) (button (playing .stopping sewing)) (fun t =>
      t.player.stopReason == some .buttonStop && t.player.soonStop) = true ∧
    becomes (.inputFilterSettled 25) (button starvedOwner) (fun t => t.player.state == .paused .buttonStop) = true ∧
    becomes (.inputLineChange 25 false) (lined 25 (fun i => { i with filter := 0 }) { sewing with ev := taken.ev }) (fun t =>
      t.player.stopReason == some .buttonStop && (t.ev.inputs[25]?.map Input.level) == some (some false)) = true := by
  decide +kernel

theorem witness_SetInputAndInputClear_stops :
    (bobbinLow sewing).ready = true ∧
    becomes (.setInput 11 1 5 0) (lined 11 (fun i => { i with level := some false }) (bobbinLow sewing)) (fun t =>
      t.player.stopReason == some .bobbinStop && t.ev.flags == Event.bobbinLow.bit) = true ∧
    becomes (.setInput 11 1 5 0) (lined 11 (fun i => { i with level := some false }) (bobbinLow starvedOwner)) (fun t =>
      t.player.state == .paused .bobbinStop) = true ∧
    becomes (.setInput 25 2 5 0) { playing .stopping sewing with ev := taken.ev } (fun t =>
      t.player.stopReason == some .buttonStop && t.player.soonStop) = true ∧
    becomes (.setInput 25 2 5 0) { starvedOwner with ev := taken.ev } (fun t => t.player.state == .paused .buttonStop) = true ∧
    becomes (.setInput 24 2 5 0) { paused with ev := taken.ev } (fun t => t.player.state == .changing) = true ∧
    becomes (.inputClear 2048) (lined 11 (fun i => { i with mode := .levelLow, level := some false }) (bobbinLow sewing)) (fun t =>
      t.ev.flags == Event.bobbinLow.bit && t.player.stopReason == some .bobbinStop &&
        (t.heads.table[11]?.map Head.bobbinLow) == some true) = true ∧
    answers (.inputClear 2048) (lined 11 (fun i => { i with mode := .levelLow, level := some false }) (bobbinLow sewing))
      [0, 0, 8, 0, 0] = true ∧
    becomes (.inputClear 2048) (lined 11 (fun i => { i with mode := .levelLow, level := some false }) taken) (fun t =>
      t.ev.flags == Event.bobbinLow.bit && t.player == taken.player) = true ∧
    becomes (.setInput 24 2 5 0) { pressed armed with ev := { taken.ev with estop := some false } } (fun t =>
      t.player.state == .armed) = true := by decide +kernel

theorem witness_EstopLineStopsEverything :
    sewing.resetHeld = false ∧ sewing.quiet = true ∧ sewing.ev.estop ≠ some false ∧ sewing.player.errand = .none ∧
    waiting.player.state ≠ .idle ∧ (pressed base).ev.estop = some false ∧ (halted .halt true).quiet = true ∧
    becomes .estopAssertion sewing (fun t => t.player.state == .halted .estop && t.holdValue 1 == some true) = true ∧
    becomes .estopAssertion base (fun t => t.player == base.player && t.ev.flags == Event.estop.bit) = true ∧
    becomes .estopAssertion (pressed base) (fun t => t.ev.flags == 0) = true := by decide +kernel

theorem witness_ResetsGiveEveryBlockItsValues :
    (15 : Nat) < 16 ∧ (3 : Nat) < 4 ∧
    becomes (.powerOnReset 15 15 3) sewing (fun t => t.straps == ⟨12, 15, 3000000⟩ && t.player == .powerOn false) = true ∧
    becomes .resetAssert sewing (fun t => t.resetHeld && t.ev.cause == .line) = true := by decide +kernel

/-- RESET asserted. -/
def held : State := { base with resetHeld := true }

theorem witness_HeldResetAndStrapsStand :
    held.resetHeld = true ∧ held.ev.inputs[31]? = some ⟨.levelLow, 5, false, true, none, false, true⟩ ∧
    becomes (.inputLineChange 31 false) held (fun t => (t.ev.inputs[31]?.map Input.raw) == some false) = true ∧
    becomes .status held (fun t => t.link.reply.isNone) = true ∧
    becomes .status base (fun t => t.pending == [] && t.straps == base.straps) = true := by decide +kernel

theorem witness_RestartKeepsSettingsAndClearsTheRest :
    sewing.ready = true ∧ sewing.ev.inputs.length = 32 ∧
    becomes .restart sewing (fun t => t.player.state == .idle && t.ev.cause == .request && t.ev.flags == 0) = true ∧
    becomes .restart (sewing.modShaft fun h => { h with keptHold := true, keptTurn := true, stall := some 4 }) (fun t =>
      !t.shaft.keptHold && !t.shaft.keptTurn && t.shaft.stall.isNone && t.shaft.state == .off) = true ∧
    becomes .restart (base.modLink fun l => { l with transmitter := .notice ⟨0xF0, []⟩ }) (fun t =>
      t.link.transmitter == .notice ⟨0xF0, []⟩ && t.link.reply == some ⟨0x82, [0]⟩) = true ∧
    becomes .restart (base.modCase fun c => { c with state := .fault, cause := some .timeout, code := 3 }) (fun t =>
      t.nc.state == .idle && t.nc.cause.isNone && t.nc.pos == 3) = true ∧
    becomes .restart (base.modCase fun c => { c with state := .moving, job := some ⟨3, .direct, none⟩, timer := 9 }) (fun t =>
      t.nc.state == .idle && t.nc.job.isNone && t.nc.timer == 0) = true ∧
    becomes .restart ((turned .fault base).modShaft fun h => { h with still := false }) (fun t =>
      t.shaft.state == .fault && t.shaft.toOff && t.outs.killUntilOff) = true ∧
    (busy [⟨0x02, []⟩, ⟨1, []⟩]).quiet = true ∧ (busy [⟨0x02, []⟩, ⟨1, []⟩]).link.notices = [] ∧
    becomes .frameSent (busy [⟨0x02, []⟩, ⟨1, []⟩]) (fun t =>
      t.link.requests == [⟨1, []⟩] && t.link.transmitter == .reply ⟨0x82, [0]⟩ && t.ev.cause == .request) = true := by
  decide +kernel

theorem witness_DriveLinesFaultOnce :
    sewing.resetHeld = false ∧ sewing.quiet = true ∧ sewing.player.errand = .none ∧ sewing.nc.kept = none ∧
    sewing.frame.readyX = true ∧ sewing.frame.readyY = true ∧
    becomes (.axisDriveNotReady .x) sewing (fun t => t.player.state == .halted .axis) = true ∧
    becomes (.axisDriveNotReady .y) base (fun t => t.player.state == .idle && t.ev.flags == Event.axisFault.bit) = true ∧
    (leading .leadMove none []).frame.owner = .player ∧ (leading .leadMove none []).player.state = .returning ∧
    becomes (.axisDriveNotReady .x) (leading (.returnMove .start) none []) (fun t =>
      t.player.state == .halted .axis && t.player.displaced && t.frame.move.isNone && t.ev.flags &&& Event.frameDone.bit != 0)
      = true ∧
    (leadingAt 9000000).player.errand = .none ∧
    becomes (.inputFilterSettled 29) (lined 29 (fun i => { i with raw := false }) { leading .leadMove none [] with ev := taken.ev })
      (fun t => t.player.state == .halted .axis && !t.frame.known && t.frame.move.isNone) = true ∧
    becomes .shaftDriveNotReady (turned .held ((leadingAt 9000000).modPlayer fun p => { p with errand := .leadMove }))
      (fun t => t.player.state == .halted .shaft && t.player.displaced &&
        t.frame.move == some (.legs .leadIn (running 9000000) [] (some .shaft)) && t.frame.after == .lend) = true ∧
    becomes .shaftDriveNotReady (leading .leadMove none []) (fun t => t.frame.move.isNone && t.frame.lent) = true ∧
    becomes .shaftDriveNotReady sewing (fun t => t.player.state == .halted .shaft && t.shaft.cause == some .drive) = true ∧
    becomes .shaftDriveNotReady (turned .held base) (fun t => t.shaft.state == .off && t.player == base.player) = true ∧
    becomes .shaftDriveNotReady base (fun t => t.ev.flags == 0) = true := by decide +kernel

/-! ### Witnesses: the shaft and the boundary -/

/-- The shaft at an angle. -/
def angled (a : Nat) (s : State) : State := s.modShaft fun h => { h with angle := a }

/-- Positioning in a phase at a measured speed with this many extra turns. -/
def braking (p : PosPhase) (speed extra : Nat) (s : State) : State :=
  (turned .positioning s).modShaft fun h => { h with phase := p, sMeas := speed, extra := extra, still := false }

/-- Sewing the stitch of 120 and 48 steps, with this many emitted. -/
def stitching (a x y : Nat) (late : Bool) : State :=
  ((angled a sewing).modThread fun q => { q with rev := some revolution }).modGov fun g =>
    { g with
      move := some ⟨0, .stitch, 120, 48, false, false, x, y, 448, 28, defaultProfile, 0, 0, late⟩ }

theorem witness_AngleFollowsTheEncoder :
    (angled 1023 base).resetHeld = false ∧ (angled 1023 base).quiet = true ∧ (angled 1023 base).shaft.angle < 1024 ∧
    becomes (.encoderCount true 73) (angled 1023 base) (fun t => t.shaft.angle == 0) = true ∧
    becomes (.encoderCount false 73) base (fun t => t.shaft.angle == 1023) = true ∧
    becomes (.encoderCount true 73) (angled 7 (turned .held base)) (fun t => t.shaft.state == .held) = true ∧
    becomes (.encoderCount true 73) (angled 8 (turned .held base)) (fun t => t.shaft.state == .offPosition) = true ∧
    becomes (.encoderCount false 73) (angled 1016 (turned .held base)) (fun t => t.shaft.state == .offPosition) = true ∧
    (angled 8 (driving 2 0)).quiet = true ∧
    becomes (.encoderCount true 73) (angled 8 (driving 2 0)) (fun t => t.nc.cause == some .shaftMoved) = true ∧
    becomes (.encoderCount true 73) (angled 999 (braking .creep 100 0 base)) (fun t => t.shaft.phase == .braked) = true ∧
    becomes (.encoderCount true 73) (angled 999 (braking .creep 101 2 base)) (fun t => t.shaft.extra == 3) = true ∧
    becomes (.encoderCount true 73) (angled 999 (braking .creep 101 3 armed))
      (fun t => t.shaft.cause == some .position) = true ∧
    becomes (.encoderCount true 73) (angled 1015 (braking .correct 0 0 base)) (fun t => t.shaft.phase == .braked) = true ∧
    (angled 5 sewing).player.errand = .none ∧
    becomes (.encoderCount false 73) (angled 5 sewing) (fun t => t.shaft.cause == some .reverse) = true ∧
    (angled 5 sewing).gov.move = none ∧ (angled 5 sewing).thread.rev = none ∧
    becomes (.encoderCount true 73) (angled 5 sewing) (fun t => t.shaft.angle == 6 && t.shaft.state == .turning) = true ∧
    (stitching 814 0 0 false).quiet = true ∧ (stitching 814 0 0 false).frame.lent = false ∧
    (stitching 814 0 0 false).thread.rev = some revolution ∧ ¬815 < (stitching 814 0 0 false).gov.active.motion.wOpen ∧
    (stitching 249 120 48 false).gov.active.motion.e = 250 ∧ (stitching 249 120 48 false).gov.active.motion.wOpen = 800 ∧
    becomes (.encoderCount true 73) (windowed 400) (fun t => t.shaft.angle == 401 && t.shaft.state == .turning) = true ∧
    becomes (.encoderCount true 73) (stitching 814 0 0 false) (fun t => t.frame.x == 1 && t.frame.y == 0) = true ∧
    becomes (.encoderCount true 73) (stitching 249 120 48 false) (fun t => t.gov.move.isNone && t.player.state == .running) = true ∧
    becomes (.encoderCount true 10) (stitching 249 100 48 false)
      (fun t => t.player.state == .halted .overrun && (t.gov.move.map SewMove.overrun) == some true) = true ∧
    (stitching 249 119 48 true).quiet = true ∧ (stitching 249 119 48 true).frame.move = none ∧
    (stitching 249 119 48 true).frame.after = .keep ∧ -262143 ≤ (stitching 249 119 48 true).frame.x ∧
    (stitching 249 119 48 true).frame.x ≤ 262143 ∧ -262143 ≤ (stitching 249 119 48 true).frame.y ∧
    (stitching 249 119 48 true).frame.y ≤ 262143 ∧ defaultProfile.getD 3 0 ≤ defaultProfile.getD 4 0 ∧
    becomes (.axisStep .x) (stitching 249 119 48 true) (fun t => t.gov.move.isNone && t.frame.x == 1) = true ∧
    becomes (.axisStep .y) (stitching 224 118 47 false) (fun t => (t.gov.move.map SewMove.ey) == some 48) = true ∧
    becomes (.axisStep .y) (stitching 224 118 48 false) (fun t => t == stitching 224 118 48 false) = true := by
  decide +kernel

theorem witness_IndexSetsAngleAndSpeed :
    base.resetHeld = false ∧ base.quiet = true ∧ base.shaft.refValid = false ∧
    becomes (.indexPulse true 50000) (angled 500 base) (fun t => t.shaft.angle == 0 && t.shaft.refValid) = true ∧
    becomes (.indexPulse true 50000) ((angled 1022 sewing).modShaft fun h => { h with indexForward := true })
      (fun t => t.shaft.angle == 0 && t.shaft.sMeas == 1200) = true ∧
    becomes (.indexPulse true 50000) (angled 3 (turned .off base)) (fun t => t.shaft.angle == 0) = true ∧
    becomes (.indexPulse true 50000) ((angled 3 sewing).modShaft fun h => { h with still := false })
      (fun t => t.shaft.angle == 3 && t.shaft.cause == some .index) = true ∧
    becomes (.indexPulse true 2000001) ((angled 0 sewing).modShaft fun h => { h with indexForward := true })
      (fun t => t.shaft.sMeas == 0) = true := by decide +kernel

/-- Braked while positioning for a planned stop, the shaft moving, at an angle, after this many retries. -/
def stopped (a retry : Nat) (asked : Bool) : State :=
  (((braking .braked 0 0 (playing .stopping sewing)).modShaft fun h => { h with angle := a, retry := retry })).modPlayer fun p =>
    { p with positionAsked := asked, stopReason := some .hostStop }

/-- Braked at TDC at the end of a recovery, record 0 interrupted. -/
def recovering : State :=
  (braking .braked 0 0 ((playing (.halted .halt) sewing).modPlayer fun p =>
    { p with recovering := true, cursor := 1, interrupted := some 0, queue := [] })).modShaft fun h => { h with angle := 0 }

/-- The same in a REPAIR pass in which head 1 is ACTIVE, record 2 interrupted. -/
def recoveringPass : State :=
  ((headed .active .repairing recovering).modPlayer fun p => { p with mode := .repair, interrupted := some 2 }).modHeads fun h =>
    { h with repairs := [record1] }

/-- A faulted shaft that turns still, the hold request of a recovery kept, the drive ready or not. -/
def faulted (ready : Bool) : State :=
  (turned .fault (halted .shaft true)).modShaft fun h => { h with still := false, keptHold := true, driveReady := ready }

theorem witness_StillShaftIsHeldOrCorrected :
    (stopped 8 0 true).resetHeld = false ∧ (stopped 8 0 true).quiet = true ∧ (stopped 8 0 true).nc.kept = none ∧
    (stopped 8 0 true).player.errand = .none ∧ base.shaft.stall = none ∧
    becomes .stallTimeout (sewing.modShaft fun h => { h with stall := some 0 }) (fun t => t.shaft.cause == some .stall) = true ∧
    becomes .shaftStill (turned .offPosition base) (fun t => t.shaft.state == .offPosition) = true ∧
    (stopped 8 0 false).player.recovering = false ∧ (stopped 8 0 false).shaft.keptTurn = false ∧
    becomes .shaftStill (stopped 8 0 false) (fun t => t.shaft.state == .held) = true ∧
    becomes .shaftStill (stopped 1016 0 false) (fun t => t.shaft.state == .held) = true ∧
    becomes .shaftStill (stopped 9 1 true) (fun t => t.shaft.retry == 2 && t.shaft.phase == .creep) = true ∧
    becomes .shaftStill (stopped 1015 0 true) (fun t => t.shaft.retry == 1 && t.shaft.phase == .correct) = true ∧
    becomes .shaftStill (stopped 9 2 true) (fun t => t.shaft.cause == some .position) = true ∧
    (stopped 8 0 true).player.queue = [entry 0, { entry 1 with kind := .endRec }] ∧
    (stopped 8 0 true).player.entryTrim = .none ∧ (stopped 8 0 true).player.mode = .normal ∧
    (stopped 8 0 true).frame.owner = .player ∧ (stopped 8 0 true).frame.move = none ∧ (stopped 8 0 true).gov.move = none ∧
    becomes .shaftStill (stopped 8 0 true) (fun t => t.player.state == .paused .hostStop && t.frame.lent) = true ∧
    recovering.quiet = true ∧ recovering.player.recovering = true ∧ recovering.player.errand = .none ∧
    recovering.nc.kept = none ∧ recovering.shaft.keptTurn = false ∧ recovering.player.mode = .normal ∧
    recovering.frame.owner = .player ∧ recovering.frame.move = none ∧ recovering.gov.move = none ∧
    becomes .shaftStill recovering (fun t => t.player.state == .paused .recovered && t.player.cursor == 0 && t.frame.lent) = true ∧
    becomes .shaftStill (turned .braking base) (fun t => t.shaft.state == .off) = true ∧
    (turned .fault base).shaft.keptHold = false ∧ (turned .fault base).shaft.toOff = false ∧
    becomes .shaftStill (turned .fault base) (fun t => t.shaft.faultStill) = true ∧
    becomes .shaftStill ((turned .fault base).modShaft fun h => { h with toOff := true }) (fun t => t.shaft.state == .off) = true ∧
    (faulted true).quiet = true ∧ (faulted true).player.errand = .none ∧ (faulted true).nc.kept = none ∧
    (faulted true).frame.owner ≠ .positioner ∧
    becomes .shaftStill (faulted true) (fun t => t.shaft.state == .positioning && t.shaft.demand == 80 && !t.shaft.keptHold)
      = true ∧
    (faulted false).player.state ≠ .idle ∧
    becomes .shaftStill (faulted false) (fun t => t.shaft.state == .fault && t.shaft.cause == some .drive && t.outs.kill) = true ∧
    recoveringPass.quiet = true ∧ recoveringPass.player.mode = .repair ∧ recoveringPass.heads.repairs = [record1] ∧
    becomes .shaftStill recoveringPass (fun t => t.player.state == .paused .recovered && t.player.mode == .normal &&
      t.player.cursor == 2 && t.heads.leftPass && t.heads.repairs == [{ record1 with point := 2, block := 1 }]) = true := by
  decide +kernel

/-- Braked at the end of a planned stop with this held reason, pass mode and cursor. -/
def ended (r : Option StopReason) (mode : PassMode) (cursor resume : Nat) : State :=
  (stopped 8 0 true).modPlayer fun p => { p with stopReason := r, mode := mode, cursor := cursor, resume := resume }

/-- The stop ends in PAUSED for this reason. -/
def pausesAs (s : State) (why : PauseReason) : Bool :=
  becomes .shaftStill s fun t => t.player.state == .paused why && t.frame.lent && t.player.stopReason.isNone

theorem witness_StillShaftIsHeldOrCorrected_reasons :
    (ended none .normal 0 0).quiet = true ∧ (ended none .normal 0 0).player.positionAsked = true ∧
    (ended none .normal 0 0).player.recovering = false ∧ (ended none .normal 0 0).frame.owner = .player ∧
    becomes .shaftStill (ended (some .design) .normal 0 0) (fun t => t.player.state == .halted .design && t.frame.lent) = true ∧
    pausesAs (ended (some .hostStop) .normal 0 0) .hostStop = true ∧
    pausesAs (ended (some .buttonStop) .normal 0 0) .buttonStop = true ∧
    pausesAs (ended (some .breakStop) .normal 0 0) .breakStop = true ∧
    pausesAs (ended (some .bobbinStop) .normal 0 0) .bobbinStop = true ∧
    pausesAs (ended (some .passEmpty) .repair 0 3) .passEmpty = true ∧
    ([StopReason.hostStop, .buttonStop, .breakStop, .bobbinStop].all fun r => pausesAs (ended (some r) .repair 0 3) .passEmpty)
      = true ∧
    pausesAs (headed .active .repairing (ended (some .buttonStop) .repair 0 3)) .buttonStop = true ∧
    pausesAs (ended (some .passEnd) .normal 0 0) .hostStop = true ∧
    pausesAs (ended (some .passEnd) .repair 0 3) .passEmpty = true ∧
    pausesAs (headed .active .repairing (ended (some .passEnd) .repair 0 3)) .hostStop = true ∧
    becomes .shaftStill ((ended (some .hostStop) .normal 0 0).modPlayer fun p => { p with queue := [{ entry 1 with kind := .stop }] })
      (fun t => t.player.state == .changing && t.player.cursor == 2 && t.player.stopReason == some .hostStop) = true ∧
    becomes .shaftStill ((ended (some .hostStop) .normal 3 3).modPlayer fun p => { p with queue := [{ entry 3 with kind := .endRec }] })
      (fun t => t.player.state == .finished && t.frame.lent && t.player.queue == []) = true ∧
    (ended none .normal 0 0).shaft.driveReady = true ∧
    becomes .shaftStill (ended none .normal 0 0) (fun t =>
      t.player.state == .running && t.shaft.state == .turning && t.shaft.demand == 200) = true ∧
    becomes .shaftStill { ended none .normal 0 0 with store := storeOf { loading7 with armedPin := true } }
      (fun t => t.player.state == .starved && t.shaft.state == .held) = true := by decide +kernel

/-- At H at the end of a REPAIR pass in which head 1 was ACTIVE. -/
def passOver (resume : Nat) (saved : SavedReason) : State :=
  ((headed .active .repairing (ended none .repair resume resume)).modHeads fun h => { h with repairs := [record1] }).modPlayer
    fun p => { p with saved := saved }

/-- The heads named by this mask are the ACTIVE ones. -/
theorem passOver_active (resume : Nat) (saved : SavedReason) (i : Nat) :
    (1 : Nat).testBit i = true ↔ ∃ d : Head, (passOver resume saved).heads.table[i]? = some d ∧ d.role = .active := by
  have h : (passOver resume saved).heads.table = (passOver 0 .finished).heads.table := rfl
  rw [h]
  by_cases hi : i < 12
  · have : ∀ j < 12, ((1 : Nat).testBit j = true) ↔
        (((passOver 0 .finished).heads.table[j]?.map Head.role) = some Role.active) := by decide +kernel
    rw [this i hi, Option.map_eq_some_iff]
  · have hl : (passOver 0 .finished).heads.table.length = 12 := by decide +kernel
    rw [List.getElem?_eq_none (by omega)]
    simp [Nat.testBit_one_eq_true_iff_self_eq_zero, show i ≠ 0 by omega]

theorem witness_StillShaftIsHeldOrCorrected_pass :
    (passOver 3 (.paused .hostStop)).quiet = true ∧ (passOver 3 (.paused .hostStop)).player.entryTrim = .none ∧
    becomes .shaftStill (passOver 3 (.paused .hostStop)) (fun t => t.player.state == .finished && t.player.mode == .normal &&
      t.heads.repairs == [] && t.ev.flags == (Event.repairDone.bit ||| Event.playerState.bit)) = true ∧
    becomes .shaftStill (passOver 2 .finished) (fun t => t.player.state == .finished) = true ∧
    becomes .shaftStill (passOver 2 (.paused .bobbinStop)) (fun t => t.player.state == .paused .bobbinStop &&
      (t.heads.table[0]?.map Head.condition) == some .ok) = true ∧
    (broken (ended (some .repair) .normal 0 0)).quiet = true ∧
    (broken (ended (some .repair) .normal 0 0)).store.firstOfBlock { design7 with armedPin := true } 0 = some 0 ∧
    (broken (ended (some .repair) .normal 0 0)).heads.trimOn = true ∧
    becomes .shaftStill ((broken (ended (some .repair) .normal 2 2)).modHeads fun h => { h with lastKind := some .stitch })
      (fun t => t.player.state == .stopping && t.player.entryTrim == .asked && t.shaft.state == .turning &&
        t.heads.passEnd == some 2 && t.heads.passStart == some 0) = true ∧
    (broken (ended (some .repair) .normal 2 2)).heads.lastKind = none ∧
    becomes .shaftStill (broken (ended (some .repair) .normal 2 2)) (fun t =>
      t.player.mode == .repair && t.player.cursor == 0 && t.player.resume == 2) = true ∧
    becomes .shaftStill (((ended none .normal 2 2).modPlayer fun p => { p with entryTrim := .ending }).modHeads fun h =>
      { h with passStart := some 0 }) (fun t => t.player.mode == .repair && t.player.cursor == 0) = true ∧
    becomes .shaftStill ((headed .waiting .broken (ended (some .hostStop) .normal 2 2)).modPlayer fun p =>
      { p with entryTrim := .ending }) (fun t => t.player.state == .paused .hostStop &&
        (t.heads.table[0]?.map Head.role) == some .none) = true := by decide +kernel

/-- The trim at the entry to a pass, one count before a boundary, at the run-up speed. -/
def entryTrimming (e : EntryTrim) : State :=
  ((((playing .stopping sewing).modPlayer fun p =>
      { p with
        entryTrim := e
        active := match e with
          | .active => some ⟨none, .trim, 0, 0, 0⟩
          | .none => none
          | .asked => none
          | .ending => none }).modHeads fun h =>
    { h with table := h.table.map fun d => { d with engaged := true } }).modThread fun q =>
    { q with rev := some { revolution with kind := .trim } })

/-- One count before a boundary of a REPAIR pass that only head 1 is in, its start point at the record handed over. -/
def passing (r : Role) (enabled : Bool) : State :=
  ((broken sewing).modPlayer fun p => { p with mode := .repair }).modHeads fun h =>
    { h with
      table := updAt 0 (fun d =>
        { d with
          role := r, start := some 0, enabled := enabled
          condition := match r with
            | .active => .repairing
            | .waiting => .broken
            | .none => .broken }) h.table }

theorem witness_BoundaryHandsOverTheQueueHead :
    sewing.resetHeld = false ∧ sewing.quiet = true ∧ sewing.shaft.state = .turning ∧
    (sewing.shaft.angle + 1) % 1024 = sewing.gov.active.motion.wOpen ∧ sewing.player.entryTrim = .none ∧
    sewing.player.errand = .none ∧ sewing.nc.kept = none ∧ sewing.player.mode = .normal ∧
    sewing.player.queue = [entry 0, { entry 1 with kind := .endRec }] ∧ sewing.player.stopIndex = none ∧
    becomes (.encoderCount true 73) sewing (fun t => t.player.cursor == 1 && t.shaft.demand == 40) = true ∧
    becomes (.encoderCount true 73)
      { sewing with outs := { sewing.outs with holderCount := 2 }, nc := { sewing.nc with pos := 2 } }
      (fun t => t.outs.holderArmed && t.outs.holderCount == 1 && (t.thread.monitors[0]?.map HeadMonitor.tieIn) ==
        some (sewing.thread.profileAt 2).f && t.thread.rev.isSome) = true ∧
    becomes (.encoderCount true 73) (((sewing.modPlayer fun p => { p with active := some ⟨some 4, .trim, 0, 0, 0⟩ }).modThread
        fun q => { q with rev := some { revolution with kind := .trim } }).modHeads fun h =>
          { h with table := h.table.map fun d => { d with engaged := true } })
      (fun t => t.outs.holderCount == 1 && t.outs.holderArmed && (t.thread.monitors[0]?.map HeadMonitor.tieIn) ==
        some revolution.profile.f) = true ∧
    becomes (.encoderCount true 73) (sewing.modShaft fun h => { h with runUp := true }) (fun t => t.shaft.demand == 160) = true ∧
    sewing.shaft.driveReady = true ∧ sewing.frame.owner ≠ .positioner ∧
    becomes (.encoderCount true 73) (sewing.modPlayer fun p => { p with queue := [] })
      (fun t => t.player.positionAsked && t.shaft.state == .positioning) = true ∧
    becomes (.encoderCount true 73) (sewing.modPlayer fun p => { p with stopIndex := some 0 })
      (fun t => t.player.positionAsked) = true ∧
    (entryTrimming .asked).quiet = true ∧ (entryTrimming .asked).player.errand = .none ∧ (entryTrimming .asked).player.mode = .normal ∧
    becomes (.encoderCount true 73) (entryTrimming .asked)
      (fun t => t.player.entryTrim == .active && t.shaft.demand == 160 && t.released 1) = true ∧
    (entryTrimming .active).quiet = true ∧ (entryTrimming .active).player.active = some ⟨none, .trim, 0, 0, 0⟩ ∧
    (entryTrimming .active).shaft.driveReady = true ∧ (entryTrimming .active).frame.owner ≠ .positioner ∧
    (entryTrimming .active).thread.rev = some { revolution with kind := .trim } ∧
    ((entryTrimming .active).heads.table[0]?.map Head.engaged) = some true ∧
    becomes (.encoderCount true 73) (entryTrimming .active)
      (fun t => t.player.entryTrim == .ending && t.heads.lastKind == some .trim && t.outs.holderCount == 2 &&
        (t.thread.monitors[0]?.map HeadMonitor.tieIn) == some revolution.profile.f) = true ∧
    (passing .waiting true).quiet = true ∧ (passing .waiting true).player.mode = .repair ∧
    (passing .waiting true).player.queue = sewing.player.queue ∧
    (∀ d ∈ (passing .active true).heads.table, d.role = .active → d.condition = .repairing) ∧
    becomes (.encoderCount true 73) (passing .waiting true)
      (fun t => (t.heads.table[0]?.map fun d => (d.role, d.condition, d.engaged)) == some (.active, .repairing, true)) = true ∧
    becomes (.encoderCount true 73) (passing .waiting false)
      (fun t => (t.heads.table[0]?.map Head.role) == some .none && t.player.stopReason == some .passEmpty) = true ∧
    becomes (.encoderCount true 73) (passing .active true)
      (fun t => (t.heads.table[0]?.map Head.engaged) == some true && t.player.stopReason == none) = true ∧
    -- nothing is handed over in a REPAIR pass with an empty queue, a STOP or END at its head, or the stop index reached
    ([[], [{ entry 0 with kind := .stop }], [{ entry 0 with kind := .endRec }]].all fun q =>
      becomes (.encoderCount true 73) ((passing .active true).modPlayer fun p => { p with queue := q }) fun t =>
        t.player.positionAsked && t.player.state == .stopping && t.shaft.state == .positioning && t.player.mode == .repair)
      = true ∧
    becomes (.encoderCount true 73) ((passing .active true).modPlayer fun p => { p with stopIndex := some 0 })
      (fun t => t.player.positionAsked && t.gov.move.isNone) = true ∧
    becomes (.encoderCount true 73) (passing .active true)
      (fun t => t.shaft.demand == 40 && t.gov.cPrev == 40 && t.gov.move.isSome && t.thread.rev.isSome) = true ∧
    (passing .active false).heads.repairOf 1 = some record1 ∧
    becomes (.encoderCount true 73) (passing .active false)
      (fun t => (t.heads.table[0]?.map Head.condition) == some .broken && t.heads.repairs == [record1]) = true := by
  decide +kernel

theorem witness_BoundaryReleasesOnlyHeadsThatMaySew :
    sewing.resetHeld = false ∧ sewing.shaft.state = .turning ∧ sewing.player.state = .running ∧
    sewing.player.entryTrim = .none ∧ sewing.player.errand = .none ∧
    (sewing.shaft.angle + 1) % 1024 = sewing.gov.active.motion.wOpen ∧ (∀ o ∈ sewing.outs.hold, o.mode = .auto) ∧
    (∀ d ∈ sewing.heads.table, d.role = .active → d.condition = .repairing) ∧
    becomes (.encoderCount true 73) sewing (fun t => t.released 1) = true ∧
    becomes (.encoderCount true 73) (broken sewing) (fun t => !t.released 1 && t.released 2) = true := by decide +kernel


end Sys2Proof.Tests
end

section
/-! PROOF. DSN_OPEN (R6): what its sequence bytes spell, what the directory tells of a number and of an EMPTY slot, the
answer of the store for each outcome of the checks, and from these the obligation O10. -/

namespace Sys2Proof.Machine

/-! ### The needle sequence (R5, R186) -/

/-- R186: the byte names one of the needles, and its bits 4 to 6 are 0. -/
def NamesNeedle (needles : Nat) (b : Byte) : Prop :=
  b.toNat / 16 % 8 = 0 ∧ 1 ≤ b.toNat % 16 ∧ b.toNat % 16 ≤ needles

/-- R186: the needle and the pause flag of a sequence byte. -/
def byteEntry (b : Byte) : SeqEntry := ⟨b.toNat % 16, decide (128 ≤ b.toNat)⟩

theorem seqEntryOf_of_names {needles : Nat} {b : Byte} (h : NamesNeedle needles b) :
    seqEntryOf needles b = some (byteEntry b) := by
  have hmsb : b.msb = decide (128 ≤ b.toNat) := BitVec.msb_eq_decide b
  simp only [seqEntryOf, byteEntry, hmsb]
  exact if_pos h

theorem seqEntryOf_of_not_names {needles : Nat} {b : Byte} (h : ¬NamesNeedle needles b) :
    seqEntryOf needles b = none := if_neg h

theorem seqOf_of_names {needles : Nat} {l : List Byte} (h : ∀ b ∈ l, NamesNeedle needles b) :
    seqOf needles l = some (l.map byteEntry) := by
  induction l with
  | nil => rfl
  | cons b bs ih =>
    obtain ⟨hb, hbs⟩ := List.forall_mem_cons.1 h
    simp [seqOf, seqEntryOf_of_names hb, ih hbs]

/-- One byte that names no needle spoils the whole sequence. -/
theorem seqOf_of_not_names {needles : Nat} {l : List Byte} (h : ¬∀ b ∈ l, NamesNeedle needles b) :
    seqOf needles l = none := by
  induction l with
  | nil => simp at h
  | cons b bs ih =>
    by_cases hb : NamesNeedle needles b
    · have hbs : ¬∀ c ∈ bs, NamesNeedle needles c := fun H => h (List.forall_mem_cons.2 ⟨hb, H⟩)
      simp [seqOf, ih hbs]
    · simp [seqOf, seqEntryOf_of_not_names hb]

theorem seqOf_isNone_eq_false {needles : Nat} {l : List Byte} :
    (seqOf needles l).isNone = false ↔ ∀ b ∈ l, NamesNeedle needles b := by
  by_cases h : ∀ b ∈ l, NamesNeedle needles b
  · simpa [seqOf_of_names h] using h
  · simpa [seqOf_of_not_names h] using h

/-! ### The directory (R1, R6) -/

theorem Store.hasEmpty_iff (st : Store) : st.hasEmpty = true ↔ none ∈ st.dir := by
  simp [Store.hasEmpty]

theorem Store.find_isSome_iff (st : Store) (number : Nat) :
    (st.find number).isSome = true ↔ number ∈ st.designs.map Design.number := by
  simp only [Store.find, Store.designs, List.find?_isSome, beq_iff_eq, List.mem_map]

/-- R6: with no EMPTY slot before it, the EMPTY slot is the one that is filled. -/
theorem insertLowest_append (d : Design) {before : List (Option Design)} (after : List (Option Design))
    (h : none ∉ before) : insertLowest d (before ++ none :: after) = before ++ some d :: after := by
  induction before with
  | nil => rfl
  | cons o rest ih =>
    obtain ⟨ho, hrest⟩ := not_or.1 (mt List.mem_cons.2 h)
    cases o with
    | none => exact absurd rfl ho
    | some e => simp [insertLowest, ih hrest]

/-- What the store holds decides nothing about what could begin. -/
@[simp] theorem State.modStore_quiet (s : State) (f : Store → Store) : (s.modStore f).quiet = s.quiet :=
  State.quiet_congr _ _ rfl rfl rfl rfl rfl

/-! ### The checks and the four answers (R6) -/

/-- R6: check 2 passes for these values. -/
theorem openBad_eq_false_iff (design declared blocks : Nat) (xmin xmax ymin ymax : Int) (seqLen needles : Nat)
    (entries : List Byte) :
    openBad design declared blocks ⟨xmin, xmax, ymin, ymax⟩ seqLen (seqOf needles entries) = false ↔
      design ≠ 0 ∧ 1 ≤ declared ∧ declared ≤ 524288 ∧ 1 ≤ blocks ∧ blocks ≤ 256 ∧ blocks ≤ declared ∧ seqLen = blocks ∧
      (∀ b ∈ entries, NamesNeedle needles b) ∧
      xmin ≠ -32768 ∧ xmax ≠ -32768 ∧ ymin ≠ -32768 ∧ ymax ≠ -32768 ∧ xmin ≤ 0 ∧ 0 ≤ xmax ∧ ymin ≤ 0 ∧ 0 ≤ ymax := by
  simp only [openBad, Box.holds, Bool.or_eq_false_iff, seqOf_isNone_eq_false, decide_eq_false_iff_not,
    Bool.not_eq_false', decide_eq_true_eq]
  constructor
  · rintro ⟨⟨⟨counts, names⟩, edges⟩, zero⟩
    refine ⟨?_, ?_, ?_, ?_, ?_, ?_, ?_, names, ?_⟩ <;> omega
  · rintro ⟨hn, hd, hd', hb, hb', hbd, hs, names, edges⟩
    refine ⟨⟨⟨?_, names⟩, ?_⟩, ?_⟩ <;> omega

section
variable {s : State} {design declared blocks : Nat} {box : Box} {seqLen : Nat} {entries : List Byte}

theorem State.serveDsnOpen_badValue
    (hbad : openBad design declared blocks box seqLen (seqOf s.straps.needles entries) = true) :
    s.serveDsnOpen design declared blocks box seqLen entries = refuse s .badValue := by
  simp [State.serveDsnOpen, hbad]

theorem State.serveDsnOpen_noSpace
    (hbad : openBad design declared blocks box seqLen (seqOf s.straps.needles entries) = false)
    (hfull : none ∉ s.store.dir) :
    s.serveDsnOpen design declared blocks box seqLen entries = refuse s .noSpace := by
  simp [State.serveDsnOpen, hbad, Store.hasEmpty_iff, hfull]

theorem State.serveDsnOpen_inUse
    (hbad : openBad design declared blocks box seqLen (seqOf s.straps.needles entries) = false)
    (hempty : none ∈ s.store.dir) (hused : design ∈ s.store.designs.map Design.number) :
    s.serveDsnOpen design declared blocks box seqLen entries = refuse s .inUse := by
  have hfind := (s.store.find_isSome_iff design).2 hused
  simp [State.serveDsnOpen, hbad, (s.store.hasEmpty_iff).2 hempty, hfind]

theorem State.serveDsnOpen_opens
    (hbad : openBad design declared blocks box seqLen (seqOf s.straps.needles entries) = false)
    (hnames : ∀ b ∈ entries, NamesNeedle s.straps.needles b) (hnew : design ∉ s.store.designs.map Design.number)
    {before after : List (Option Design)} (hdir : s.store.dir = before ++ none :: after) (hbefore : none ∉ before) :
    s.serveDsnOpen design declared blocks box seqLen entries =
      (s.modStore fun st =>
          { st with dir := before ++ some (.opened design declared blocks box (entries.map byteEntry)) :: after },
        replyOf .ok []) := by
  have hempty : s.store.hasEmpty = true := (s.store.hasEmpty_iff).2 (by simp [hdir])
  have hfind : (s.store.find design).isSome = false := by
    rwa [← Bool.not_eq_true, s.store.find_isSome_iff]
  rw [seqOf_of_names hnames] at hbad
  simp [State.serveDsnOpen, seqOf_of_names hnames, hbad, hempty, hfind, State.modStore, hdir,
    insertLowest_append _ after hbefore]

end

/-! ### The request at the link (R175, R177) -/

/-- A request that its block refuses changes nothing but the reply slot. -/
theorem State.request_refused (s : State) (i : Instr) (st : Status) (h : s.ready = true) (hc : i.counted = true)
    (hs : s.takingOn.serve i = refuse s.takingOn st) :
    s.request i = .next (s.replied ((frameOf i).ty + 0x80) (replyOf st [])) := by
  obtain ⟨hfree, hquiet⟩ := s.ready_iff.1 h
  rw [s.request_served _ i _ hfree hc hs (by simpa using hquiet), State.takingOn_replied]

/-- A request of counts that do not fit, in a state where nothing waits to begin. -/
theorem State.request_miscounted (s : State) (i : Instr) (h : s.ready = true) (hc : i.counted = false) :
    s.request i = .next (s.replied ((frameOf i).ty + 0x80) (replyOf .badLength [])) := by
  obtain ⟨hfree, hquiet⟩ := s.ready_iff.1 h
  rw [s.request_badLength i hfree hc, State.settle_of_quiet _ (by simpa using hquiet)]

theorem exec_dsnOpen (design declared blocks : Nat) (xmin xmax ymin ymax : Int) (seqLen : Nat) (entries : List Byte)
    (s : State) :
    exec (.dsnOpen design declared blocks xmin xmax ymin ymax seqLen entries) s =
      s.request (.dsnOpen design declared blocks xmin xmax ymin ymax seqLen entries) := by
  rfl

/-- Settles O10: each clause is one branch of the store's answer, carried over the link. -/
theorem dsnOpenFillsTheLowestSlot : Obligations.DsnOpenFillsTheLowestSlot := by
  intro s design declared blocks xmin xmax ymin ymax seqLen entries hready answer good
  have hrequest : answer = s.request (.dsnOpen design declared blocks xmin xmax ymin ymax seqLen entries) :=
    exec_dsnOpen design declared blocks xmin xmax ymin ymax seqLen entries s
  have hgood : openBad design declared blocks ⟨xmin, xmax, ymin, ymax⟩ seqLen (seqOf s.straps.needles entries) = false ↔
      good := openBad_eq_false_iff design declared blocks xmin xmax ymin ymax seqLen s.straps.needles entries
  have hcounted : seqLen = entries.length →
      (Instr.dsnOpen design declared blocks xmin xmax ymin ymax seqLen entries).counted = true := decide_eq_true
  rw [hrequest]
  refine ⟨fun hlen => ?badLength, fun hlen hbad => ?badValue, fun hlen hg hfull => ?noSpace,
    fun hlen hg hempty hused => ?inUse, fun hlen hg hnew before after hdir hbefore => ?opens⟩
  case badLength => exact s.request_miscounted _ hready (decide_eq_false hlen)
  case badValue =>
    have hopen := Bool.eq_true_of_not_eq_false (mt hgood.1 hbad)
    exact s.request_refused _ .badValue hready (hcounted hlen) (State.serveDsnOpen_badValue hopen)
  case noSpace =>
    exact s.request_refused _ .noSpace hready (hcounted hlen) (State.serveDsnOpen_noSpace (hgood.2 hg) hfull)
  case inUse =>
    exact s.request_refused _ .inUse hready (hcounted hlen) (State.serveDsnOpen_inUse (hgood.2 hg) hempty hused)
  case opens =>
    obtain ⟨hfree, hquiet⟩ := s.ready_iff.1 hready
    have hopen := hgood.2 hg
    obtain ⟨-, -, -, -, -, -, -, hnames, -⟩ := hg
    have hserved := State.serveDsnOpen_opens (s := s.takingOn) hopen hnames hnew hdir hbefore
    have hanswer := s.request_served _ _ _ hfree (hcounted hlen) hserved
      (by simpa using hquiet)
    exact hanswer

end Sys2Proof.Machine
end

section
/-! PROOF. STATUS (R180): the bytes of consecutive fields and what is read back of them, the fields of the STATUS reply in
their order, the bounds that make its codes fit one byte, and from these the obligation O9. -/

namespace Sys2Proof.Machine

/-! ### Numbers in bytes (R178) -/

@[simp] theorem leBytes_length (k n : Nat) : (leBytes k n).length = k := by
  induction k generalizing n with
  | zero => rfl
  | succ k ih => simp [leBytes, ih]

theorem leNat_leBytes (k n : Nat) : leNat (leBytes k n) = n % 256 ^ k := by
  induction k generalizing n with
  | zero => simp [leBytes, leNat, Nat.mod_one]
  | succ k ih => simp [leBytes, leNat, ih, Nat.pow_succ', Nat.mod_mul]

/-- The bytes of consecutive fields, each given by its width and its value. -/
def fieldBytes (fields : List (Nat × Nat)) : List Byte := fields.flatMap fun f => leBytes f.1 f.2

/-- The widths of consecutive fields together. -/
def fieldsWidth (fields : List (Nat × Nat)) : Nat := (fields.map Prod.fst).sum

theorem fieldBytes_append (l m : List (Nat × Nat)) : fieldBytes (l ++ m) = fieldBytes l ++ fieldBytes m :=
  List.flatMap_append

theorem fieldsWidth_append (l m : List (Nat × Nat)) : fieldsWidth (l ++ m) = fieldsWidth l + fieldsWidth m := by
  simp [fieldsWidth]

theorem fieldBytes_length (l : List (Nat × Nat)) : (fieldBytes l).length = fieldsWidth l := by
  simp [fieldBytes, fieldsWidth, List.length_flatMap]

/-- A field is read back at the offset where the fields before it end, cut to its width. -/
theorem fieldAt_fieldBytes (before after : List (Nat × Nat)) (w v : Nat) :
    fieldAt (fieldBytes (before ++ (w, v) :: after)) (fieldsWidth before) w = v % 256 ^ w := by
  have hbytes : fieldBytes (before ++ (w, v) :: after) = fieldBytes before ++ (leBytes w v ++ fieldBytes after) :=
    fieldBytes_append before _
  rw [fieldAt, hbytes, List.drop_left' (fieldBytes_length before), List.take_left' (leBytes_length w v), leNat_leBytes]

/-- The same for the field with number `i`, counted from 0. -/
theorem fieldAt_fieldBytes_of_getElem? {l : List (Nat × Nat)} {i w v : Nat} (h : l[i]? = some (w, v)) :
    fieldAt (fieldBytes l) (fieldsWidth (l.take i)) w = v % 256 ^ w := by
  obtain ⟨hi, hv⟩ := List.getElem?_eq_some_iff.1 h
  have hsplit : l.take i ++ (w, v) :: l.drop (i + 1) = l := by
    rw [← hv, ← List.drop_eq_getElem_cons hi, List.take_append_drop]
  have hfield := fieldAt_fieldBytes (l.take i) (l.drop (i + 1)) w v
  rwa [hsplit] at hfield

/-! ### The fields of the STATUS reply (R186) -/

/-- The fields before the head summary, the status of R179 first. -/
def State.statusHeader (s : State) : List (Nat × Nat) :=
  [(1, 0), (1, s.player.state.code), (1, s.player.state.reason.getD 0xFF), (1, s.player.mode.code),
    (2, s.player.armed.getD 0), (4, s.player.cursor), (4, s.player.resume), (2, s.gov.sCmd), (2, s.gov.cPrev),
    (2, s.shaft.sMeas), (1, s.shaft.state.code), (1, s.nc.pos), (1, s.player.preselect.getD 0xFF), (1, s.frameByte),
    (4, (s.frame.x % 4294967296).toNat), (4, (s.frame.y % 4294967296).toNat), (1, s.heads.repairs.length),
    (2, s.ev.pending.toNat), (1, s.ev.cause.code), (1, s.straps.heads), (1, s.straps.needles)]

/-- R186: the widths of these fields, which do not depend on the state. -/
def statusWidths : List Nat := [1, 1, 1, 1, 2, 4, 4, 2, 2, 2, 1, 1, 1, 1, 4, 4, 1, 2, 1, 1, 1]

theorem State.statusHeader_widths (s : State) : s.statusHeader.map Prod.fst = statusWidths := rfl

theorem State.fieldsWidth_statusHeader_take (s : State) (i : Nat) :
    fieldsWidth (s.statusHeader.take i) = (statusWidths.take i).sum := by
  rw [fieldsWidth, List.map_take, s.statusHeader_widths]

/-- The summary byte of head `h`, counted from 0, as STATUS gives it. -/
def Heads.summaryAt (hs : Heads) (h : Nat) : Nat := (hs.table[h]?.map Head.summary).getD 0

/-- The head summary, a field of one byte for each of twelve heads. -/
def Heads.summaryFields (hs : Heads) : List (Nat × Nat) := (List.range 12).map fun h => (1, hs.summaryAt h)

theorem fieldBytes_summaryFields (hs : Heads) : fieldBytes hs.summaryFields = hs.summaries := by
  simp only [fieldBytes, Heads.summaryFields, List.flatMap_map]
  rfl

/-- The reply is the bytes of its fields. (The definition is opened by `delta`: to generate its equation for `simp` costs
too much.) -/
theorem State.fieldBytes_status (s : State) :
    fieldBytes (s.statusHeader ++ s.heads.summaryFields) = replyOf .ok s.statusDetail := by
  rw [fieldBytes_append, fieldBytes_summaryFields]
  delta State.statusDetail
  simp only [fieldBytes, State.statusHeader, replyOf, Status.code, o1, b1, b2, b4, sBytes4,
    List.flatMap_cons, List.flatMap_nil, List.append_assoc, List.nil_append]

theorem State.fieldsWidth_statusHeader (s : State) : fieldsWidth s.statusHeader = 38 := by
  rw [fieldsWidth, s.statusHeader_widths]
  rfl

theorem Heads.fieldsWidth_summaryFields_take (hs : Heads) {h : Nat} (hh : h ≤ 12) :
    fieldsWidth (hs.summaryFields.take h) = h := by
  simp [fieldsWidth, Heads.summaryFields, ← List.map_take, List.take_range, Function.comp_def, hh]

theorem State.replyOf_status_length (s : State) : (replyOf .ok s.statusDetail).length = 50 := by
  have hsummary : fieldsWidth s.heads.summaryFields = 12 := by
    simp [fieldsWidth, Heads.summaryFields, Function.comp_def]
  rw [← s.fieldBytes_status, fieldBytes_length, fieldsWidth_append, s.fieldsWidth_statusHeader, hsummary]

/-- Each field of the header stands where the fields before it end. -/
theorem State.fieldAt_status_header (s : State) {i w v : Nat} (h : s.statusHeader[i]? = some (w, v)) :
    fieldAt (replyOf .ok s.statusDetail) (statusWidths.take i).sum w = v % 256 ^ w := by
  have hi : i < s.statusHeader.length := (List.getElem?_eq_some_iff.1 h).1
  have hfield := fieldAt_fieldBytes_of_getElem? ((List.getElem?_append_left (l₂ := s.heads.summaryFields) hi).trans h)
  rwa [s.fieldBytes_status, List.take_append_of_le_length hi.le, s.fieldsWidth_statusHeader_take] at hfield

/-- The summary byte of head `h` stands at offset 38 + `h`. -/
theorem State.fieldAt_status_summary (s : State) {h : Nat} (hh : h < 12) :
    fieldAt (replyOf .ok s.statusDetail) (38 + h) 1 = s.heads.summaryAt h % 256 := by
  have hlookup : (s.statusHeader ++ s.heads.summaryFields)[s.statusHeader.length + h]? =
      some (1, s.heads.summaryAt h) := by
    simp [Heads.summaryFields, hh]
  have hfield := fieldAt_fieldBytes_of_getElem? hlookup
  rwa [s.fieldBytes_status, List.take_length_add_append, fieldsWidth_append, s.fieldsWidth_statusHeader,
    s.heads.fieldsWidth_summaryFields_take hh.le] at hfield

/-! ### The codes fit one byte -/

theorem PlayerState.code_lt (p : PlayerState) : p.code < 256 := by
  cases p <;> simp [PlayerState.code]

theorem PlayerState.reason_getD_lt (p : PlayerState) : p.reason.getD 0xFF < 256 := by
  cases p with
  | paused r => cases r <;> decide
  | halted c => cases c <;> decide
  | _ => decide

theorem PassMode.code_lt (m : PassMode) : m.code < 256 := by cases m <;> decide

theorem ShaftState.code_lt (t : ShaftState) : t.code < 256 := by cases t <;> decide

theorem ResetCause.code_lt (c : ResetCause) : c.code < 256 := by cases c <;> decide

/-- The owner takes two bits, below the flags of the frame byte. -/
theorem Owner.code_lt (o : Owner) : o.code < 4 := by cases o <;> decide

/-- The condition takes two bits of the head summary byte. -/
theorem Condition.code_lt (c : Condition) : c.code < 4 := by cases c <;> decide

/-- The role takes two bits of the head summary byte. -/
theorem Role.code_lt (r : Role) : r.code < 4 := by cases r <;> decide

theorem State.frameByte_lt (s : State) : s.frameByte < 256 := by
  have howner := s.frame.owner.code_lt
  unfold State.frameByte
  split_ifs <;> omega

theorem Head.summary_lt (d : Head) : d.summary < 256 := by
  have hcondition := d.condition.code_lt
  have hrole := d.role.code_lt
  have hflag : ∀ (b : Bool) (k : Nat), (if b then k else 0) ≤ k := fun b k => by split <;> simp
  have henabled := hflag d.enabled 1
  have hswitch := hflag d.switch 2
  have hengaged := hflag d.engaged 64
  have hbobbin := hflag d.bobbinLow 128
  unfold Head.summary
  omega

theorem Heads.summaryAt_lt (hs : Heads) (h : Nat) : hs.summaryAt h < 256 := by
  unfold Heads.summaryAt
  cases hs.table[h]? with
  | none => simp
  | some d => exact d.summary_lt

/-! ### The request at the link (R175) -/

/-- A request that its block answers without a change changes nothing but the reply slot. -/
theorem State.request_unchanged (s : State) (i : Instr) (p : List Byte) (h : s.ready = true) (hc : i.counted = true)
    (hs : s.takingOn.serve i = (s.takingOn, p)) : s.request i = .next (s.replied ((frameOf i).ty + 0x80) p) := by
  obtain ⟨hfree, hquiet⟩ := s.ready_iff.1 h
  rw [s.request_served _ i p hfree hc hs (by simpa using hquiet), State.takingOn_replied]

theorem exec_status (s : State) : exec .status s = s.request .status := by rfl

/-- The marking of the taking is no part of what STATUS reports. -/
theorem State.serve_status_takingOn (s : State) :
    s.takingOn.serve .status = (s.takingOn, replyOf .ok s.statusDetail) := rfl

/-- R180: STATUS changes nothing but the reply slot, which takes its report. -/
theorem State.exec_status_ready (s : State) (h : s.ready = true) :
    exec .status s = .next (s.replied 0x81 (replyOf .ok s.statusDetail)) := by
  rw [exec_status]
  exact s.request_unchanged .status _ h rfl s.serve_status_takingOn

/-- Settles O9: the reply is the bytes of its fields, and each field is read back at the offset where those before it
end; a code fits its byte, so that reading it back cuts nothing. -/
theorem statusReportsTheState : Obligations.StatusReportsTheState := by
  intro s hready
  have field {i w v : Nat} := s.fieldAt_status_header (i := i) (w := w) (v := v)
  have whole {i w v : Nat} (h : s.statusHeader[i]? = some (w, v)) (hv : v < 256 ^ w) :
      fieldAt (replyOf .ok s.statusDetail) (statusWidths.take i).sum w = v :=
    (field h).trans (Nat.mod_eq_of_lt hv)
  have coordinate (x : Int) : (x % 4294967296).toNat < 256 ^ 4 := by omega
  refine ⟨replyOf .ok s.statusDetail, s.exec_status_ready hready, s.replyOf_status_length, rfl,
    whole (i := 1) rfl s.player.state.code_lt, whole (i := 2) rfl s.player.state.reason_getD_lt,
    whole (i := 3) rfl s.player.mode.code_lt, field (i := 4) rfl, field (i := 5) rfl, field (i := 6) rfl,
    field (i := 7) rfl, field (i := 8) rfl, field (i := 9) rfl, whole (i := 10) rfl s.shaft.state.code_lt,
    field (i := 11) rfl, field (i := 12) rfl, whole (i := 13) rfl s.frameByte_lt,
    whole (i := 14) rfl (coordinate s.frame.x), whole (i := 15) rfl (coordinate s.frame.y), field (i := 16) rfl,
    whole (i := 17) rfl s.ev.pending.isLt, whole (i := 18) rfl s.ev.cause.code_lt, field (i := 19) rfl,
    field (i := 20) rfl, fun h hh => ?summary⟩
  case summary =>
    rw [s.fieldAt_status_summary hh, Nat.mod_eq_of_lt (s.heads.summaryAt_lt h), Heads.summaryAt]
    cases s.heads.table[h]? <;> rfl

end Sys2Proof.Machine
end

section
/-! PROOF. What a step does to the form of the design store (R1 to R3): what that form looks at, the storing of a block,
the freeing of a chain, and from these the obligation O17. -/

namespace Sys2Proof.Machine

/-! ### What the form of the store looks at -/

/-- A design's number, stored count and chain: all that the form of the store looks at. -/
def Design.shape (d : Design) : Nat × Nat × List ChainPage := (d.number, d.stored, d.chain)

/-- The shapes of the directory, slot by slot. -/
def Store.shapes (st : Store) : List (Option (Nat × Nat × List ChainPage)) := st.dir.map (Option.map Design.shape)

theorem Store.designs_map_shape (st : Store) : st.designs.map Design.shape = st.shapes.filterMap id := by
  simp [Store.designs, Store.shapes, List.map_filterMap, List.filterMap_map]

theorem Store.numbers_eq (st : Store) : st.designs.map Design.number = (st.shapes.filterMap id).map Prod.fst := by
  rw [← st.designs_map_shape, List.map_map]; rfl

theorem Store.chained_eq (st : Store) :
    st.chained = (st.shapes.filterMap id).flatMap fun q => q.2.2.map ChainPage.page := by
  rw [← st.designs_map_shape, List.flatMap_map]; rfl

theorem Design.Chained.of_shape {d e : Design} (h : e.Chained) (hs : d.shape = e.shape) : d.Chained := by
  obtain ⟨-, hstored, hchain⟩ : d.number = e.number ∧ d.stored = e.stored ∧ d.chain = e.chain := by
    simpa [Design.shape] using hs
  exact ⟨by rw [hchain, hstored]; exact h.length, fun k c hc => by rw [hstored]; exact h.held k c (hchain ▸ hc)⟩

/-- A store with the same shapes and free pages, and a RAM in canonical form, is as sound. -/
theorem Store.Sound.of_shapes {st st' : Store} (h : st.Sound) (hshapes : st'.shapes = st.shapes)
    (hfree : st'.free = st.free) (hram : memWf st'.ram = true) : st'.Sound where
  slots := by simpa [Store.shapes, h.slots] using congrArg List.length hshapes
  numbers := by rw [st'.numbers_eq, hshapes, ← st.numbers_eq]; exact h.numbers
  ascending := hfree ▸ h.ascending
  pages := by rw [hfree, st'.chained_eq, hshapes, ← st.chained_eq]; exact h.pages
  chains := by
    intro d hd
    have hmem : d.shape ∈ st.designs.map Design.shape := by
      rw [st.designs_map_shape, ← hshapes, ← st'.designs_map_shape]; exact List.mem_map_of_mem hd
    obtain ⟨e, he, hde⟩ := List.mem_map.1 hmem
    exact (h.chains e he).of_shape hde.symm
  ram := hram

@[simp] theorem Store.unpinned_shapes (st : Store) : st.unpinned.shapes = st.shapes := by
  simp only [Store.unpinned, Store.shapes, List.map_map]
  exact List.map_congr_left fun o _ => by cases o <;> rfl

/-- What leaves the pinless store alone leaves the store sound. -/
theorem State.sound_of_base {s t : State} (hb : t.base = s.base) (h : s.store.Sound) : t.store.Sound := by
  have hst : t.store.unpinned = s.store.unpinned := congrArg (fun b => b.2.2.2) hb
  refine h.of_shapes ?_ (congrArg Store.free hst :) ((congrArg (fun st : Store => memWf st.ram) hst).trans h.ram)
  rw [← Store.unpinned_shapes, hst, Store.unpinned_shapes]

/-- Designs changed outside their shape leave the store sound. -/
theorem Store.Sound.map {st : Store} (h : st.Sound) (f : Design → Design) (hf : ∀ d, (f d).shape = d.shape) :
    ({ st with dir := st.dir.map fun o => o.map f } : Store).Sound := by
  refine h.of_shapes ?_ rfl h.ram
  simp only [Store.shapes, List.map_map]
  refine List.map_congr_left fun o _ => ?_
  cases o <;> simp [hf]

theorem Store.Sound.modDesign {st : Store} (h : st.Sound) (n : Nat) (f : Design → Design)
    (hf : ∀ d, (f d).shape = d.shape) : (st.modDesign n f).Sound :=
  h.map _ fun d => by split <;> simp [hf]

/-! ### One design among the others -/

/-- R1: the design found under a number stands in the directory and has it. -/
theorem Store.find_some {st : Store} {n : Nat} {d : Design} (h : st.find n = some d) : d ∈ st.designs ∧ d.number = n :=
  ⟨List.mem_of_find?_eq_some h, by simpa using List.find?_some h⟩

theorem Store.designs_modDesign (st : Store) (n : Nat) (f : Design → Design) :
    (st.modDesign n f).designs = st.designs.map fun d => if d.number = n then f d else d := by
  simp [Store.designs, Store.modDesign, List.map_filterMap, List.filterMap_map]

/-- R1: with distinct numbers a change by number reaches one design and leaves those around it. -/
theorem map_number_split {l₁ l₂ : List Design} {d : Design} (f : Design → Design)
    (h : ((l₁ ++ d :: l₂).map Design.number).Nodup) :
    ((l₁ ++ d :: l₂).map fun e => if e.number = d.number then f e else e) = l₁ ++ f d :: l₂ := by
  simp only [List.map_append, List.map_cons, List.nodup_append, List.nodup_cons, List.mem_map, List.mem_cons] at h
  obtain ⟨-, ⟨hafter, -⟩, hbefore⟩ := h
  have same : ∀ l : List Design, (∀ e ∈ l, e.number ≠ d.number) →
      (l.map fun e => if e.number = d.number then f e else e) = l := by
    intro l hl
    conv_rhs => rw [← List.map_id l]
    exact List.map_congr_left fun e he => if_neg (hl e he)
  rw [List.map_append, List.map_cons, if_pos rfl, same l₁ fun e he => hbefore _ ⟨e, he, rfl⟩ _ (Or.inl rfl),
    same l₂ fun e he hn => hafter ⟨e, he, hn⟩]

/-! ### Storing records (R9) -/

/-- The pages of a chain. -/
def Design.pages (d : Design) : List Nat := d.chain.map ChainPage.page

theorem holdOneMore_pages (chain : List ChainPage) :
    (holdOneMore chain).map ChainPage.page = chain.map ChainPage.page := by
  have upd : ∀ (n : Nat) (l : List ChainPage),
      (updAt n (fun c => { c with held := c.held + 1 }) l).map ChainPage.page = l.map ChainPage.page := by
    intro n l
    induction l generalizing n with
    | nil => simp [updAt]
    | cons c l ih => cases n <;> simp [updAt, ih]
  exact upd _ _

theorem updAt_length {α : Type} (n : Nat) (f : α → α) (l : List α) : (updAt n f l).length = l.length := by
  induction l generalizing n with
  | nil => simp [updAt]
  | cons a l ih => cases n <;> simp [updAt, ih]

theorem updAt_getElem? {α : Type} (n : Nat) (f : α → α) (l : List α) (k : Nat) :
    (updAt n f l)[k]? = if k = n then l[k]?.map f else l[k]? := by
  induction l generalizing n k with
  | nil => simp [updAt]
  | cons a l ih => cases n <;> cases k <;> simp [updAt, ih]

/-- R9: the pages that `n` records more would take from the free list. -/
def Design.newPages (d : Design) (n : Nat) : Nat := (d.stored + n + 255) / 256 - (d.stored + 255) / 256

/-- What storing keeps of a design with the free list and the RAM: its chain fits, the free list ascends, the RAM is
canonical. -/
structure Storable (acc : Design × List Nat × List Host.Cell) : Prop where
  chained : acc.1.Chained
  ascending : acc.2.1.Pairwise (· < ·)
  ram : memWf acc.2.2 = true

theorem takeSlot_first {d : Design} {p : Nat} {rest : List Nat} (h : d.stored % 256 = 0) :
    takeSlot d (p :: rest) =
      (d.chain ++ [{ page := p, startX := d.runX, startY := d.runY, startBlock := d.stops, held := 1 }], rest) := by
  simp [takeSlot, h]

theorem takeSlot_more {d : Design} {free : List Nat} (h : d.stored % 256 ≠ 0) :
    takeSlot d free = (holdOneMore d.chain, free) := by
  simp [takeSlot, h]

/-- R3, R9: the chain with a first record on a new page fits one record more. -/
theorem Design.Chained.held_append {d : Design} (h : d.Chained) (h0 : d.stored % 256 = 0) {c : ChainPage}
    (hc : c.held = 1) {k : Nat} {e : ChainPage} (he : (d.chain ++ [c])[k]? = some e) :
    e.held = min 256 (d.stored + 1 - 256 * k) := by
  have hlen := h.length
  by_cases hk : k < d.chain.length
  · rw [List.getElem?_append_left hk] at he
    have := h.held k e he
    omega
  · obtain ⟨hlt, -⟩ := List.getElem?_eq_some_iff.1 he
    have hk' : k = d.chain.length := by simp at hlt; omega
    subst hk'
    simp at he; subst he
    omega

/-- R3, R9: the chain with one record more on its last page fits one record more. -/
theorem Design.Chained.held_holdOneMore {d : Design} (h : d.Chained) (h0 : d.stored % 256 ≠ 0) {k : Nat} {e : ChainPage}
    (he : (holdOneMore d.chain)[k]? = some e) : e.held = min 256 (d.stored + 1 - 256 * k) := by
  have hlen := h.length
  have hlt : k < d.chain.length := by
    have := (List.getElem?_eq_some_iff.1 he).1
    simpa [holdOneMore, updAt_length] using this
  rw [holdOneMore, updAt_getElem?] at he
  have hk := List.getElem?_eq_getElem hlt
  have hheld := h.held k _ hk
  rw [hk] at he
  split at he
  · simp at he; subst he; simp; omega
  · simp at he; subst he; omega

/-- R9: one record is stored, on a free page where it needs a new one. -/
theorem storeOne_storable {acc : Design × List Nat × List Host.Cell} (h : Storable acc) (r : RawRecord)
    (hroom : acc.1.stored % 256 = 0 → acc.2.1 ≠ []) :
    Storable (storeOne acc r) ∧ (storeOne acc r).1.stored = acc.1.stored + 1 ∧
      (storeOne acc r).2.1.length + acc.1.newPages 1 = acc.2.1.length ∧
      ((storeOne acc r).2.1 ++ (storeOne acc r).1.pages).Perm (acc.2.1 ++ acc.1.pages) := by
  obtain ⟨d, free, ram⟩ := acc
  obtain ⟨hchained, hasc, hram⟩ := h
  simp only at hchained hasc hram hroom
  have hlen := hchained.length
  by_cases h0 : d.stored % 256 = 0
  · obtain ⟨p, rest, rfl⟩ := List.exists_cons_of_ne_nil (hroom h0)
    simp only [storeOne, takeSlot_first h0]
    refine ⟨⟨⟨?_, fun k c hc => hchained.held_append h0 rfl hc⟩, hasc.of_cons, memWf_writeRecord _ _ _ _ hram⟩, trivial, ?_, ?_⟩
    · simp; omega
    · simp [Design.newPages]; omega
    · simp only [Design.pages, List.map_append, List.map_cons, List.map_nil, ← List.append_assoc]
      exact List.perm_append_singleton _ _
  · simp only [storeOne, takeSlot_more h0]
    refine ⟨⟨⟨?_, fun k c hc => hchained.held_holdOneMore h0 hc⟩, hasc, memWf_writeRecord _ _ _ _ hram⟩, trivial, ?_, ?_⟩
    · simp only [holdOneMore, updAt_length]; omega
    · simp [Design.newPages]; omega
    · simp only [Design.pages, holdOneMore_pages]; exact List.Perm.refl _

/-- R9: a run of records is stored, with a free page for every new one it needs. -/
theorem foldl_storeOne_storable (rs : List RawRecord) (acc : Design × List Nat × List Host.Cell) (h : Storable acc)
    (hroom : acc.1.newPages rs.length ≤ acc.2.1.length) :
    Storable (rs.foldl storeOne acc) ∧ (rs.foldl storeOne acc).1.stored = acc.1.stored + rs.length ∧
      (rs.foldl storeOne acc).2.1.length + acc.1.newPages rs.length = acc.2.1.length ∧
      ((rs.foldl storeOne acc).2.1 ++ (rs.foldl storeOne acc).1.pages).Perm (acc.2.1 ++ acc.1.pages) := by
  induction rs generalizing acc with
  | nil => exact ⟨h, rfl, by simp [Design.newPages], List.Perm.refl _⟩
  | cons r rs ih =>
    have hone : acc.1.stored % 256 = 0 → acc.2.1 ≠ [] := by
      intro h0 hnil
      rw [hnil] at hroom
      simp [Design.newPages] at hroom
      omega
    obtain ⟨hs, hstored, hfree, hperm⟩ := storeOne_storable h r hone
    have hsplit : (storeOne acc r).1.newPages rs.length + acc.1.newPages 1 = acc.1.newPages (r :: rs).length := by
      simp only [Design.newPages, hstored, List.length_cons]; omega
    obtain ⟨hs', hstored', hfree', hperm'⟩ := ih (storeOne acc r) hs (by omega)
    refine ⟨hs', ?_, ?_, hperm'.trans hperm⟩
    · rw [List.foldl_cons, hstored', hstored, List.length_cons]; omega
    · rw [List.foldl_cons]; omega

theorem storeOne_number (acc : Design × List Nat × List Host.Cell) (r : RawRecord) :
    (storeOne acc r).1.number = acc.1.number := rfl

theorem foldl_storeOne_number (rs : List RawRecord) (acc : Design × List Nat × List Host.Cell) :
    (rs.foldl storeOne acc).1.number = acc.1.number := by
  induction rs generalizing acc with
  | nil => rfl
  | cons r rs ih => rw [List.foldl_cons, ih, storeOne_number]

/-- R9: the entry after a block of records. -/
def Store.blockEntry (st : Store) (d : Design) (rs : List RawRecord) : Design :=
  { (rs.foldl storeOne (d, st.free, st.ram)).1 with nextBlock := d.nextBlock + 1 }

@[simp] theorem Store.blockEntry_number (st : Store) (d : Design) (rs : List RawRecord) :
    (st.blockEntry d rs).number = d.number := foldl_storeOne_number rs _

/-- R1: a design among the others, and those others as a block leaves them. -/
theorem Store.designs_storeBlock {st : Store} {l₁ l₂ : List Design} {d : Design} (rs : List RawRecord)
    (hd : st.designs = l₁ ++ d :: l₂) (hn : (st.designs.map Design.number).Nodup) :
    (st.storeBlock d rs).designs = l₁ ++ st.blockEntry d rs :: l₂ := by
  have hmod := st.designs_modDesign d.number fun _ => st.blockEntry d rs
  rw [hd, map_number_split _ (hd ▸ hn)] at hmod
  exact hmod

theorem Store.chained_eq_pages (st : Store) : st.chained = st.designs.flatMap Design.pages := rfl

/-- R9: a page for every new one that a block needs keeps the store sound. -/
theorem Store.Sound.storeBlock {st : Store} (h : st.Sound) {d : Design} (hd : d ∈ st.designs) (rs : List RawRecord)
    (hroom : d.newPages rs.length ≤ st.free.length) : (st.storeBlock d rs).Sound := by
  obtain ⟨l₁, l₂, hsplit⟩ := List.append_of_mem hd
  have hdesigns := Store.designs_storeBlock rs hsplit h.numbers
  obtain ⟨⟨hchained, hasc, hram⟩, -, -, hperm⟩ :=
    foldl_storeOne_storable rs (d, st.free, st.ram) ⟨h.chains d hd, h.ascending, h.ram⟩ hroom
  refine ⟨?slots, ?numbers, hasc, ?pages, ?chains, hram⟩
  case slots => simp [Store.storeBlock, Store.modDesign, h.slots]
  case numbers =>
    have := h.numbers
    rw [hsplit] at this
    rw [hdesigns]
    simpa using this
  case pages =>
    refine List.Perm.trans ?_ h.pages
    have hnew : (st.storeBlock d rs).chained =
        l₁.flatMap Design.pages ++ ((st.blockEntry d rs).pages ++ l₂.flatMap Design.pages) := by
      rw [Store.chained_eq_pages, hdesigns, List.flatMap_append, List.flatMap_cons]
    have hold : st.chained = l₁.flatMap Design.pages ++ (d.pages ++ l₂.flatMap Design.pages) := by
      rw [Store.chained_eq_pages, hsplit, List.flatMap_append, List.flatMap_cons]
    have front : ∀ (f p : List Nat), (f ++ (l₁.flatMap Design.pages ++ (p ++ l₂.flatMap Design.pages))).Perm
        ((f ++ p) ++ (l₁.flatMap Design.pages ++ l₂.flatMap Design.pages)) := by
      intro f p
      rw [List.append_assoc]
      refine List.Perm.append_left f ?_
      rw [← List.append_assoc, ← List.append_assoc]
      exact List.Perm.append_right _ List.perm_append_comm
    rw [hnew, hold]
    exact (front _ _).trans ((hperm.append_right _).trans (front _ _).symm)
  case chains =>
    intro e he
    rw [hdesigns, List.mem_append, List.mem_cons] at he
    have hmem : ∀ e, e ∈ l₁ ∨ e ∈ l₂ → e ∈ st.designs := by
      intro e he; rw [hsplit]; simp; tauto
    rcases he with he | rfl | he
    · exact h.chains e (hmem e (Or.inl he))
    · exact ⟨hchained.length, hchained.held⟩
    · exact h.chains e (hmem e (Or.inr he))

end Sys2Proof.Machine
end

section
/-! PROOF. How a command reaches its meaning: a request is submitted to the link, a decoded frame is a well counted
request, and a property that serving, settling and the link's own changes keep is kept by every command of the link. -/

namespace Sys2Proof.Machine

/-! ### Requests -/

/-- A request of the host, of an assigned TYPE. -/
def isRequest : Instr → Bool
  | .unknownType _ _ => false
  | i => (encodeRequest i).isSome

/-- Every arm of a request hands it to the link. -/
theorem exec_of_isRequest (s : State) (i : Instr) (h : isRequest i = true) : exec i s = s.request i := by
  cases i <;> first | rfl | exact absurd h Bool.false_ne_true

theorem fixedLen_eq_request {len : Nat} {p : List Byte} {i j : Instr} (h : fixedLen len p i = .request j) : i = j := by
  unfold fixedLen at h
  split at h
  · exact Decoded.request.inj h
  · cases h

theorem countedLen_eq_request {head unit count : Nat} {p : List Byte} {i j : Instr}
    (h : countedLen head unit count p i = .request j) : i = j ∧ p.length = head + unit * count := by
  unfold countedLen at h
  split at h
  · cases h
  · split at h
    · exact ⟨Decoded.request.inj h, ‹_›⟩
    · cases h

@[simp] theorem words2_length (n : Nat) (p : List Byte) : (words2 n p).length = n := by
  induction n generalizing p with
  | zero => rfl
  | succ n ih => simp [words2, ih]

@[simp] theorem records3_length (n : Nat) (p : List Byte) : (records3 n p).length = n := by
  induction n generalizing p with
  | zero => rfl
  | succ n ih => simp [records3, ih]

/-- R177: a frame that is read as a request announces the counts of the lists it carries. -/
theorem counted_of_decodeRequest {ty : Nat} {p : List Byte} {i : Instr} (h : decodeRequest ty p = .request i) :
    i.counted = true := by
  unfold decodeRequest at h
  split at h
  case h_9 => obtain ⟨rfl, hlen⟩ := countedLen_eq_request h; simp [Instr.counted, hlen]
  case h_10 => obtain ⟨rfl, -⟩ := countedLen_eq_request h; simp [Instr.counted]
  case h_23 => obtain ⟨rfl, hlen⟩ := countedLen_eq_request h; simp [Instr.counted, hlen]
  case h_52 => cases h
  all_goals obtain rfl := fixedLen_eq_request h; simp [Instr.counted]

/-! ### Properties that every command of the link keeps -/

/-- The places of the link's queues: 2 requests, 8 notices (R170, R175). -/
structure Link.Fits (l : Link) : Prop where
  requests : l.requests.length ≤ 2
  notices : l.notices.length ≤ 8

theorem Link.Fits.choose {l : Link} (h : l.Fits) : l.choose.Fits := by
  obtain ⟨hr, hn⟩ := h
  unfold Link.choose
  split
  · split
    · exact ⟨hr, hn⟩
    · split
      · rename_i n rest hnotices
        exact ⟨hr, by rw [hnotices] at hn; exact Nat.le_of_succ_le hn⟩
      · exact ⟨hr, hn⟩
  · exact ⟨hr, hn⟩
  · exact ⟨hr, hn⟩

theorem Link.Fits.offer {l : Link} (h : l.Fits) (n : Notice) : (Link.offer n l).Fits := by
  obtain ⟨hr, hn⟩ := h
  have hqueued : Link.Fits (if l.notices.length < 8 then { l with notices := l.notices ++ [n] } else l) := by
    split
    · exact ⟨hr, by simp; omega⟩
    · exact ⟨hr, hn⟩
  have hsent : ∀ k : Link, k.Fits → Link.Fits (if k.taking then k else k.choose) := fun k hk => by
    split
    · exact hk
    · exact hk.choose
  exact hsent _ hqueued

/-- A property of states that the link's commands keep: serving a well counted request, settling, latching, and a change of
the link that leaves its queues in their places; and nothing of it rests on the counter of the free choices. -/
structure LinkKept (P : State → Prop) : Prop where
  settle : ∀ s : State, P s → P s.settle
  serve : ∀ (s : State) (i : Instr), i.counted = true → P s → P (s.serve i).1
  latch : ∀ (s : State) (e : Event) (detail : List Byte), P s → P (s.latch e detail)
  link : ∀ (s : State) (f : Link → Link), (s.link.Fits → (f s.link).Fits) → P s → P (s.modLink f)
  choices : ∀ (s : State) (n : Nat), P s → P { s with choices := n }

section
variable {P : State → Prop} (hP : LinkKept P) {s : State}
include hP

theorem LinkKept.placeReply (f : LinkFrame) (h : P s) : P (s.placeReply f) :=
  hP.link s _ (fun hl => Link.Fits.choose ⟨hl.requests, hl.notices⟩) h

theorem LinkKept.answer (ty : Nat) {i : Instr} (hi : i.counted = true) (h : P s) : P (s.answer ty i) :=
  hP.placeReply _ (hP.serve _ i hi (hP.link s _ (fun hl => ⟨hl.requests, hl.notices⟩) h))

theorem LinkKept.takeFrame (f : LinkFrame) (h : P s) : P (s.takeFrame f) := by
  unfold State.takeFrame
  split
  · exact hP.answer _ (counted_of_decodeRequest ‹_›) h
  · exact hP.placeReply _ h
  · exact hP.placeReply _ h

theorem LinkKept.takeHead (h : P s) : P s.takeHead := by
  unfold State.takeHead
  split
  · rename_i f rest hreply hrequests
    refine hP.takeFrame f (hP.link s _ (fun hl => ⟨?_, hl.notices⟩) h)
    have := hl.requests
    rw [hrequests] at this
    exact Nat.le_of_succ_le this
  · exact h
  · exact h

theorem LinkKept.offerFrame (f : LinkFrame) (h : P s) : P (s.offerFrame f) := by
  unfold State.offerFrame
  split
  · exact hP.latch s _ _ h
  · exact hP.takeHead (hP.link s _ (fun hl => ⟨by simp; omega, hl.notices⟩) h)

theorem LinkKept.submit (i : Instr) (h : P s) : P (s.submit i) := by
  unfold State.submit
  split
  · split
    · exact hP.answer _ ‹_› h
    · exact hP.placeReply _ h
  · exact hP.offerFrame _ h

theorem LinkKept.chooseNext (h : P s) : P s.chooseNext := hP.link s _ (fun hl => hl.choose) h

theorem LinkKept.replySent (h : P s) : P s.replySent := by
  have hidle : P (s.modLink fun l => { l with reply := none, transmitter := .idle }) :=
    hP.link s _ (fun hl => ⟨hl.requests, hl.notices⟩) h
  unfold State.replySent
  simp only []
  split
  · exact hP.chooseNext hidle
  · split
    · exact hP.takeHead hidle
    · have hcounted := hP.choices _ ((s.modLink fun l => { l with reply := none, transmitter := .idle }).choices + 1) hidle
      split
      · exact hP.takeHead hcounted
      · exact hP.takeHead (hP.chooseNext hcounted)

theorem LinkKept.frameSentNow (h : P s) : P s.frameSentNow := by
  unfold State.frameSentNow
  split
  · exact h
  · exact hP.replySent h
  · exact hP.chooseNext (hP.link s _ (fun hl => ⟨hl.requests, hl.notices⟩) h)

theorem LinkKept.toPhase (r : Receiver) (h : P s) : P (s.toPhase r) :=
  hP.link s _ (fun hl => ⟨hl.requests, hl.notices⟩) h

theorem LinkKept.discard (e : LinkFault) (h : P s) : P (s.discard e) := hP.latch _ _ _ (hP.toPhase _ h)

theorem LinkKept.goodByte (b : Byte) (h : P s) : P (s.goodByte b) := by
  unfold State.goodByte
  split
  · split
    · exact hP.toPhase _ h
    · exact h
  · exact hP.toPhase _ h
  · simp only []
    split
    · exact hP.discard _ h
    · exact hP.toPhase _ h
  · split <;> exact hP.toPhase _ h
  · split <;> exact hP.toPhase _ h
  · exact hP.toPhase _ h
  · unfold State.frameChecked
    split
    · exact hP.offerFrame _ (hP.toPhase _ h)
    · exact hP.discard _ h

theorem LinkKept.receiveByte (b : Byte) (framed : Bool) (h : P s) : P (s.receiveByte b framed) := by
  unfold State.receiveByte
  split
  · exact hP.goodByte b h
  · split
    · exact h
    · exact hP.discard _ h

theorem LinkKept.receiveBytes (bytes : List Byte) (h : P s) : P (s.receiveBytes bytes) := by
  unfold State.receiveBytes
  induction bytes generalizing s with
  | nil => exact h
  | cons b bytes ih => exact ih (hP.settle _ (hP.receiveByte b true h))

theorem LinkKept.gapNow (h : P s) : P s.gapNow := by
  unfold State.gapNow
  split
  · exact h
  · exact hP.discard _ h

theorem LinkKept.event {f : State → State} (hf : P s → P (f s)) (h : P s) : P (s.event f) := by
  unfold State.event
  split
  · exact h
  · exact hP.settle _ (hf h)

/-- R175: a request keeps what the link's own operations keep. -/
theorem LinkKept.request (i : Instr) (h : P s) : ∃ t : State, s.request i = .next t ∧ P t :=
  ⟨_, rfl, hP.event (fun h => hP.submit i h) h⟩

end

/-! ### Commands -/

/-- The commands of the serial line: the requests and what arrives on the line itself. -/
def ofLink : Instr → Bool
  | .receiveFrame _ => true
  | .byteReceived _ _ => true
  | .linkGapTimeout => true
  | .frameSent => true
  | .unknownType _ _ => true
  | i => isRequest i

/-- A command of the link keeps what the link's own operations keep. -/
theorem LinkKept.exec {P : State → Prop} (hP : LinkKept P) {s t : State} {c : Instr} (hc : ofLink c = true)
    (he : Machine.exec c s = .next t) (h : P s) : P t := by
  by_cases hr : isRequest c = true
  · obtain ⟨u, hu, hPu⟩ := hP.request c h
    rw [exec_of_isRequest s c hr, hu] at he
    cases he
    exact hPu
  · cases c
    case receiveFrame bytes =>
      cases he
      split
      · exact h
      · exact hP.receiveBytes bytes h
    case byteReceived b framed => cases he; exact hP.event (fun h => hP.receiveByte b framed h) h
    case linkGapTimeout => cases he; exact hP.event (fun h => hP.gapNow h) h
    case frameSent => cases he; exact hP.event (fun h => hP.frameSentNow h) h
    case unknownType ty payload => cases he; exact hP.event (fun h => hP.offerFrame _ h) h
    all_goals exact absurd hc hr

end Sys2Proof.Machine
end

section
/-! PROOF. The form of the design store under opening, dropping and the resets, and under every command: the obligation
O17. -/

namespace Sys2Proof.Machine

/-! ### The free list (R2) -/

theorem insertPage_perm (p : Nat) (l : List Nat) : (insertPage p l).Perm (p :: l) := by
  induction l with
  | nil => exact List.Perm.refl _
  | cons q l ih =>
    unfold insertPage
    split
    · exact List.Perm.refl _
    · exact (ih.cons q).trans (List.Perm.swap p q l)

theorem insertPage_sorted {p : Nat} {l : List Nat} (h : l.Pairwise (· ≤ ·)) : (insertPage p l).Pairwise (· ≤ ·) := by
  induction l with
  | nil => simp [insertPage]
  | cons q l ih =>
    obtain ⟨hq, hl⟩ := List.pairwise_cons.1 h
    unfold insertPage
    split
    · rename_i hpq
      refine List.pairwise_cons.2 ⟨fun r hr => ?_, h⟩
      rcases List.mem_cons.1 hr with rfl | hr
      · exact hpq
      · exact hpq.trans (hq r hr)
    · rename_i hpq
      refine List.pairwise_cons.2 ⟨fun r hr => ?_, ih hl⟩
      rcases List.mem_cons.1 ((insertPage_perm p l).mem_iff.1 hr) with rfl | hr
      · omega
      · exact hq r hr

/-- R2: freeing a chain puts its pages, and no others, on the free list. -/
theorem freePages_perm (chain : List ChainPage) (free : List Nat) :
    (freePages chain free).Perm (free ++ chain.map ChainPage.page) := by
  induction chain generalizing free with
  | nil => simp [freePages]
  | cons c chain ih =>
    refine (ih (insertPage c.page free)).trans ?_
    refine ((insertPage_perm c.page free).append_right _).trans ?_
    simpa using List.perm_middle.symm

theorem freePages_sorted {chain : List ChainPage} {free : List Nat} (h : free.Pairwise (· ≤ ·)) :
    (freePages chain free).Pairwise (· ≤ ·) := by
  induction chain generalizing free with
  | nil => exact h
  | cons c chain ih => exact ih (insertPage_sorted h)

theorem pairwise_lt_of_le_of_nodup {l : List Nat} (h : l.Pairwise (· ≤ ·)) (hn : l.Nodup) : l.Pairwise (· < ·) :=
  (h.and hn).imp fun ⟨hle, hne⟩ => Nat.lt_of_le_of_ne hle hne

/-! ### Opening, dropping, and the store after a reset -/

/-- R6: a design with a new number and an empty chain takes an EMPTY slot. -/
theorem Store.Sound.insertLowest {st : Store} (h : st.Sound) {d : Design} (hempty : st.hasEmpty = true)
    (hnew : st.find d.number = none) (hstored : d.stored = 0) (hchain : d.chain = []) :
    ({ st with dir := Machine.insertLowest d st.dir } : Store).Sound := by
  obtain ⟨before, after, hdir, hbefore⟩ := List.eq_append_cons_of_mem (st.hasEmpty_iff.1 hempty)
  have hdesigns : st.designs = before.filterMap id ++ after.filterMap id := by simp [Store.designs, hdir]
  have hdesigns' : ({ st with dir := Machine.insertLowest d st.dir } : Store).designs =
      before.filterMap id ++ d :: after.filterMap id := by
    rw [Store.designs, hdir, insertLowest_append d after hbefore]; simp
  have hfresh : ∀ e ∈ st.designs, e.number ≠ d.number := fun e he => by
    simpa using List.find?_eq_none.1 hnew e he
  refine ⟨?slots, ?numbers, h.ascending, ?pages, ?chains, h.ram⟩
  case slots =>
    have := h.slots
    rw [hdir] at this
    show (Machine.insertLowest d st.dir).length = 8
    rw [hdir, insertLowest_append d after hbefore]
    simpa using this
  case numbers =>
    have hold := h.numbers
    rw [hdesigns] at hold hfresh
    rw [hdesigns', List.map_append, List.map_cons, List.nodup_middle, List.nodup_cons, ← List.map_append]
    refine ⟨fun hmem => ?_, hold⟩
    obtain ⟨e, he, hn⟩ := List.mem_map.1 hmem
    exact hfresh e he hn
  case pages =>
    have hpages : ({ st with dir := Machine.insertLowest d st.dir } : Store).chained = st.chained := by
      rw [Store.chained_eq_pages, Store.chained_eq_pages, hdesigns', hdesigns]
      simp [Design.pages, hchain]
    rw [hpages]
    exact h.pages
  case chains =>
    intro e he
    rw [hdesigns', List.mem_append, List.mem_cons] at he
    rw [hdesigns] at hfresh
    by_cases hed : e = d
    · subst hed
      exact ⟨by simp [hchain, hstored], fun k c hc => by simp [hchain] at hc⟩
    · refine h.chains e ?_
      rw [hdesigns, List.mem_append]
      tauto

theorem dropDesign_designs (st : Store) (n : Nat) (free : List Nat) :
    ({ st with dir := dropDesign n st.dir, free := free } : Store).designs = st.designs.filter fun d => d.number != n := by
  simp only [Store.designs, dropDesign, List.filterMap_map]
  induction st.dir with
  | nil => rfl
  | cons o l ih =>
    cases o with
    | none => simpa using ih
    | some d =>
      by_cases hn : d.number = n
      · simpa [hn] using ih
      · rw [List.filterMap_cons_some (b := d) (by simp [hn]), ih, List.filterMap_cons_some (a := some d) (b := d) rfl,
          List.filter_cons_of_pos (by simpa using hn)]

/-- R13: a design's entry becomes EMPTY and its pages are free. -/
theorem Store.Sound.drop {st : Store} (h : st.Sound) {n : Nat} {d : Design} (hfind : st.find n = some d) :
    ({ st with dir := dropDesign n st.dir, free := freePages d.chain st.free } : Store).Sound := by
  obtain ⟨hmem, hnumber⟩ := Store.find_some hfind
  obtain ⟨l₁, l₂, hsplit⟩ := List.append_of_mem hmem
  have hnodup := h.numbers
  rw [hsplit, List.map_append, List.map_cons, List.nodup_middle, List.nodup_cons, ← List.map_append] at hnodup
  obtain ⟨hother, hrest⟩ := hnodup
  have hne : ∀ e ∈ l₁ ++ l₂, (e.number != n) = true := by
    intro e he
    simp only [bne_iff_ne]
    exact fun hn => hother (List.mem_map.2 ⟨e, he, hn.trans hnumber.symm⟩)
  have hdesigns : ({ st with dir := dropDesign n st.dir, free := freePages d.chain st.free } : Store).designs = l₁ ++ l₂ := by
    rw [dropDesign_designs, hsplit, List.filter_append, List.filter_cons_of_neg (by simp [hnumber]),
      ← List.filter_append, List.filter_eq_self.2 hne]
  have hpages : (freePages d.chain st.free ++ (l₁ ++ l₂).flatMap Design.pages).Perm (List.range 2048) := by
    refine List.Perm.trans ?_ h.pages
    rw [st.chained_eq_pages, hsplit, List.flatMap_append, List.flatMap_append, List.flatMap_cons]
    refine ((freePages_perm d.chain st.free).append_right _).trans ?_
    rw [List.append_assoc]
    refine List.Perm.append_left _ ?_
    rw [← List.append_assoc, ← List.append_assoc]
    exact List.Perm.append_right _ List.perm_append_comm
  refine ⟨by simp [dropDesign, h.slots], by rw [hdesigns]; exact hrest, ?ascending, by
    rw [Store.chained_eq_pages, hdesigns]; exact hpages, fun e he => ?chains, h.ram⟩
  case ascending =>
    refine pairwise_lt_of_le_of_nodup (freePages_sorted (h.ascending.imp Nat.le_of_lt)) ?_
    exact (hpages.nodup_iff.2 List.nodup_range).of_append_left
  case chains =>
    rw [hdesigns] at he
    refine h.chains e ?_
    rw [hsplit]
    simp at he ⊢
    tauto

/-- R21: the store after a power-on or line reset. -/
theorem Store.powerOn_sound {ram : List Host.Cell} (h : memWf ram = true) : (Store.powerOn ram).Sound := by
  unfold Store.powerOn
  generalize hpages : List.range 2048 = pages
  have hsorted : pages.Pairwise (· < ·) := hpages ▸ List.pairwise_lt_range
  refine ⟨rfl, List.nodup_nil, hsorted, ?_, fun d hd => absurd hd List.not_mem_nil, h⟩
  rw [hpages]
  exact List.Perm.of_eq (List.append_nil pages)

/-! ### Every command -/

/-- The requests that change the directory by more than its pins. -/
def changesStore : Instr → Bool
  | .restart => true
  | .dsnOpen _ _ _ _ _ _ _ _ _ => true
  | .dsnBlock _ _ _ _ => true
  | .dsnClose _ _ => true
  | .dsnDrop _ => true
  | .seqEdit _ _ _ _ => true
  | _ => false

/-- Every other request leaves the pinless store, the waiting commands and the straps alone. -/
theorem State.serve_base (s : State) (i : Instr) (h : changesStore i = false) : (s.serve i).1.base = s.base := by
  cases i
  case restart | dsnOpen | dsnBlock | dsnClose | dsnDrop | seqEdit => cases h
  all_goals simp [State.serve]

/-! ### The requests of the store -/

theorem State.serveDsnOpen_sound {s : State} (h : s.store.Sound) (design declared blocks : Nat) (box : Box) (seqLen : Nat)
    (entries : List Byte) : (s.serveDsnOpen design declared blocks box seqLen entries).1.store.Sound := by
  unfold State.serveDsnOpen
  simp only []
  split
  · exact h
  · split
    · exact h
    · split
      · exact h
      · rename_i hempty hfind
        exact h.insertLowest (by simpa using hempty) (Option.not_isSome_iff_eq_none.1 hfind) rfl rfl

theorem State.blockStored_store_base (s : State) (d : Design) (records : List RawRecord) :
    (s.blockStored d records).base = (s.modStore fun st => st.storeBlock d records).base := by
  unfold State.blockStored
  split <;> simp

/-- R9: a block of up to 256 records needs one page more at most. -/
theorem Design.newPages_le_one (d : Design) {n : Nat} (hn : n ≤ 256) : d.newPages n ≤ 1 := by
  unfold Design.newPages; omega

theorem Design.newPages_eq_zero (d : Design) {n : Nat} (h : d.needsPage n = false) : d.newPages n = 0 := by
  simp [Design.needsPage] at h
  unfold Design.newPages; omega

/-- R9: a block that passes the check for a free page finds every page it needs. -/
theorem Design.newPages_le_free (d : Design) {n : Nat} (hn : n ≤ 256) {free : List Nat}
    (h : d.needsPage n = true → free ≠ []) : d.newPages n ≤ free.length := by
  cases hneeds : d.needsPage n with
  | false => simp [d.newPages_eq_zero hneeds]
  | true => exact (d.newPages_le_one hn).trans (List.length_pos_of_ne_nil (h hneeds))

theorem State.serveDsnBlock_sound {s : State} (h : s.store.Sound) (design block count : Nat) (records : List RawRecord)
    (hcount : count = records.length) : (s.serveDsnBlock design block count records).1.store.Sound := by
  unfold State.serveDsnBlock
  split
  · exact h
  · rename_i hrange
    split
    · exact h
    · rename_i d hfind
      split
      · exact h
      · split
        · exact h
        · split
          · exact h
          · split
            · exact h
            · rename_i hfree
              refine State.sound_of_base (State.blockStored_store_base s d records)
                (h.storeBlock (Store.find_some hfind).1 records (d.newPages_le_free (by omega) fun hneeds hnil => ?_))
              simp [hneeds, hnil] at hfree

theorem State.closeFailed_base (s : State) (d : Design) (reason : Nat) :
    (s.closeFailed d reason).base =
      (s.modStore fun st => st.modDesign d.number fun e => { e with state := .failed }).base := by
  unfold State.closeFailed
  split <;> simp

theorem State.closeReady_base (s : State) (d : Design) :
    (s.closeReady d).base = (s.modStore fun st => st.modDesign d.number fun e => { e with state := .ready }).base := by
  unfold State.closeReady
  split <;> simp

theorem State.serveDsnClose_sound {s : State} (h : s.store.Sound) (design check : Nat) :
    (s.serveDsnClose design check).1.store.Sound := by
  unfold State.serveDsnClose
  split
  · exact h
  · split
    · exact h
    · split
      · exact h
      · split
        · exact State.sound_of_base (s.closeFailed_base _ _) (h.modDesign _ _ fun _ => rfl)
        · split
          · exact State.sound_of_base (s.closeFailed_base _ _) (h.modDesign _ _ fun _ => rfl)
          · exact State.sound_of_base (s.closeReady_base _) (h.modDesign _ _ fun _ => rfl)

theorem State.serveDsnDrop_sound {s : State} (h : s.store.Sound) (design : Nat) :
    (s.serveDsnDrop design).1.store.Sound := by
  unfold State.serveDsnDrop
  split
  · exact h
  · rename_i d hfind
    split
    · exact h
    · exact h.drop hfind

theorem State.serveSeqEdit_sound {s : State} (h : s.store.Sound) (design first count : Nat) (entries : List Byte) :
    (s.serveSeqEdit design first count entries).1.store.Sound := by
  unfold State.serveSeqEdit
  split
  · exact h
  · split
    · exact h
    · split
      · exact h
      · split
        · exact h
        · exact h.modDesign _ _ fun _ => rfl

theorem State.restartShaft_base (s : State) : s.restartShaft.base = s.base := by
  unfold State.restartShaft; simp only []; (repeat' split) <;> simp

theorem Store.restart_unpinned (st : Store) : st.restart.unpinned = st.unpinned.restart := by
  simp only [Store.restart, Store.unpinned, List.map_map, Store.mk.injEq, and_true]
  exact List.map_congr_left fun o _ => by cases o <;> rfl

/-- R181: of the store a RESTART changes the states and the pins of its designs only. -/
theorem State.restartNow_base (s : State) : s.restartNow.base = (s.modStore Store.restart).base := by
  unfold State.restartNow
  simp only []
  rw [State.foldl_base _ fun t n => State.latchLevel_base t n]
  simp only [State.modLink_base, State.modEv_base, State.modOuts_base, State.restartShaft_base]
  unfold State.restartBlocks
  simp only [State.modCase_base, State.modHeads_base, State.modThread_base, State.modGov_base, State.modPlayer_base]
  have hframe : s.restartFrame.base = s.base := by simp [State.restartFrame]
  obtain ⟨hpending, hstraps, hheld, hstore⟩ : s.restartFrame.pending = s.pending ∧ s.restartFrame.straps = s.straps ∧
      s.restartFrame.resetHeld = s.resetHeld ∧ s.restartFrame.store.unpinned = s.store.unpinned := by
    simpa [State.base] using hframe
  simp [State.base, hpending, hstraps, hheld, Store.restart_unpinned, hstore]

theorem State.restartNow_sound {s : State} (h : s.store.Sound) : s.restartNow.store.Sound :=
  State.sound_of_base s.restartNow_base (h.map _ fun _ => rfl)

theorem State.serve_sound {s : State} (h : s.store.Sound) (i : Instr) (hi : i.counted = true) :
    (s.serve i).1.store.Sound := by
  by_cases hc : changesStore i = true
  · cases i
    case restart => simpa only [State.serve, okWith] using State.restartNow_sound h
    case dsnOpen => exact State.serveDsnOpen_sound h ..
    case dsnBlock => exact State.serveDsnBlock_sound h _ _ _ _ (of_decide_eq_true hi)
    case dsnClose => exact State.serveDsnClose_sound h ..
    case dsnDrop => exact State.serveDsnDrop_sound h _
    case seqEdit => exact State.serveSeqEdit_sound h ..
    all_goals cases hc
  · exact State.sound_of_base (s.serve_base i (by simpa using hc)) h

theorem storeSound_linkKept : LinkKept fun s => s.store.Sound where
  settle s h := State.sound_of_base s.settle_base h
  serve _ i hi h := State.serve_sound h i hi
  latch s e detail h := State.sound_of_base (s.latch_base e detail) h
  link _ _ _ h := h
  choices _ _ h := h

/-- The events of the machine that are no reset leave the pinless store, the waiting commands and the straps alone. -/
theorem exec_base {s t : State} {c : Instr} (hlink : ofLink c = false) (hpower : ∀ a b d, c ≠ .powerOnReset a b d)
    (hassert : c ≠ .resetAssert) (hrelease : c ≠ .resetRelease) (he : exec c s = .next t) : t.base = s.base := by
  have event_base : ∀ (u : State) (f : State → State), (f u).base = u.base → (u.event f).base = u.base := by
    intro u f hf
    unfold State.event
    split
    · rfl
    · rw [State.settle_base, hf]
  cases c
  case powerOnReset => exact absurd rfl (hpower _ _ _)
  case resetAssert => exact absurd rfl hassert
  case resetRelease => exact absurd rfl hrelease
  case axisDriveNotReady a => cases he; split <;> simp
  case shaftDriveNotReady => cases he; split <;> simp
  case encoderCount => cases he; split <;> simp
  case shaftStill => cases he; split <;> simp
  case inputLineChange line high =>
    cases he; exact (event_base _ _ (by simp)).trans (by simp)
  case estopAssertion => cases he; exact (event_base _ _ (by simp)).trans (by simp)
  case estopRelease => cases he; exact (event_base _ _ (by simp)).trans (by simp)
  case axisDriveReady => cases he; exact (event_base _ _ rfl).trans (by simp)
  case shaftDriveReady => cases he; exact (event_base _ _ rfl).trans (by simp)
  case caseCodeLineChange => cases he; exact (event_base _ _ rfl).trans (by simp)
  case feedPulse h => cases he; exact event_base _ _ (by unfold State.feed; split <;> simp)
  case inputFilterSettled | indexPulse | speedTimeout | stallTimeout | caseCodeSettled | caseSettleExpiry | caseTimeout |
      axisStep | homingSearchLimit => cases he; exact event_base _ _ (by simp)
  all_goals cases hlink

theorem exec_sound {s t : State} {c : Instr} (h : s.store.Sound) (he : exec c s = .next t) : t.store.Sound := by
  by_cases hlink : ofLink c = true
  · exact storeSound_linkKept.exec hlink he h
  · cases c
    case powerOnReset | resetAssert | resetRelease => cases he; exact Store.powerOn_sound h.ram
    all_goals exact State.sound_of_base (exec_base (by simpa using hlink) (by simp) (by simp) (by simp) he) h

/-- Settles O17: the front command keeps the form of the store, and a millisecond does not touch it. -/
theorem stepKeepsStoreSound : Obligations.StepKeepsStoreSound := by
  intro s t h hstep
  cases hp : s.pending with
  | nil =>
    rw [step_empty s hp] at hstep
    cases hstep
    exact h
  | cons c rest =>
    rw [step_front s c rest hp] at hstep
    exact exec_sound (s := { s with pending := rest }) h hstep

end Sys2Proof.Machine
end

section
/-! PROOF. The form of queues, chains and position counts (State.InForm), block by block: what a change of each block owes
it, and that the operations of the frame unit, the shaft unit, the halting causes and the player keep it. -/

namespace Sys2Proof.Machine

/-! ### The form, block by block -/

/-- What `State.InForm` asks of the player. -/
structure Player.InForm (p : Player) : Prop where
  lookahead : p.queue.length ≤ 32
  chains : p.errand ≠ .none → p.state = .changing ∨ p.state = .returning
  stops : p.positionAsked = true ∨ p.entryTrim ≠ .none → p.state = .stopping
  trims : p.positionAsked = true → p.entryTrim = .none ∨ p.entryTrim = .ending

/-- What `State.InForm` asks of the frame unit. -/
structure Frame.InRange (f : Frame) : Prop where
  countX : -262143 ≤ f.x ∧ f.x ≤ 262143
  countY : -262143 ≤ f.y ∧ f.y ≤ 262143
  homeX : -6000 ≤ f.settings.offX ∧ f.settings.offX ≤ 6000
  homeY : -2500 ≤ f.settings.offY ∧ f.settings.offY ≤ 2500

theorem State.inForm_iff (s : State) : s.InForm ↔ s.link.Fits ∧ s.player.InForm ∧ s.frame.InRange :=
  ⟨fun ⟨a, b, c, d, e, f, g, h, i, j⟩ => ⟨⟨a, b⟩, ⟨c, d, e, f⟩, ⟨g, h, i, j⟩⟩,
    fun ⟨⟨a, b⟩, ⟨c, d, e, f⟩, ⟨g, h, i, j⟩⟩ => ⟨a, b, c, d, e, f, g, h, i, j⟩⟩

section
variable {s : State}

theorem State.InForm.link (h : s.InForm) : s.link.Fits := (s.inForm_iff.1 h).1
theorem State.InForm.player (h : s.InForm) : s.player.InForm := (s.inForm_iff.1 h).2.1
theorem State.InForm.frame (h : s.InForm) : s.frame.InRange := (s.inForm_iff.1 h).2.2

theorem State.InForm.congr {t : State} (h : s.InForm) (hl : t.link = s.link) (hp : t.player = s.player)
    (hf : t.frame = s.frame) : t.InForm := by
  rw [State.inForm_iff, hl, hp, hf]; exact s.inForm_iff.1 h

@[simp] theorem State.modStore_inForm {f : Store → Store} : (s.modStore f).InForm ↔ s.InForm :=
  ⟨fun h => h.congr rfl rfl rfl, fun h => h.congr rfl rfl rfl⟩
theorem State.InForm.modStore (h : s.InForm) {f : Store → Store} : (s.modStore f).InForm := State.modStore_inForm.2 h
@[simp] theorem State.modGov_inForm {f : Governor → Governor} : (s.modGov f).InForm ↔ s.InForm :=
  ⟨fun h => h.congr rfl rfl rfl, fun h => h.congr rfl rfl rfl⟩
theorem State.InForm.modGov (h : s.InForm) {f : Governor → Governor} : (s.modGov f).InForm := State.modGov_inForm.2 h
@[simp] theorem State.modShaft_inForm {f : Shaft → Shaft} : (s.modShaft f).InForm ↔ s.InForm :=
  ⟨fun h => h.congr rfl rfl rfl, fun h => h.congr rfl rfl rfl⟩
theorem State.InForm.modShaft (h : s.InForm) {f : Shaft → Shaft} : (s.modShaft f).InForm := State.modShaft_inForm.2 h
@[simp] theorem State.modOuts_inForm {f : Outputs → Outputs} : (s.modOuts f).InForm ↔ s.InForm :=
  ⟨fun h => h.congr rfl rfl rfl, fun h => h.congr rfl rfl rfl⟩
theorem State.InForm.modOuts (h : s.InForm) {f : Outputs → Outputs} : (s.modOuts f).InForm := State.modOuts_inForm.2 h
@[simp] theorem State.modCase_inForm {f : NeedleCase → NeedleCase} : (s.modCase f).InForm ↔ s.InForm :=
  ⟨fun h => h.congr rfl rfl rfl, fun h => h.congr rfl rfl rfl⟩
theorem State.InForm.modCase (h : s.InForm) {f : NeedleCase → NeedleCase} : (s.modCase f).InForm := State.modCase_inForm.2 h
@[simp] theorem State.modThread_inForm {f : Thread → Thread} : (s.modThread f).InForm ↔ s.InForm :=
  ⟨fun h => h.congr rfl rfl rfl, fun h => h.congr rfl rfl rfl⟩
theorem State.InForm.modThread (h : s.InForm) {f : Thread → Thread} : (s.modThread f).InForm := State.modThread_inForm.2 h
@[simp] theorem State.modHeads_inForm {f : Heads → Heads} : (s.modHeads f).InForm ↔ s.InForm :=
  ⟨fun h => h.congr rfl rfl rfl, fun h => h.congr rfl rfl rfl⟩
theorem State.InForm.modHeads (h : s.InForm) {f : Heads → Heads} : (s.modHeads f).InForm := State.modHeads_inForm.2 h
@[simp] theorem State.modEv_inForm {f : Events → Events} : (s.modEv f).InForm ↔ s.InForm :=
  ⟨fun h => h.congr rfl rfl rfl, fun h => h.congr rfl rfl rfl⟩
theorem State.InForm.modEv (h : s.InForm) {f : Events → Events} : (s.modEv f).InForm := State.modEv_inForm.2 h

theorem State.InForm.modPlayer (h : s.InForm) {f : Player → Player} (hf : (f s.player).InForm) :
    (s.modPlayer f).InForm := (State.inForm_iff _).2 ⟨h.link, hf, h.frame⟩

theorem State.InForm.modFrame (h : s.InForm) {f : Frame → Frame} (hf : (f s.frame).InRange) : (s.modFrame f).InForm :=
  (State.inForm_iff _).2 ⟨h.link, h.player, hf⟩

theorem State.InForm.modLink (h : s.InForm) {f : Link → Link} (hf : (f s.link).Fits) : (s.modLink f).InForm :=
  (State.inForm_iff _).2 ⟨hf, h.player, h.frame⟩

@[simp] theorem State.InForm.latch (h : s.InForm) {e : Event} {detail : List Byte} : (s.latch e detail).InForm := by
  unfold State.latch
  simp only []
  split
  · exact h.modEv.modLink (h.link.offer _)
  · exact h.modEv

/-- A player that keeps its queue, its chain, its stop and its state keeps its form. -/
theorem Player.InForm.congr {p q : Player} (h : p.InForm) (hq : q.queue.length ≤ p.queue.length) (hs : q.state = p.state)
    (he : q.errand = p.errand) (ha : q.positionAsked = p.positionAsked) (ht : q.entryTrim = p.entryTrim) : q.InForm :=
  ⟨hq.trans h.lookahead, by rw [hs, he]; exact h.chains, by rw [hs, ha, ht]; exact h.stops, by rw [ha, ht]; exact h.trims⟩

/-- A player without a chain, a positioning or a trim is in form in every state. -/
theorem Player.inForm_of_rest {p : Player} (hq : p.queue.length ≤ 32) (he : p.errand = .none) (ha : p.positionAsked = false)
    (ht : p.entryTrim = .none) : p.InForm :=
  ⟨hq, by simp [he], by simp [ha, ht], by simp [ha]⟩

/-- Outside CHANGING and RETURNING no chain is under way. -/
theorem Player.InForm.errand_eq {p : Player} (h : p.InForm) (h1 : p.state ≠ .changing) (h2 : p.state ≠ .returning) :
    p.errand = .none := by
  by_contra hne
  rcases h.chains hne with hs | hs
  · exact h1 hs
  · exact h2 hs

/-- Outside STOPPING no positioning is waited for. -/
theorem Player.InForm.positionAsked_eq {p : Player} (h : p.InForm) (hs : p.state ≠ .stopping) : p.positionAsked = false := by
  by_contra hne
  exact hs (h.stops (Or.inl (by simpa using hne)))

/-- Outside STOPPING no entry trim is made. -/
theorem Player.InForm.entryTrim_eq {p : Player} (h : p.InForm) (hs : p.state ≠ .stopping) : p.entryTrim = .none := by
  by_contra hne
  exact hs (h.stops (Or.inr hne))

/-- A chain under way is no planned stop. -/
theorem Player.InForm.not_stopping {p : Player} (h : p.InForm) (he : p.errand ≠ .none) : p.state ≠ .stopping := by
  intro hs
  rcases h.chains he with h' | h' <;> simp [hs] at h'

@[simp] theorem Player.halt_inForm (p : Player) (c : HaltCause) : (p.halt c).InForm :=
  Player.inForm_of_rest (by simp [Player.halt]) rfl rfl rfl

theorem Player.InForm.clearStop {p : Player} (h : p.InForm) : p.clearStop.InForm :=
  Player.inForm_of_rest h.lookahead rfl rfl rfl

/-- Either way of an operation keeps the form. -/
theorem State.InForm.ite {a b : State} {c : Prop} {_ : Decidable c} (ha : a.InForm) (hb : b.InForm) :
    (if c then a else b).InForm := by
  split
  · exact ha
  · exact hb

/-! ### The frame unit -/

theorem stepCount_range (p : Int) (negative : Bool) (n : Nat) :
    -262143 ≤ stepCount p negative n ∧ stepCount p negative n ≤ 262143 := by
  unfold stepCount clampInt; omega

theorem Frame.InRange.stepX {f : Frame} (h : f.InRange) (negative : Bool) (n : Nat) : (f.stepX negative n).InRange :=
  ⟨stepCount_range _ _ _, h.countY, h.homeX, h.homeY⟩

theorem Frame.InRange.stepY {f : Frame} (h : f.InRange) (negative : Bool) (n : Nat) : (f.stepY negative n).InRange :=
  ⟨h.countX, stepCount_range _ _ _, h.homeX, h.homeY⟩

theorem Frame.InRange.step {f : Frame} (h : f.InRange) (a : Axis) (negative : Bool) (n : Nat) :
    (f.step a negative n).InRange := by
  cases a
  · exact h.stepX _ _
  · exact h.stepY _ _

theorem Frame.InRange.setHome {f : Frame} (h : f.InRange) (a : Axis) : (f.setHome a).InRange := by
  obtain ⟨hx, hy, hhx, hhy⟩ := h
  cases a
  · exact ⟨by simp only [Frame.setHome]; omega, hy, hhx, hhy⟩
  · exact ⟨hx, by simp only [Frame.setHome]; omega, hhx, hhy⟩

/-- A frame unit that keeps its counts and settings keeps its ranges. -/
theorem Frame.InRange.congr {f g : Frame} (h : f.InRange) (hx : g.x = f.x) (hy : g.y = f.y) (hs : g.settings = f.settings) :
    g.InRange :=
  ⟨by rw [hx]; exact h.countX, by rw [hy]; exact h.countY, by rw [hs]; exact h.homeX, by rw [hs]; exact h.homeY⟩

@[simp] theorem Frame.settleOwner_x (f : Frame) : f.settleOwner.x = f.x := by
  unfold Frame.settleOwner; (repeat' split) <;> rfl
@[simp] theorem Frame.settleOwner_y (f : Frame) : f.settleOwner.y = f.y := by
  unfold Frame.settleOwner; (repeat' split) <;> rfl
@[simp] theorem Frame.settleOwner_settings (f : Frame) : f.settleOwner.settings = f.settings := by
  unfold Frame.settleOwner; (repeat' split) <;> rfl

theorem Frame.InRange.settleOwner {f : Frame} (h : f.InRange) : f.settleOwner.InRange :=
  h.congr f.settleOwner_x f.settleOwner_y f.settleOwner_settings

theorem Frame.InRange.beginLegs {f : Frame} (h : f.InRange) (op : MoveOp) (targets : List (Int × Int)) :
    (f.beginLegs op targets).InRange := by
  unfold Frame.beginLegs
  split <;> exact h.congr rfl rfl rfl

@[simp] theorem State.InForm.lend (h : s.InForm) : s.lend.InForm := by
  unfold State.lend
  (repeat' split) <;> first | exact h | exact h.modFrame (h.frame.congr rfl rfl rfl)

@[simp] theorem State.InForm.release (h : s.InForm) : s.release.InForm := by
  unfold State.release
  (repeat' split) <;> first | exact h | exact h.modFrame (h.frame.congr rfl rfl rfl)

@[simp] theorem State.InForm.abandonSewing (h : s.InForm) : s.abandonSewing.InForm := by
  unfold State.abandonSewing
  split
  · refine h.modGov.modFrame ?_
    split
    · exact h.frame.settleOwner
    · exact h.frame
  · exact h

@[simp] theorem State.InForm.finishMove (h : s.InForm) {abort : Option AbortCause} : (s.finishMove abort).InForm := by
  unfold State.finishMove
  split
  · have hended : Frame.InRange { s.frame with move := none } := h.frame.congr rfl rfl rfl
    exact (h.modFrame hended.settleOwner).latch
  · exact h

@[simp] theorem State.InForm.slowMove (h : s.InForm) {cause : AbortCause} : (s.slowMove cause).InForm := by
  unfold State.slowMove
  split
  · split
    · exact h.finishMove
    · exact h.modFrame (h.frame.congr rfl rfl rfl)
  · exact h
  · exact h.finishMove
  · exact h

@[simp] theorem State.InForm.slowPositioner (h : s.InForm) {cause : AbortCause} : (s.slowPositioner cause).InForm := by
  unfold State.slowPositioner; split <;> simp [h]

@[simp] theorem State.InForm.stopFrame (h : s.InForm) {cause : AbortCause} : (s.stopFrame cause).InForm :=
  (h.modFrame (h.frame.congr rfl rfl rfl)).finishMove.abandonSewing

/-! ### The shaft unit and the entry to HALTED -/

@[simp] theorem State.InForm.endRevolution (h : s.InForm) {completed : Bool} : (s.endRevolution completed).InForm := by
  unfold State.endRevolution
  split
  · exact h
  · have hended := h.modPlayer (f := fun p => { p with active := none }) (h.player.congr le_rfl rfl rfl rfl rfl)
    simp only []
    (repeat' split) <;> simp [hended]

@[simp] theorem State.InForm.disengage (h : s.InForm) : s.disengage.InForm := h.modHeads

@[simp] theorem State.InForm.enterOff (h : s.InForm) : s.enterOff.InForm := by simp [State.enterOff, h]

@[simp] theorem State.InForm.enterBraking (h : s.InForm) : s.enterBraking.InForm := by
  unfold State.enterBraking; simp only []; split <;> simp [h]

@[simp] theorem State.InForm.brakeRequest (h : s.InForm) : s.brakeRequest.InForm := by
  unfold State.brakeRequest; simp only []; split <;> simp [h]

@[simp] theorem State.InForm.reportPlayer (h : s.InForm) : s.reportPlayer.InForm := h.latch

@[simp] theorem State.InForm.enterHalted (h : s.InForm) {c : HaltCause} : (s.enterHalted c).InForm := by
  have hnoted : ((s.endRevolution false).disengage.modPlayer fun _ => s.player.halt c).InForm :=
    h.endRevolution.disengage.modPlayer (Player.halt_inForm _ _)
  unfold State.enterHalted
  cases c.abort with
  | none => exact ((((hnoted.modHeads.ite hnoted).ite (hnoted.modHeads.ite hnoted).abandonSewing).brakeRequest.modCase.modOuts.ite
      ((hnoted.modHeads.ite hnoted).ite (hnoted.modHeads.ite hnoted).abandonSewing).brakeRequest.modCase)).lend.reportPlayer
  | some a => exact ((((hnoted.modHeads.ite hnoted).ite (hnoted.modHeads.ite hnoted).abandonSewing).brakeRequest.modCase.slowMove.modOuts.ite
      ((hnoted.modHeads.ite hnoted).ite (hnoted.modHeads.ite hnoted).abandonSewing).brakeRequest.modCase.slowMove)).lend.reportPlayer

/-- A halting cause taken while HALTED leaves the player at rest. -/
theorem State.InForm.haltAgain (h : s.InForm) {kept c : HaltCause} (hs : s.player.state = .halted kept) :
    (s.haltAgain kept c).InForm := by
  have hrest : s.player.errand = .none ∧ s.player.positionAsked = false ∧ s.player.entryTrim = .none :=
    ⟨h.player.errand_eq (by simp [hs]) (by simp [hs]), h.player.positionAsked_eq (by simp [hs]),
      h.player.entryTrim_eq (by simp [hs])⟩
  have hplayer : s.abandonSewing.player = s.player := by unfold State.abandonSewing; split <;> rfl
  have hended : ∀ c' : HaltCause,
      (s.abandonSewing.modPlayer fun p => { p with recovering := false, state := .halted c' }).InForm := fun c' => by
    refine h.abandonSewing.modPlayer ?_
    rw [hplayer]
    exact Player.inForm_of_rest h.player.lookahead hrest.1 hrest.2.1 hrest.2.2
  exact ((hended _).brakeRequest.modOuts.ite (hended _).brakeRequest).ite h.abandonSewing

@[simp] theorem State.InForm.reportFault (h : s.InForm) {c : HaltCause} : (s.reportFault c).InForm := by
  unfold State.reportFault
  split
  case h_2 => exact h.haltAgain ‹_›
  all_goals simp [h]

@[simp] theorem State.InForm.shaftFault (h : s.InForm) {c : ShaftCause} : (s.shaftFault c).InForm := by
  exact h.latch.modShaft.modCase.reportFault.enterOff.ite h.latch.modShaft.modCase.reportFault

@[simp] theorem State.InForm.axisFault (h : s.InForm) {c : AxisCause} : (s.axisFault c).InForm := by
  have hlost : (s.modFrame fun f => { f with known := false }).InForm := h.modFrame (h.frame.congr rfl rfl rfl)
  unfold State.axisFault
  simp only []
  split
  · exact hlost.latch.finishMove.abandonSewing.reportFault
  · exact hlost.latch.finishMove.abandonSewing

@[simp] theorem State.InForm.caseFault (h : s.InForm) {c : CaseCause} : (s.caseFault c).InForm := by
  exact h.latch.modCase.reportFault

@[simp] theorem State.InForm.enterPositioning (h : s.InForm) : s.enterPositioning.InForm := by
  exact (h.modShaft.modCase.ite h.modShaft).modOuts.slowPositioner.ite
    (h.modShaft.modCase.ite h.modShaft).modOuts.slowPositioner.shaftFault

@[simp] theorem State.InForm.enterTurning (h : s.InForm) : s.enterTurning.InForm := by
  exact h.modShaft.modCase.modOuts.slowPositioner.ite h.modShaft.modCase.modOuts.slowPositioner.shaftFault

@[simp] theorem State.InForm.holdRequest (h : s.InForm) : s.holdRequest.InForm := by
  unfold State.holdRequest; (repeat' split) <;> simp [h]

@[simp] theorem State.InForm.turnRequest (h : s.InForm) : s.turnRequest.InForm := by
  unfold State.turnRequest; split <;> simp [h]

@[simp] theorem State.InForm.positionRequest (h : s.InForm) : s.positionRequest.InForm := by
  unfold State.positionRequest; split <;> simp [h]

/-! ### The stitch player -/

theorem State.nextEntry_room {e : QueueEntry} (h : s.nextEntry = some e) : s.player.queue.length < 32 := by
  unfold State.nextEntry at h
  simp only [] at h
  split at h
  · rename_i hroom
    simp only [Bool.and_eq_true, decide_eq_true_eq] at hroom
    exact hroom.1.2
  · cases h

theorem State.InForm.prefetchN (n : Nat) (h : s.InForm) : (State.prefetchN n s).InForm := by
  induction n generalizing s with
  | zero => exact h
  | succ n ih =>
    unfold State.prefetchN
    split
    · rename_i e he
      have hroom := State.nextEntry_room he
      obtain ⟨hq, hc, hs, ht⟩ := h.player
      exact ih (h.modPlayer ⟨by simp; omega, hc, hs, ht⟩)
    · exact h

@[simp] theorem State.InForm.prefetch (h : s.InForm) : s.prefetch.InForm := h.prefetchN 32

@[simp] theorem State.InForm.refill (h : s.InForm) : s.refill.InForm :=
  (h.modPlayer (h.player.congr (Nat.zero_le _) rfl rfl rfl rfl)).prefetch

@[simp] theorem State.InForm.enterPaused (h : s.InForm) {r : PauseReason} : (s.enterPaused r).InForm :=
  (h.modPlayer (Player.inForm_of_rest h.player.lookahead rfl rfl rfl)).lend.reportPlayer

@[simp] theorem State.InForm.enterFinished (h : s.InForm) : s.enterFinished.InForm :=
  (h.modPlayer (Player.inForm_of_rest (Nat.zero_le _) rfl rfl rfl)).lend.reportPlayer

@[simp] theorem State.InForm.takeReason (h : s.InForm) {r : StopReason} {why : PauseReason} :
    (s.takeReason r why).InForm := by
  unfold State.takeReason; split <;> simp [h]

/-- A player at rest that leaves STARVED runs. -/
theorem State.InForm.exitStarved (h : s.InForm) (hs : s.player.state = .starved) : s.exitStarved.InForm := by
  have hrest := h.player.errand_eq (by simp [hs]) (by simp [hs])
  exact (h.modOuts.modPlayer (Player.inForm_of_rest h.player.lookahead hrest (h.player.positionAsked_eq (by simp [hs]))
    (h.player.entryTrim_eq (by simp [hs])))).turnRequest

/-- The latching of a flag is no matter of the player. -/
@[simp] theorem State.latch_player (s : State) (e : Event) (detail : List Byte) : (s.latch e detail).player = s.player := by
  unfold State.latch; simp only []; split <;> rfl

@[simp] theorem State.InForm.enterStarved (h : s.InForm) : s.enterStarved.InForm := by
  have hstarved := (h.modPlayer (f := fun p => { p.clearStop with state := .starved, starvedMark := p.cursor })
    (Player.inForm_of_rest h.player.lookahead rfl rfl rfl)).reportPlayer
  unfold State.enterStarved
  simp only []
  split
  · exact hstarved.exitStarved (by simp [State.reportPlayer])
  · exact hstarved

@[simp] theorem State.InForm.dropSelection (h : s.InForm) {r : StopReason} : (s.dropSelection r).InForm := by
  unfold State.dropSelection; split <;> simp [h]

@[simp] theorem State.dropSelection_player (s : State) (r : StopReason) : (s.dropSelection r).player = s.player := by
  unfold State.dropSelection; split <;> rfl

theorem Player.InForm.combineStop {p : Player} (h : p.InForm) (r : StopReason) (index : Option Nat) :
    (p.combineStop r index).InForm := h.congr le_rfl rfl rfl rfl rfl

@[simp] theorem State.InForm.plannedStop (h : s.InForm) {r : StopReason} {index : Option Nat} :
    (s.plannedStop r index).InForm := by
  unfold State.plannedStop
  split
  · rename_i hs
    exact h.modPlayer (Player.inForm_of_rest h.player.lookahead (h.player.errand_eq (by simp [hs]) (by simp [hs]))
      (h.player.positionAsked_eq (by simp [hs])) (h.player.entryTrim_eq (by simp [hs])))
  · exact h.dropSelection.modPlayer (by simpa using h.player.combineStop r index)
  · exact h.modPlayer (h.player.congr le_rfl rfl rfl rfl rfl)
  · exact h.modPlayer (h.player.congr le_rfl rfl rfl rfl rfl)
  · exact h.takeReason
  all_goals exact h

@[simp] theorem State.InForm.designFailed (h : s.InForm) : s.designFailed.InForm := by
  unfold State.designFailed; split <;> simp [h]

@[simp] theorem State.InForm.storeReport (h : s.InForm) : s.storeReport.InForm := by
  unfold State.storeReport
  simp only []
  split
  · rename_i hs; exact h.prefetch.exitStarved hs.1
  · exact h.prefetch

theorem State.InForm.askStop (h : s.InForm) {r : StopReason} {t : State} (ht : s.askStop r = some t) : t.InForm := by
  unfold State.askStop at ht
  split at ht <;> cases ht <;> exact h.plannedStop

/-! ### Heads and repair passes -/

@[simp] theorem State.InForm.pinRepairs (h : s.InForm) : s.pinRepairs.InForm := by
  unfold State.pinRepairs; split <;> simp [h]

@[simp] theorem State.InForm.removeRecords (h : s.InForm) {gone : Nat → Bool} : (s.removeRecords gone).InForm := by
  simp [State.removeRecords, h]

@[simp] theorem State.InForm.rebreak (h : s.InForm) {n point needle : Nat} {cause : BreakCause} :
    (s.rebreak n point needle cause).InForm := by
  unfold State.rebreak; split <;> simp [h]

@[simp] theorem State.InForm.firstBreak (h : s.InForm) {n point needle : Nat} {cause : BreakCause} :
    (s.firstBreak n point needle cause).InForm := by
  exact h.modHeads.modThread.pinRepairs

/-- A fold of operations that each keep the form keeps it. -/
theorem State.InForm.foldl {α : Type} {f : State → α → State} (hf : ∀ (t : State) (a : α), t.InForm → (f t a).InForm)
    (l : List α) (h : s.InForm) : (l.foldl f s).InForm := by
  induction l generalizing s with
  | nil => exact h
  | cons a l ih => exact ih (hf s a h)

@[simp] theorem State.InForm.leavePass (h : s.InForm) : s.leavePass.InForm := by
  unfold State.leavePass
  simp only []
  refine State.InForm.modPlayer (State.InForm.modHeads (State.InForm.foldl (fun t n ht => ?_) _ h)) ?_
  · split <;> simp [ht]
  · exact (State.InForm.player (State.InForm.foldl (fun t n ht => by split <;> simp [ht]) _ h)).congr le_rfl rfl rfl rfl rfl

@[simp] theorem State.InForm.passProper (h : s.InForm) : s.passProper.InForm := by
  have hbegun := h.modPlayer (f := fun p =>
    { p.clearStop with
      state := .returning, mode := .repair, cursor := s.heads.passStart.getD 0, displaced := true, errand := .returnWait .pass })
    ⟨h.player.lookahead, fun _ => Or.inr rfl, by simp [Player.clearStop], by simp [Player.clearStop]⟩
  exact hbegun.modHeads.refill.holdRequest

@[simp] theorem State.InForm.passBegin (h : s.InForm) {saved : SavedReason} : (s.passBegin saved).InForm := by
  have hset : ∀ (n : Nat) (f : Heads → Heads),
      ((s.modPlayer fun p => { p.clearStop with resume := n, saved := saved }).modHeads f).InForm := fun n f =>
    (h.modPlayer (Player.inForm_of_rest h.player.lookahead rfl rfl rfl)).modHeads
  have hasked : ∀ (n : Nat) (f : Heads → Heads),
      (((s.modPlayer fun p => { p.clearStop with resume := n, saved := saved }).modHeads f).modPlayer fun p =>
        { p with state := .stopping, entryTrim := .asked }).InForm := fun n f =>
    (hset n f).modPlayer ⟨h.player.lookahead, fun he => absurd rfl he, fun _ => rfl, fun ha => absurd ha Bool.false_ne_true⟩
  exact (hasked _ _).prefetch.turnRequest.ite (hset _ _).passProper

@[simp] theorem State.InForm.entryTrimHeld (h : s.InForm) : s.entryTrimHeld.InForm := by
  unfold State.entryTrimHeld
  split
  · exact h.enterHalted
  · exact h.modHeads.enterPaused.refill
  · exact h.passProper

@[simp] theorem State.InForm.passEnd (h : s.InForm) : s.passEnd.InForm := by
  have hended : ∀ (gone : Nat → Bool) (f : Heads → Heads) (detail : List Byte),
      (((((s.removeRecords gone).modHeads f).latch .repairDone detail).modPlayer fun p =>
        { p.clearStop with mode := .normal }).refill).InForm := fun gone f detail => by
    have hlatched := (h.removeRecords (gone := gone)).modHeads (f := f) |>.latch (e := .repairDone) (detail := detail)
    exact (hlatched.modPlayer (Player.inForm_of_rest hlatched.player.lookahead rfl rfl rfl)).refill
  unfold State.passEnd
  simp only []
  (repeat' split) <;> simp [hended]

end
end Sys2Proof.Machine
end

section
/-! PROOF. The form of queues, chains and position counts under the chains of held-shaft operations, under settling, and
under what a count, a boundary, a line or a timer does. -/

namespace Sys2Proof.Machine

section
variable {s : State}

/-! ### Chains of held-shaft operations -/

/-- No positioning is waited for and no entry trim is made. -/
structure Player.Calm (p : Player) : Prop where
  positionAsked : p.positionAsked = false
  entryTrim : p.entryTrim = .none

theorem Player.InForm.calm {p : Player} (h : p.InForm) (hs : p.state ≠ .stopping) : p.Calm :=
  ⟨h.positionAsked_eq hs, h.entryTrim_eq hs⟩

/-- Where the player holds a chain, no stop is under way. -/
theorem State.InForm.calm (h : s.InForm) (he : s.player.errand ≠ .none) : s.player.Calm :=
  h.player.calm (h.player.not_stopping he)

/-- A calm player is in form in CHANGING and RETURNING, whatever its chain. -/
theorem Player.inForm_of_calm {p : Player} (hq : p.queue.length ≤ 32) (hc : p.Calm)
    (hs : p.state = .changing ∨ p.state = .returning) : p.InForm :=
  ⟨hq, fun _ => hs, by simp [hc.positionAsked, hc.entryTrim], by simp [hc.positionAsked]⟩

theorem State.InForm.enterRunning (h : s.InForm) (hc : s.player.Calm) : s.enterRunning.InForm := by
  have hruns : (s.modPlayer fun p => { p with state := .running, errand := .none }).InForm :=
    h.modPlayer (Player.inForm_of_rest h.player.lookahead rfl hc.positionAsked hc.entryTrim)
  exact (hruns.plannedStop.ite hruns).turnRequest

theorem State.InForm.takeStop (h : s.InForm) (ht : s.player.entryTrim = .none) (e : QueueEntry) : (s.takeStop e).InForm := by
  refine State.InForm.prefetch (h.modPlayer (Player.inForm_of_calm ?_ ⟨rfl, ht⟩ (Or.inl rfl)))
  have := h.player.lookahead
  simp only [List.length_drop]
  omega

theorem State.InForm.leadDone (h : s.InForm) (hc : s.player.Calm) : s.leadDone.InForm := by
  unfold State.leadDone
  split
  · exact h.takeReason
  · split
    · exact h.enterStarved
    · exact (h.takeStop hc.entryTrim _).ite (h.enterFinished.ite (h.enterRunning hc))

theorem State.InForm.returnDone (h : s.InForm) (hc : s.player.Calm) (source : ChangeSource) :
    (s.returnDone source).InForm := by
  have harrived : (s.modPlayer fun p => { p with displaced := false }).InForm :=
    h.modPlayer (h.player.congr le_rfl rfl rfl rfl rfl)
  unfold State.returnDone
  simp only []
  split
  · exact harrived.takeReason
  · exact harrived.modPlayer (Player.inForm_of_calm h.player.lookahead ⟨hc.positionAsked, hc.entryTrim⟩ (Or.inl rfl))

/-- A player that ends its chain keeps its form. -/
theorem State.InForm.landed (h : s.InForm) : s.landed.InForm :=
  h.modPlayer ⟨h.player.lookahead, fun he => absurd rfl he, h.player.stops, h.player.trims⟩

@[simp] theorem State.InForm.playerMoveDone (h : s.InForm) : s.playerMoveDone.InForm := by
  unfold State.playerMoveDone
  split
  · rename_i source he
    have hc := h.calm (by simp [he])
    exact h.landed.returnDone ⟨hc.positionAsked, hc.entryTrim⟩ source
  · rename_i he
    have hc := h.calm (by simp [he])
    exact h.landed.leadDone ⟨hc.positionAsked, hc.entryTrim⟩
  all_goals exact h

theorem State.InForm.playerMove (h : s.InForm) (hc : s.player.Calm) (op : MoveOp) (errand : Errand) :
    (s.playerMove op errand).InForm := by
  have hbegun : ((s.modPlayer fun p => { p with state := .returning, errand := errand }).modFrame fun f =>
      f.beginLegs op [s.cursorTarget]).InForm :=
    (h.modPlayer (Player.inForm_of_calm h.player.lookahead ⟨hc.positionAsked, hc.entryTrim⟩ (Or.inr rfl))).modFrame
      (h.frame.beginLegs _ _)
  unfold State.playerMove
  simp only []
  split
  · exact hbegun.axisFault
  · exact hbegun.finishMove.playerMoveDone.ite hbegun

@[simp] theorem State.InForm.changeDone (h : s.InForm) : s.changeDone.InForm := by
  unfold State.changeDone
  split
  · rename_i he
    have hc := h.calm (by simp [he])
    split
    · exact h.takeReason
    · simp only []
      split
      · exact h.enterPaused
      · exact h.modPlayer (Player.inForm_of_calm h.player.lookahead ⟨hc.positionAsked, hc.entryTrim⟩ (Or.inr rfl))
  all_goals exact h

@[simp] theorem State.InForm.caseComplete (h : s.InForm) {j : CaseJob} {energised : Bool} :
    (s.caseComplete j energised).InForm :=
  h.modCase.latch.modOuts.modThread.ite h.modCase.latch.modOuts.modThread.changeDone

@[simp] theorem State.InForm.beginCase (h : s.InForm) {j : CaseJob} : (s.beginCase j).InForm :=
  h.modCase.caseComplete.ite h.modCase.modCase

theorem State.InForm.enteringChange (h : s.InForm) (hc : s.player.Calm) (source : ChangeSource) (block : Nat) :
    (s.enteringChange source block).InForm :=
  State.InForm.beginCase
    (h.modPlayer (Player.inForm_of_calm h.player.lookahead ⟨hc.positionAsked, hc.entryTrim⟩ (Or.inl rfl)))

theorem State.InForm.restoringChange (h : s.InForm) (hc : s.player.Calm) (source : ChangeSource) (block target : Nat) :
    (s.restoringChange source block target).InForm := by
  unfold State.restoringChange
  split
  · exact h.modPlayer (Player.inForm_of_calm h.player.lookahead ⟨hc.positionAsked, hc.entryTrim⟩ (Or.inr rfl))
  · exact State.InForm.beginCase
      (h.modPlayer (Player.inForm_of_calm h.player.lookahead ⟨hc.positionAsked, hc.entryTrim⟩ (Or.inl rfl)))

theorem State.InForm.decideChange (h : s.InForm) (hc : s.player.Calm) (source : ChangeSource) (asked : Nat) :
    (s.decideChange source asked).InForm := by
  unfold State.decideChange
  simp only []
  split
  · split
    · exact h.enteringChange hc _ _
    · split
      · exact h.restoringChange hc _ _ _
      · exact h.enteringChange hc _ _
  · exact h.restoringChange hc _ _ _

/-! ### HELD -/

theorem State.InForm.plannedHeld (h : s.InForm) (ha : s.player.positionAsked = true) : s.plannedHeld.InForm := by
  have hcame : (s.modPlayer fun p => { p with positionAsked := false }).InForm :=
    h.modPlayer ⟨h.player.lookahead, h.player.chains, fun hs => h.player.stops (Or.inl ha), fun hn => absurd hn (by simp)⟩
  unfold State.plannedHeld
  simp only []
  split
  · exact hcame.entryTrimHeld
  · rename_i hending
    have htrim : s.player.entryTrim = .none := (h.player.trims ha).resolve_right hending
    split
    · exact hcame.enterHalted
    · split
      · exact hcame.passEnd
      · split
        · exact hcame.passBegin
        · split
          · refine ((hcame.takeStop htrim _).refill).ite (hcame.enterFinished.ite ?_)
            split
            · exact hcame.enterPaused.refill
            · exact hcame.refill.enterStarved
          · split
            · exact hcame.enterPaused.refill
            · exact hcame.refill.enterStarved

@[simp] theorem State.InForm.recovered (h : s.InForm) : s.recovered.InForm := by
  have hset : (s.modPlayer fun p =>
      { p with recovering := false, cursor := p.interrupted.getD p.cursor, interrupted := none }).InForm :=
    h.modPlayer (h.player.congr le_rfl rfl rfl rfl rfl)
  exact (hset.leavePass.ite hset).enterPaused.refill

theorem State.InForm.beginKept (h : s.InForm) {t : State} (ht : s.beginKept = some t) : t.InForm := by
  unfold State.beginKept at ht
  split at ht
  · split at ht
    · cases ht; exact h.beginCase
    · cases ht
  · cases ht

theorem State.InForm.beginKept_getD (h : s.InForm) : (s.beginKept.getD s).InForm := by
  cases ht : s.beginKept with
  | none => exact h
  | some t => exact h.beginKept ht

theorem State.InForm.turnKept (h : s.InForm) : s.turnKept.InForm := h.enterTurning.ite h

@[simp] theorem State.InForm.reachHeld (h : s.InForm) : s.reachHeld.InForm := by
  have hheld : ((s.modShaft fun h =>
      { h.noDemand with state := .held, phase := .creep, keptHold := false, keptTurn := false }).modGov fun g =>
        g.force.rest).InForm := h.modShaft.modGov
  have htold : ∀ u : State, u.InForm →
      (if u.player.recovering then u.recovered else if u.player.positionAsked then u.plannedHeld else u).InForm := by
    intro u hu
    split
    · exact hu.recovered
    · split
      · exact hu.plannedHeld ‹_›
      · exact hu
  exact (htold _ hheld).beginKept_getD.turnKept.ite (htold _ hheld)

/-! ### Settling -/

theorem State.prefetchN_calm (n : Nat) (hc : s.player.Calm) : (State.prefetchN n s).player.Calm := by
  induction n generalizing s with
  | zero => exact hc
  | succ n ih =>
    unfold State.prefetchN
    split
    · exact ih ⟨hc.positionAsked, hc.entryTrim⟩
    · exact hc

theorem State.InForm.settleOne (h : s.InForm) {t : State} (ht : s.settleOne = some t) : t.InForm := by
  unfold State.settleOne at ht
  split at ht
  · exact h.beginKept ht
  · split at ht
    · rename_i he
      have hc := h.calm (by simp [he])
      split at ht
      · cases ht
        exact h.refill.playerMove (State.prefetchN_calm 32 ⟨hc.positionAsked, hc.entryTrim⟩) _ _
      · cases ht
    · rename_i he
      split at ht
      · cases ht
        exact h.decideChange (h.calm (by simp [he])) _ _
      · cases ht
    · rename_i he
      split at ht
      · cases ht
        exact h.playerMove (h.calm (by simp [he])) _ _
      · cases ht
    all_goals cases ht

theorem State.InForm.settleN (n : Nat) (h : s.InForm) : (State.settleN n s).InForm := by
  induction n generalizing s with
  | zero => exact h
  | succ n ih =>
    unfold State.settleN
    split
    · exact ih (h.settleOne ‹_›)
    · exact h

theorem State.InForm.settle (h : s.InForm) : s.settle.InForm := h.settleN 2048

/-! ### Breaks and boundaries -/

@[simp] theorem State.InForm.normalBreak (h : s.InForm) {n point needle : Nat} {cause : BreakCause} :
    (s.normalBreak n point needle cause).InForm :=
  h.firstBreak.plannedStop.ite h.firstBreak

@[simp] theorem State.InForm.repairBreak (h : s.InForm) {n point needle : Nat} {cause : BreakCause} :
    (s.repairBreak n point needle cause).InForm :=
  h.rebreak.plannedStop.ite (h.rebreak.plannedStop.ite h.rebreak)

@[simp] theorem State.InForm.declareBreak (h : s.InForm) {n : Nat} : (s.declareBreak n).InForm := by
  unfold State.declareBreak
  split
  · exact h
  · simp only []
    split
    · exact h.modThread.latch.normalBreak
    · exact h.modThread.latch.repairBreak
    all_goals exact h.modThread.latch

@[simp] theorem State.InForm.giveVerdict (h : s.InForm) {r : SewnRevolution} {n : Nat} : (s.giveVerdict r n).InForm :=
  h.modThread.declareBreak.ite h.modThread

theorem State.InForm.closeHead (h : s.InForm) {r : SewnRevolution} {n : Nat} : (State.closeHead r s n).InForm :=
  h.ite (h.modThread.ite (h.ite h.giveVerdict))

@[simp] theorem State.InForm.closeWindow (h : s.InForm) {r : SewnRevolution} : (s.closeWindow r).InForm :=
  State.InForm.foldl (fun _ _ ht => ht.closeHead) _ h.modThread

@[simp] theorem State.InForm.joinHeads (h : s.InForm) {index : Nat} : (s.joinHeads index).InForm := by
  simp [State.joinHeads, h]

@[simp] theorem State.InForm.dropHeads (h : s.InForm) {index block : Nat} : (s.dropHeads index block).InForm :=
  State.InForm.foldl (fun t n ht => by split <;> simp [ht]) _ h

@[simp] theorem State.InForm.passHeads (h : s.InForm) {index block : Nat} : (s.passHeads index block).InForm := by
  unfold State.passHeads
  split
  · exact h
  · exact h.joinHeads.dropHeads.plannedStop.ite h.joinHeads.dropHeads

theorem State.InForm.engage (h : s.InForm) : s.engage.InForm := h.modHeads

theorem State.InForm.handMonitor (h : s.InForm) {kind : RecKind} {index : Nat} {dx dy : Int} {before : Nat → Bool} :
    (s.handMonitor kind index dx dy before).InForm := by
  simp [State.handMonitor, h]

theorem State.InForm.armHolder (h : s.InForm) {kind : RecKind} : (s.armHolder kind).InForm := h.modOuts.ite h

theorem State.InForm.command (h : s.InForm) {c : Nat} : (s.command c).InForm := h.modGov.modShaft

/-- A boundary that hands nothing over leaves a player that sews in STOPPING. -/
theorem State.InForm.noHandover (h : s.InForm) (ht : s.player.entryTrim = .none)
    (hs : s.player.state = .running ∨ s.player.state = .stopping) : s.noHandover.InForm := by
  have he : s.player.errand = .none := h.player.errand_eq (by rcases hs with hs | hs <;> simp [hs])
    (by rcases hs with hs | hs <;> simp [hs])
  exact ((h.modPlayer ⟨h.player.lookahead, fun hne => absurd he hne, fun _ => rfl, fun _ => Or.inl ht⟩).disengage).positionRequest

theorem Player.InForm.takeStopPosition {p : Player} (h : p.InForm) (m : Motion) (first : Bool) (cPrev : Nat)
    (e : QueueEntry) : (p.takeStopPosition m first cPrev e).InForm := by
  unfold Player.takeStopPosition
  split
  · exact h.congr le_rfl rfl rfl rfl rfl
  · exact h

theorem Player.InForm.handOver {p : Player} (h : p.InForm) (e : QueueEntry) : (p.handOver e).InForm :=
  h.congr (by simp [Player.handOver]) rfl rfl rfl rfl

@[simp] theorem State.InForm.handover (h : s.InForm) {e : QueueEntry} : (s.handover e).InForm := by
  have htaken : (s.modPlayer fun p =>
      p.takeStopPosition s.gov.active.motion s.shaft.runUp s.gov.cPrev e).InForm :=
    h.modPlayer (h.player.takeStopPosition _ _ _ e)
  have hhanded : ((s.modPlayer fun p =>
      p.takeStopPosition s.gov.active.motion s.shaft.runUp s.gov.cPrev e).modPlayer fun p => p.handOver e).InForm :=
    htaken.modPlayer (htaken.player.handOver e)
  exact hhanded.command.modGov.passHeads.engage.handMonitor.armHolder.prefetch

theorem State.InForm.beginEntryTrim (h : s.InForm) (ht : s.player.entryTrim = .asked) : s.beginEntryTrim.InForm := by
  have hs : s.player.state = .stopping := h.player.stops (Or.inr (by simp [ht]))
  have ha : s.player.positionAsked = false := by
    by_contra hne
    rcases h.player.trims (by simpa using hne) with h' | h' <;> simp [ht] at h'
  have hbegun : (s.modPlayer fun p =>
      { p with
        entryTrim := .active
        active := some { index := none, kind := .trim, dx := 0, dy := 0, block := s.blockOf p.cursor } }).InForm :=
    h.modPlayer ⟨h.player.lookahead, h.player.chains, fun _ => hs, fun hn => absurd (ha.symm.trans hn) Bool.false_ne_true⟩
  exact hbegun.command.engage.handMonitor

/-- The end of a revolution changes the player's active record only. -/
theorem State.endRevolution_player (s : State) (completed : Bool) :
    (s.endRevolution completed).player = { s.player with active := none } := by
  unfold State.endRevolution
  split
  · rename_i ha; rw [← ha]
  · simp only []
    (repeat' split) <;> rfl

theorem State.InForm.endEntryTrim (h : s.InForm) (ht : s.player.entryTrim = .active) : s.endEntryTrim.InForm := by
  have hs : s.player.state = .stopping := h.player.stops (Or.inr (by simp [ht]))
  refine ((h.endRevolution.modPlayer ?_).disengage).positionRequest
  rw [State.endRevolution_player]
  exact ⟨h.player.lookahead, h.player.chains, fun _ => hs, fun _ => Or.inr rfl⟩

theorem State.InForm.playerBoundary (h : s.InForm) (ht : s.player.entryTrim = .none)
    (hs : s.player.state = .running ∨ s.player.state = .stopping) : s.playerBoundary.InForm := by
  have hended : (s.endRevolution true).InForm := h.endRevolution
  have hplayer := s.endRevolution_player true
  have hback : (s.endRevolution true).noHandover.InForm := hended.noHandover (by rw [hplayer]; exact ht) (by rw [hplayer]; exact hs)
  unfold State.playerBoundary
  simp only []
  split
  · exact hback
  · exact hback.ite hended.handover

@[simp] theorem State.InForm.boundary (h : s.InForm) : s.boundary.InForm := by
  unfold State.boundary
  split
  · exact h.beginEntryTrim ‹_›
  · exact h.endEntryTrim ‹_›
  · exact h
  · rename_i ht
    split
    · exact h.playerBoundary ht (Or.inl ‹_›)
    · exact h.playerBoundary ht (Or.inr ‹_›)
    all_goals exact h

/-! ### Counts -/

theorem State.InForm.sewn (h : s.InForm) {v v' : SewMove} : (s.sewn v v').InForm :=
  h.modGov.modFrame ((h.frame.stepX _ _).stepY _ _)

@[simp] theorem State.InForm.sewSteps (h : s.InForm) {t : Nat} : (s.sewSteps t).InForm := by
  unfold State.sewSteps
  split
  · exact h.ite h.sewn
  · exact h

@[simp] theorem State.InForm.heldSteps (h : s.InForm) {t : Nat} : (s.heldSteps t).InForm := by
  unfold State.heldSteps
  split
  · exact h.ite h.sewn
  · exact h

@[simp] theorem State.InForm.overrunCheck (h : s.InForm) : s.overrunCheck.InForm := by
  unfold State.overrunCheck
  split
  · exact h.modGov.latch.reportFault.ite h
  · exact h

@[simp] theorem State.InForm.feedWindow (h : s.InForm) : s.feedWindow.InForm := by
  unfold State.feedWindow
  split
  · exact h.ite (h.modThread.ite (h.closeWindow.ite h))
  · exact h

@[simp] theorem State.InForm.turningCount (h : s.InForm) {t : Nat} : (s.turningCount t).InForm :=
  h.boundary.ite h.sewSteps.overrunCheck.feedWindow

@[simp] theorem State.InForm.brakePoint (h : s.InForm) : s.brakePoint.InForm :=
  h.modShaft.ite (h.shaftFault.ite h.modShaft)

@[simp] theorem State.InForm.positioningCount (h : s.InForm) : s.positioningCount.InForm := by
  unfold State.positioningCount
  split
  · exact h.brakePoint.ite h
  · exact h.modShaft.ite h
  · exact h

@[simp] theorem State.InForm.leaveHeld (h : s.InForm) : s.leaveHeld.InForm :=
  h.ite (h.modShaft.caseFault.ite h.modShaft)

theorem State.InForm.count (h : s.InForm) (forward : Bool) (t : Nat) : (s.count forward t).InForm := by
  unfold State.count
  simp only []
  split
  · exact h.modShaft.turningCount.ite h.heldSteps.modShaft.shaftFault
  · exact h.modShaft.positioningCount.ite h.modShaft
  · exact h.modShaft.leaveHeld
  all_goals exact h.modShaft

theorem State.InForm.index (h : s.InForm) (forward : Bool) (period : Nat) : (s.index forward period).InForm :=
  h.modShaft.modShaft.ite (h.modShaft.modShaft.ite h.modShaft.shaftFault)

/-! ### The events of the shaft, the axis drives and the needle case -/

theorem State.InForm.correction (h : s.InForm) : s.correction.InForm := by
  simp [State.correction, h]

theorem State.InForm.stillNow (h : s.InForm) : s.stillNow.InForm := by
  have hstill : (s.modShaft fun h => { h with still := true }).InForm := h.modShaft
  unfold State.stillNow
  simp only []
  split
  · exact State.InForm.ite (hstill.reachHeld.ite (hstill.shaftFault.ite hstill.correction)) hstill
  · exact hstill.enterOff
  · exact hstill.modShaft.enterPositioning.ite (hstill.modShaft.enterOff.ite hstill.modShaft)
  all_goals exact hstill

theorem State.InForm.driveLost (h : s.InForm) : s.driveLost.InForm := h.modShaft.shaftFault.ite h.modShaft

theorem State.InForm.stalled (h : s.InForm) : s.stalled.InForm := by
  unfold State.stalled
  split
  · exact h
  · split
    · exact h.heldSteps.shaftFault
    · exact h.shaftFault
    all_goals exact h

theorem State.InForm.axisLost (h : s.InForm) (a : Axis) : (s.axisLost a).InForm := by
  cases a
  · exact (h.modFrame (h.frame.congr rfl rfl rfl)).axisFault.ite h
  · exact (h.modFrame (h.frame.congr rfl rfl rfl)).axisFault.ite h

theorem State.InForm.judgeCase (h : s.InForm) (j : CaseJob) (before : Option Nat) : (s.judgeCase j before).InForm := by
  unfold State.judgeCase
  simp only []
  split
  · exact h
  · split
    · exact h.modCase
    · exact h.modCase
    · exact h.modCase
    · exact h.modCase.ite h.caseFault.modCase
    · exact h.caseFault.modCase

theorem State.InForm.casePositionChanged (h : s.InForm) : s.casePositionChanged.InForm := by
  unfold State.casePositionChanged
  split
  · split
    · exact h.judgeCase _ _
    · exact h.modCase
  · exact h.modCase
  · exact h.modCase
  · exact h.caseFault.modCase.ite h.modCase

theorem State.InForm.codeSettled (h : s.InForm) : s.codeSettled.InForm := h.modCase.ite h.modCase.casePositionChanged

theorem State.InForm.settleExpired (h : s.InForm) : s.settleExpired.InForm := by
  unfold State.settleExpired
  split
  · exact h.caseComplete.ite (h.modCase.ite (h.modCase.ite h.caseFault))
  all_goals exact h

theorem State.InForm.caseTimedOut (h : s.InForm) : s.caseTimedOut.InForm := by
  unfold State.caseTimedOut
  split
  · exact h.caseFault
  all_goals exact h

/-! ### The steps of the axis generators -/

theorem State.InForm.beginHoming (h : s.InForm) (a : Axis) : (s.beginHoming a).InForm :=
  h.modFrame (h.frame.congr rfl rfl rfl)

theorem State.InForm.homeInput (h : s.InForm) : s.homeInput.InForm := by
  unfold State.homeInput
  split
  · exact h.modFrame (h.frame.congr rfl rfl rfl)
  all_goals exact h

theorem State.InForm.homeStep (h : s.InForm) (a : Axis) (away : Bool) (next : HomeStage) : (s.homeStep a away next).InForm := by
  unfold State.homeStep
  exact h.modFrame ((h.frame.step a _ 1).congr rfl rfl rfl)

theorem State.InForm.homeDone (h : s.InForm) (a : Axis) : (s.homeDone a).InForm := by
  have hset : (s.modFrame fun f => f.setHome a).InForm := h.modFrame (h.frame.setHome a)
  cases a
  · exact hset.beginHoming .y
  · exact (hset.modFrame (hset.frame.congr rfl rfl rfl)).finishMove

theorem State.InForm.homingStep (h : s.InForm) (a : Axis) (stage : HomeStage) : (s.homingStep a stage).InForm := by
  unfold State.homingStep
  split
  · exact (h.homeStep _ _ _).ite h
  · exact (h.homeStep _ _ _).ite (h.homeStep _ _ _)
  · exact (h.homeStep _ _ _).ite h
  · exact (h.homeStep _ _ _).ite ((h.homeStep _ _ _).homeDone a)

theorem State.InForm.homingLimit (h : s.InForm) : s.homingLimit.InForm := by
  unfold State.homingLimit
  split
  · exact h.axisFault.ite h
  · exact h.axisFault.ite h
  all_goals exact h

theorem State.InForm.legDone (h : s.InForm) (op : MoveOp) (rest : List (Int × Int)) : (s.legDone op rest).InForm := by
  unfold State.legDone
  split
  · exact h.modFrame (h.frame.congr rfl rfl rfl)
  · cases op
    case leadIn | returnMove => exact h.finishMove.playerMoveDone
    all_goals exact h.finishMove

theorem State.InForm.legStep (h : s.InForm) (op : MoveOp) (leg : Leg) (rest : List (Int × Int))
    (slowing : Option AbortCause) : (s.legStep op leg rest slowing).InForm := by
  have hstepped : (s.modFrame fun f =>
      { f.follow leg (leg.advance s.frame.settings.rPos slowing.isSome) with
        move := some (.legs op (leg.advance s.frame.settings.rPos slowing.isSome) rest slowing) }).InForm :=
    h.modFrame (((h.frame.stepX _ _).stepY _ _).congr rfl rfl rfl)
  cases slowing with
  | some c => exact hstepped.finishMove.ite hstepped
  | none => exact (hstepped.legDone op rest).ite hstepped

theorem State.InForm.owedStep (h : s.InForm) (a : Axis) (v : SewMove) : (s.owedStep a v).InForm := by
  have hstepped : ∀ v' : SewMove, ((s.modGov fun g => { g with move := some v' }).modFrame fun f =>
      (f.stepX v.xNeg (v'.ex - v.ex)).stepY v.yNeg (v'.ey - v.ey)).InForm := fun v' =>
    h.modGov.modFrame ((h.frame.stepX _ _).stepY _ _)
  exact (hstepped _).abandonSewing.ite (hstepped _)

theorem State.InForm.axisStepNow (h : s.InForm) (a : Axis) : (s.axisStepNow a).InForm := by
  unfold State.axisStepNow
  split
  · exact (h.owedStep _ _).ite h
  · split
    · exact (h.legStep _ _ _ _).ite h
    · exact (h.homingStep _ _).ite h
    · exact h

end
end Sys2Proof.Machine
end

section
/-! PROOF. The form of queues, chains and position counts under inputs, requests and resets, and under every command: the
obligation O7. -/

namespace Sys2Proof.Machine

section
variable {s : State}

/-! ### Inputs -/

@[simp] theorem State.InForm.modInput (h : s.InForm) {n : Nat} {f : Input → Input} : (s.modInput n f).InForm := h.modEv

theorem State.InForm.bobbinLatched (h : s.InForm) (n : Nat) : (s.bobbinLatched n).InForm := by
  unfold State.bobbinLatched
  split
  · exact h
  · exact h.modHeads.latch.plannedStop.ite h.modHeads.latch

theorem State.InForm.latchInput (h : s.InForm) (n : Nat) (i : Input) : (s.latchInput n i).InForm :=
  State.InForm.ite (State.InForm.bobbinLatched (h.modInput.latch.ite h.modInput) _) (h.modInput.latch.ite h.modInput)

theorem State.InForm.latchLevel (h : s.InForm) (n : Nat) : (s.latchLevel n).InForm := by
  unfold State.latchLevel
  split
  · exact (h.latchInput n _).ite h
  · exact h

theorem State.InForm.followSwitch (h : s.InForm) (n : Nat) (on : Bool) : (s.followSwitch n on).InForm := h.modHeads.ite h

/-- START: the chain begins from a player at rest. -/
theorem State.InForm.startNow (h : s.InForm) (hs : s.player.state ≠ .stopping) : s.startNow.InForm := by
  have hc := h.player.calm hs
  have htaken : ((s.modFrame Frame.take).modOuts Outputs.allAuto).InForm :=
    (h.modFrame (h.frame.congr rfl rfl rfl)).modOuts
  refine State.InForm.holdRequest (htaken.modPlayer ?_)
  split
  · exact Player.inForm_of_calm h.player.lookahead ⟨hc.positionAsked, hc.entryTrim⟩ (Or.inr rfl)
  · exact Player.inForm_of_calm h.player.lookahead ⟨hc.positionAsked, hc.entryTrim⟩ (Or.inl rfl)

theorem State.InForm.returnToPass (h : s.InForm) : s.returnToPass.InForm :=
  (h.modPlayer (h.player.congr le_rfl rfl rfl rfl rfl)).modHeads.ite h

theorem State.returnToPass_calm (hc : s.player.Calm) : s.returnToPass.player.Calm := by
  unfold State.returnToPass
  split
  · exact ⟨hc.positionAsked, hc.entryTrim⟩
  · exact hc

/-- RESUME: the chain begins from a player at rest. -/
theorem State.InForm.resumeNow (h : s.InForm) (hs : s.player.state ≠ .stopping) : s.resumeNow.InForm := by
  have hc := State.returnToPass_calm (h.player.calm hs)
  have hback := h.returnToPass
  have htaken : ((s.returnToPass.modFrame Frame.take).modOuts Outputs.allAuto).InForm :=
    (hback.modFrame (hback.frame.congr rfl rfl rfl)).modOuts
  refine State.InForm.holdRequest (htaken.modPlayer ?_)
  split
  · exact Player.inForm_of_calm hback.player.lookahead ⟨hc.positionAsked, hc.entryTrim⟩ (Or.inr rfl)
  · exact Player.inForm_of_calm hback.player.lookahead ⟨hc.positionAsked, hc.entryTrim⟩ (Or.inl rfl)

/-- R31: START is taken in ARMED only. -/
theorem State.armed_of_startRefusal (h : s.startRefusal = none) : s.player.state = .armed := by
  unfold State.startRefusal at h
  split at h
  · cases h
  · simpa using ‹¬s.player.state ≠ .armed›

/-- R32: RESUME is taken in PAUSED only. -/
theorem State.isPaused_of_resumeRefusal (h : s.resumeRefusal = none) : s.player.state.isPaused = true := by
  unfold State.resumeRefusal at h
  split at h
  · cases h
  · simpa using ‹¬(!s.player.state.isPaused) = true›

theorem PlayerState.isPaused_iff (p : PlayerState) : p.isPaused = true ↔ ∃ r, p = .paused r := by
  cases p <;> simp [PlayerState.isPaused]

theorem State.InForm.startNow_of_refusal (h : s.InForm) (hr : s.startRefusal = none) : s.startNow.InForm :=
  h.startNow (by simp [State.armed_of_startRefusal hr])

theorem State.InForm.resumeNow_of_refusal (h : s.InForm) (hr : s.resumeRefusal = none) : s.resumeNow.InForm := by
  obtain ⟨r, hs⟩ := (PlayerState.isPaused_iff _).1 (State.isPaused_of_resumeRefusal hr)
  exact h.resumeNow (by simp [hs])

theorem State.InForm.startPress (h : s.InForm) : s.startPress.InForm := by
  unfold State.startPress
  split
  · exact h.startNow_of_refusal (by simpa using ‹s.startRefusal.isNone = true›)
  · split
    · exact h.resumeNow_of_refusal (by simpa using ‹s.resumeRefusal.isNone = true›)
    · exact h

theorem State.InForm.stopPress (h : s.InForm) : s.stopPress.InForm := by
  unfold State.stopPress
  cases ht : s.askStop .buttonStop with
  | none => exact h
  | some t => exact h.askStop ht

theorem State.InForm.becameActive (h : s.InForm) (n : Nat) : (s.becameActive n).InForm := by
  unfold State.becameActive
  split
  · exact h.axisFault
  · exact h.startPress.ite (h.stopPress.ite h)

theorem State.InForm.activeChanged (h : s.InForm) (n : Nat) (on : Bool) : (s.activeChanged n on).InForm :=
  ((h.followSwitch n on).homeInput.becameActive n).ite (h.followSwitch n on).homeInput

theorem State.InForm.takeLevel (h : s.InForm) (n : Nat) (i : Input) : (s.takeLevel n i).InForm := by
  unfold State.takeLevel
  simp only []
  split
  · exact ((h.modInput.latchLevel n).followSwitch n _).homeInput
  · have hlatched : ∀ j : Input, (if i.mode.takes i.raw && i.armed then
        (s.modInput n fun j => { j with level := some j.raw }).latchInput n j
        else (s.modInput n fun j => { j with level := some j.raw }).latchLevel n).InForm := fun j =>
      (h.modInput.latchInput n j).ite (h.modInput.latchLevel n)
    exact h.ite ((hlatched _).ite ((hlatched _).activeChanged n _))

theorem State.InForm.settleInput (h : s.InForm) (n : Nat) : (s.settleInput n).InForm := by
  unfold State.settleInput
  split
  · exact h.takeLevel n _
  · exact h

theorem State.InForm.rawLine (h : s.InForm) (line : Nat) (high : Bool) : (s.rawLine line high).InForm :=
  h.modEv.ite h.modInput

theorem State.InForm.followUnfiltered (h : s.InForm) (line : Nat) : (s.followUnfiltered line).InForm := by
  unfold State.followUnfiltered
  split
  · exact (h.takeLevel line _).ite h
  · exact h

theorem State.InForm.clearInput (h : s.InForm) (n : Nat) : (s.clearInput n).InForm := h.modInput.modHeads.ite h.modInput

theorem State.InForm.estopAssert (h : s.InForm) : s.estopAssert.InForm :=
  h.ite h.modEv.latch.stopFrame.brakeRequest.modCase.reportFault

/-! ### The requests of the design store, the events and the frame -/

theorem okWith_inForm {t : State} {detail : List Byte} (h : t.InForm) : (okWith t detail).1.InForm := h

theorem State.InForm.serveDsnBlock (h : s.InForm) (design block count : Nat) (records : List RawRecord) :
    (s.serveDsnBlock design block count records).1.InForm := by
  unfold State.serveDsnBlock
  split
  · exact h
  · split
    · exact h
    · split
      · exact h
      · split
        · exact h
        · split
          · exact h
          · split
            · exact h
            · exact h.modStore.storeReport.ite h.modStore

theorem State.InForm.serveDsnClose (h : s.InForm) (design check : Nat) : (s.serveDsnClose design check).1.InForm := by
  have hfailed : ∀ (d : Design) (reason : Nat), (s.closeFailed d reason).InForm := fun d reason =>
    h.modStore.latch.designFailed.ite h.modStore.latch
  have hready : ∀ d : Design, (s.closeReady d).InForm := fun d => h.modStore.latch.storeReport.ite h.modStore.latch
  unfold State.serveDsnClose
  split
  · exact h
  · split
    · exact h
    · split
      · exact h
      · split
        · exact hfailed _ _
        · split
          · exact hfailed _ _
          · exact hready _

theorem State.InForm.serveSetInput (h : s.InForm) (input mode filter report : Nat) :
    (s.serveSetInput input mode filter report).1.InForm := by
  have hset : ∀ (m : InputMode) (f : Nat) (r : Bool), (s.setInputNow input m f r).InForm := fun m f r => by
    have hjudged := ((h.clearInput input).modInput (n := input)
      (f := fun i => { i with mode := m, filter := f, report := r })).latchLevel input
    exact hjudged.ite (hjudged.activeChanged input _)
  unfold State.serveSetInput
  split
  · split
    · exact h
    · split
      · exact h
      · exact hset _ _ _
  · exact h

theorem State.InForm.serveInputClear (h : s.InForm) (mask : Nat) : (s.serveInputClear mask).1.InForm :=
  State.InForm.foldl (fun _ n ht => ((ht.clearInput n).latchLevel n).ite ht) _ h

theorem State.InForm.grant (h : s.InForm) : s.grant.InForm :=
  (h.modFrame (h.frame.congr rfl rfl rfl)).modPlayer (h.player.congr le_rfl rfl rfl rfl rfl)

theorem State.InForm.beginOperation (h : s.InForm) (op : MoveOp) (targets : List (Int × Int)) :
    (s.beginOperation op targets).InForm := by
  have hbegun : (s.grant.modFrame fun f => f.beginLegs op targets).InForm := h.grant.modFrame (h.grant.frame.beginLegs _ _)
  exact hbegun.finishMove.ite hbegun

theorem State.InForm.fieldLimit (h : s.InForm) (asked made : Int × Int) : (s.fieldLimit asked made).InForm := h.ite h.latch

theorem State.InForm.positionTo (h : s.InForm) (op : MoveOp) (asked : Int × Int) : (s.positionTo op asked).1.InForm := by
  unfold State.positionTo
  simp only []
  split
  · exact h
  · exact (h.fieldLimit _ _).beginOperation _ _

theorem State.InForm.positioner (h : s.InForm) {own : State → Served} (hown : (own s).1.InForm) :
    (s.positioner own).1.InForm := by
  unfold State.positioner
  split
  · exact h
  · exact hown

theorem State.InForm.serveFrameGo (h : s.InForm) (mode : Nat) (x y : Int) : (s.serveFrameGo mode x y).1.InForm := by
  refine h.positioner ?_
  split
  · exact h
  · split
    · split
      · exact h.positionTo _ _
      · exact h
    · exact h.positionTo _ _

theorem State.InForm.serveFrameHome (h : s.InForm) : s.serveFrameHome.1.InForm := by
  refine h.positioner ?_
  split
  · exact h
  · exact h.grant.beginHoming .x

theorem State.InForm.serveFrameTrace (h : s.InForm) : s.serveFrameTrace.1.InForm := by
  refine h.positioner ?_
  split
  · exact h
  · split
    · exact h
    · simp only []
      split
      · exact h
      · exact h.beginOperation _ _

theorem State.InForm.serveFramePark (h : s.InForm) : s.serveFramePark.1.InForm := by
  refine h.positioner ?_
  split
  · exact h.positionTo _ _
  · exact h

theorem clampInt_range {lo hi : Int} (h : lo ≤ hi) (i : Int) : lo ≤ clampInt lo hi i ∧ clampInt lo hi i ≤ hi := by
  unfold clampInt; omega

/-- R102: SET_FRAME stores home offsets clamped to the machine's travel. -/
theorem State.InForm.serveSetFrame (h : s.InForm) (dirX dirY : Nat) (offX offY parkX parkY : Int) (rPos : Nat) :
    (s.serveSetFrame dirX dirY offX offY parkX parkY rPos).1.InForm := by
  unfold State.serveSetFrame
  split
  · split
    · exact h
    · exact okWith_inForm <| h.modFrame
        ⟨h.frame.countX, h.frame.countY, clampInt_range (by decide) _, clampInt_range (by decide) _⟩
  · exact h

theorem State.InForm.serveSetHoop (h : s.InForm) (entry : Nat) (xmin xmax ymin ymax : Int) :
    (s.serveSetHoop entry xmin xmax ymin ymax).1.InForm := by
  unfold State.serveSetHoop
  split
  · exact h
  · split
    · exact h
    · exact okWith_inForm <| h.modFrame <| h.frame.congr rfl rfl rfl

theorem State.InForm.serveHoopSelect (h : s.InForm) (entry : Nat) : (s.serveHoopSelect entry).1.InForm := by
  unfold State.serveHoopSelect
  split
  · exact h
  · split
    · exact h
    · exact okWith_inForm <| h.modFrame <| h.frame.congr rfl rfl rfl

/-! ### The requests of the player, the case, the governor, the thread monitor and the heads -/

theorem State.InForm.serveArm (h : s.InForm) (design hoop : Nat) : (s.serveArm design hoop).1.InForm := by
  unfold State.serveArm
  split
  · exact h
  · have harmed : ((s.modStore fun st => st.moveArmedPin design).modPlayer fun p =>
        p.armAt design s.frame.x s.frame.y).InForm :=
      h.modStore.modPlayer (Player.inForm_of_rest (Nat.zero_le _) rfl rfl rfl)
    have hhooped := harmed.modFrame (f := fun f => { f with hoop := hoop }) (harmed.frame.congr rfl rfl rfl)
    exact okWith_inForm hhooped.modOuts.modThread.modHeads.prefetch

theorem State.InForm.toOff (h : s.InForm) :
    (if s.shaft.state = .fault then
      (if s.shaft.still then s.enterOff else s.modShaft fun h => { h with toOff := true }) else s).InForm :=
  (h.enterOff.ite h.modShaft).ite h

theorem State.InForm.serveDisarm (h : s.InForm) : s.serveDisarm.1.InForm := by
  unfold State.serveDisarm
  split
  · exact h
  · have hcleared : (((s.removeRecords fun _ => true).modStore fun st =>
        { st with dir := st.dir.map fun o => o.map fun d => { d with armedPin := false } }).modPlayer Player.disarm).InForm :=
      h.removeRecords.modStore.modPlayer (Player.inForm_of_rest (Nat.zero_le _) rfl rfl rfl)
    exact okWith_inForm <| State.InForm.ite hcleared.modHeads.modThread.modOuts.release.modOuts.modCase.toOff
      hcleared.modHeads.modThread.modOuts.release

theorem State.InForm.serveStart (h : s.InForm) : s.serveStart.1.InForm := by
  unfold State.serveStart
  split
  · exact h
  · exact h.startNow_of_refusal ‹_›

theorem State.InForm.serveResume (h : s.InForm) : s.serveResume.1.InForm := by
  unfold State.serveResume
  split
  · exact h
  · exact h.resumeNow_of_refusal ‹_›

theorem State.InForm.serveStop (h : s.InForm) : s.serveStop.1.InForm := by
  unfold State.serveStop
  split
  · exact h.askStop ‹_›
  · exact h

theorem State.InForm.haltIdle (h : s.InForm) : s.haltIdle.InForm :=
  h.abandonSewing.slowPositioner.modCase.brakeRequest.ite h.abandonSewing.slowPositioner.modCase

theorem State.InForm.serveRecover (h : s.InForm) : s.serveRecover.1.InForm := by
  unfold State.serveRecover
  split
  · exact h
  · exact okWith_inForm (h.modOuts.modCase.modPlayer (h.player.congr le_rfl rfl rfl rfl rfl)).holdRequest

theorem State.InForm.serveKeepFrame (h : s.InForm) (value : Nat) : (s.serveKeepFrame value).1.InForm := by
  unfold State.serveKeepFrame
  split
  · exact okWith_inForm <| h.modPlayer <| h.player.congr le_rfl rfl rfl rfl rfl
  · exact h

theorem State.InForm.servePreselect (h : s.InForm) (needle : Nat) : (s.servePreselect needle).1.InForm := by
  unfold State.servePreselect
  split
  · exact h
  · split
    · exact h
    · exact okWith_inForm <| h.modPlayer <| h.player.congr le_rfl rfl rfl rfl rfl

theorem State.InForm.serveSeqEdit (h : s.InForm) (design first count : Nat) (entries : List Byte) :
    (s.serveSeqEdit design first count entries).1.InForm := by
  unfold State.serveSeqEdit
  split
  · exact h
  · split
    · exact h
    · split
      · exact h
      · split
        · exact h
        · exact okWith_inForm h.modStore

theorem State.InForm.serveNeedleGo (h : s.InForm) (needle : Nat) : (s.serveNeedleGo needle).1.InForm := by
  unfold State.serveNeedleGo
  split
  · exact h
  · exact okWith_inForm <| h.modCase.modCase.holdRequest.ite h.modCase.modCase

theorem State.InForm.setsWritten (h : s.InForm) (g : Governor) : (s.setsWritten g).InForm := h.modGov.ite h.modGov.modShaft

theorem State.InForm.serveSetMotion (h : s.InForm) (settings : List Nat) : (s.serveSetMotion settings).1.InForm := by
  unfold State.serveSetMotion
  simp only []
  split
  · exact h
  · exact okWith_inForm (h.setsWritten _)

theorem State.InForm.serveSetProfile (h : s.InForm) (points : List Nat) : (s.serveSetProfile points).1.InForm := by
  unfold State.serveSetProfile
  simp only []
  split
  · exact h
  · exact okWith_inForm (h.setsWritten _)

theorem State.InForm.serveSetOutput (h : s.InForm) (kind head mode polarity : Nat) :
    (s.serveSetOutput kind head mode polarity).1.InForm := by
  unfold State.serveSetOutput
  split
  · split
    · exact h
    · split
      · exact h
      · exact okWith_inForm h.modOuts
  · exact h

theorem State.InForm.serveNeedleProfile (h : s.InForm) (needle monitor base k rlo rhi b f : Nat) :
    (s.serveNeedleProfile needle monitor base k rlo rhi b f).1.InForm := by
  unfold State.serveNeedleProfile
  split
  · exact h
  · split
    · exact h
    · exact okWith_inForm h.modThread

theorem State.InForm.serveThreadPolicy (h : s.InForm) (onBreak onBobbin : Nat) :
    (s.serveThreadPolicy onBreak onBobbin).1.InForm := by
  unfold State.serveThreadPolicy
  split
  · exact okWith_inForm h.modThread
  · exact h

theorem State.InForm.serveCaptureArm (h : s.InForm) (head : Nat) : (s.serveCaptureArm head).1.InForm := by
  unfold State.serveCaptureArm
  split
  · exact h
  · exact okWith_inForm h.modThread

theorem State.InForm.serveEnable (h : s.InForm) (mask : Nat) (on : Bool) : (s.serveEnable mask on).1.InForm := by
  unfold State.serveEnable
  split
  · exact h
  · exact okWith_inForm h.modHeads

theorem State.InForm.serveRepair (h : s.InForm) (mask : Nat) : (s.serveRepair mask).1.InForm := by
  have hselected : (s.modHeads fun hs => { hs with selection := some mask }).InForm := h.modHeads
  have htaken := (hselected.modFrame (f := Frame.take) (hselected.frame.congr rfl rfl rfl)).modOuts (f := Outputs.allAuto)
  unfold State.serveRepair
  split
  · exact h
  · show (s.repairNow mask).InForm
    unfold State.repairNow
    simp only []
    split
    · exact hselected.plannedStop
    · exact htaken.passBegin
    · exact htaken.passBegin
    all_goals exact hselected

theorem State.InForm.serveRepairEnd (h : s.InForm) : s.serveRepairEnd.1.InForm := by
  unfold State.serveRepairEnd
  split
  · exact okWith_inForm h.leavePass.refill
  · exact h

theorem State.InForm.serveRepairCancel (h : s.InForm) (mask : Nat) : (s.serveRepairCancel mask).1.InForm := by
  unfold State.serveRepairCancel
  split
  · exact h
  · split
    · exact h
    · split
      · exact h
      · exact okWith_inForm h.removeRecords

theorem State.InForm.serveRepairSetup (h : s.InForm) (overlap trim : Nat) : (s.serveRepairSetup overlap trim).1.InForm := by
  unfold State.serveRepairSetup
  split
  · exact h
  · exact okWith_inForm h.modHeads

theorem State.InForm.restartNow (h : s.InForm) : s.restartNow.InForm := by
  have hframe : s.restartFrame.InForm := by
    have hstopped := h.stopFrame (cause := .restart)
    exact hstopped.modFrame (hstopped.frame.congr rfl rfl rfl)
  have hplayer : ((s.restartFrame.modStore Store.restart).modPlayer fun p => .powerOn p.keepFrame).InForm :=
    hframe.modStore.modPlayer (Player.inForm_of_rest (Nat.zero_le _) rfl rfl rfl)
  have hshaft : s.restartFrame.restartBlocks.restartShaft.InForm :=
    hplayer.modGov.modThread.modHeads.modCase.brakeRequest.toOff
  have hnotices : ∀ (f : Outputs → Outputs), (((s.restartFrame.restartBlocks.restartShaft.modOuts f).modEv
      Events.restart).modLink fun l => { l with notices := [] }).InForm := fun f =>
    hshaft.modOuts.modEv.modLink ⟨hshaft.link.requests, Nat.zero_le _⟩
  exact State.InForm.foldl (fun _ n ht => ht.latchLevel n) _ (hnotices _)

/-! ### Every request and every command -/

theorem State.InForm.serve (h : s.InForm) (i : Instr) : (s.serve i).1.InForm := by
  cases i
  case restart => simpa only [State.serve, okWith] using h.restartNow
  case notifyOn | notifyOff | eventsClear => exact okWith_inForm h.modEv
  case setInput => exact h.serveSetInput ..
  case inputClear => exact h.serveInputClear _
  case dsnOpen => unfold State.serve State.serveDsnOpen; simp only []; (repeat' split) <;> simp [refuse, h]
  case dsnBlock => exact h.serveDsnBlock ..
  case dsnClose => exact h.serveDsnClose ..
  case dsnDrop => unfold State.serve State.serveDsnDrop; simp only []; (repeat' split) <;> simp [refuse, okWith, h]
  case dsnInfo => unfold State.serve State.serveDsnInfo; simp only []; (repeat' split) <;> simp [refuse, okWith, h]
  case arm => exact h.serveArm ..
  case disarm => exact h.serveDisarm
  case start => exact h.serveStart
  case stop => exact h.serveStop
  case resume => exact h.serveResume
  case halt => exact h.haltIdle.ite h.reportFault
  case recover => exact h.serveRecover
  case keepFrame => exact h.serveKeepFrame _
  case preselect => exact h.servePreselect _
  case seqEdit => exact h.serveSeqEdit ..
  case needleGo => exact h.serveNeedleGo _
  case setMotion => exact h.serveSetMotion _
  case setProfile => exact h.serveSetProfile _
  case speed => exact okWith_inForm h.modGov
  case setOutput => exact h.serveSetOutput ..
  case frameGo => exact h.serveFrameGo ..
  case frameHome => exact h.serveFrameHome
  case frameTrace => exact h.serveFrameTrace
  case framePark => exact h.serveFramePark
  case setFrame => exact h.serveSetFrame ..
  case setHoop => exact h.serveSetHoop ..
  case hoopSelect => exact h.serveHoopSelect _
  case needleProfile => exact h.serveNeedleProfile ..
  case threadPolicy => exact h.serveThreadPolicy ..
  case captureArm => exact h.serveCaptureArm _
  case captureRead => exact okWith_inForm h.modThread
  case headsOn | headsOff => exact h.serveEnable ..
  case repair => exact h.serveRepair _
  case repairEnd => exact h.serveRepairEnd
  case repairCancel => exact h.serveRepairCancel _
  case repairSetup => exact h.serveRepairSetup ..
  all_goals exact h

theorem inForm_linkKept : LinkKept State.InForm where
  settle _ h := h.settle
  serve _ i _ h := h.serve i
  latch _ _ _ h := h.latch
  link _ _ hf h := h.modLink (hf h.link)
  choices _ _ h := h.congr rfl rfl rfl

/-- R184: every block stands at its reset values. -/
theorem State.resetAll_inForm (s : State) (straps : Straps) (cause : ResetCause) : (s.resetAll straps cause).InForm := by
  refine (State.inForm_iff _).2 ⟨⟨Nat.zero_le _, Nat.zero_le _⟩, Player.inForm_of_rest (Nat.zero_le _) rfl rfl rfl, ?_⟩
  have hrange : (Frame.powerOn true true).InRange := by constructor <;> decide
  exact hrange.congr rfl rfl rfl

theorem Frame.InRange.setReady {f : Frame} (h : f.InRange) (a : Axis) (ready : Bool) : (f.setReady a ready).InRange := by
  cases a <;> exact h.congr rfl rfl rfl

theorem State.InForm.event (h : s.InForm) {f : State → State} (hf : s.InForm → (f s).InForm) : (s.event f).InForm :=
  inForm_linkKept.event hf h

theorem State.InForm.exec {t : State} {c : Instr} (h : s.InForm) (he : Machine.exec c s = .next t) : t.InForm := by
  by_cases hlink : ofLink c = true
  · exact inForm_linkKept.exec hlink he h
  · cases c
    case powerOnReset => cases he; exact s.resetAll_inForm _ _
    case resetAssert | resetRelease => cases he; exact (s.resetAll_inForm s.straps .line).congr rfl rfl rfl
    case inputLineChange line high => cases he; exact (h.rawLine line high).event fun h => h.followUnfiltered line
    case inputFilterSettled n => cases he; exact h.event fun h => h.settleInput n
    case estopAssertion => cases he; exact (h.rawLine 32 false).event fun h => h.estopAssert
    case estopRelease => cases he; exact (h.rawLine 32 true).event fun h => h.modEv
    case axisDriveNotReady a => cases he; exact (h.modFrame (h.frame.setReady a false)).ite (h.axisLost a).settle
    case axisDriveReady a => cases he; exact (h.modFrame (h.frame.setReady a true)).event id
    case shaftDriveNotReady => cases he; exact h.modShaft.ite h.driveLost.settle
    case shaftDriveReady => cases he; exact h.modShaft.event id
    case encoderCount forward t => cases he; exact h.modShaft.ite (h.count forward t).settle
    case indexPulse forward period => cases he; exact h.event fun h => h.index forward period
    case speedTimeout => cases he; exact h.event fun h => h.modShaft
    case stallTimeout => cases he; exact h.event fun h => h.stalled
    case shaftStill => cases he; exact h.modShaft.ite h.stillNow.settle
    case feedPulse n => cases he; exact h.event fun h => h.modThread.ite h
    case caseCodeLineChange code => cases he; exact h.modCase.event id
    case caseCodeSettled => cases he; exact h.event fun h => h.codeSettled
    case caseSettleExpiry => cases he; exact h.event fun h => h.settleExpired
    case caseTimeout => cases he; exact h.event fun h => h.caseTimedOut
    case axisStep a => cases he; exact h.event fun h => h.axisStepNow a
    case homingSearchLimit => cases he; exact h.event fun h => h.homingLimit
    all_goals exact absurd rfl hlink

end

/-- Settles O7: the front command keeps the form, and a millisecond touches the timers of the case and the shaft only. -/
theorem stepKeepsQueuesAndChains : Obligations.StepKeepsQueuesAndChains := by
  intro s t h hstep
  cases hp : s.pending with
  | nil =>
    rw [step_empty s hp] at hstep
    cases hstep
    exact h.modCase.modShaft
  | cons c rest =>
    rw [step_front s c rest hp] at hstep
    have hrest : State.InForm { s with pending := rest } := h.congr rfl rfl rfl
    exact hrest.exec hstep

end Sys2Proof.Machine
end

section
/-! PROOF. The link interface by itself: a step, the phases of the receiver, the request queue, the transmitter, and the
event flags: the obligations O1, O4, O5, O6 and O8. -/

namespace Sys2Proof.Machine

/-- Settles O1. -/
theorem stepRunsTheFrontCommand : Obligations.StepRunsTheFrontCommand :=
  fun s => ⟨fun c rest h => step_front s c rest h, fun h => step_empty s h⟩

/-! ### What leaves nothing new waiting -/

@[simp] theorem State.modLink_quiet (s : State) (f : Link → Link) : (s.modLink f).quiet = s.quiet :=
  State.quiet_congr _ _ rfl rfl rfl rfl rfl
@[simp] theorem State.modEv_quiet (s : State) (f : Events → Events) : (s.modEv f).quiet = s.quiet :=
  State.quiet_congr _ _ rfl rfl rfl rfl rfl
@[simp] theorem State.modOuts_quiet (s : State) (f : Outputs → Outputs) : (s.modOuts f).quiet = s.quiet :=
  State.quiet_congr _ _ rfl rfl rfl rfl rfl
@[simp] theorem State.modThread_quiet (s : State) (f : Thread → Thread) : (s.modThread f).quiet = s.quiet :=
  State.quiet_congr _ _ rfl rfl rfl rfl rfl
@[simp] theorem State.modHeads_quiet (s : State) (f : Heads → Heads) : (s.modHeads f).quiet = s.quiet :=
  State.quiet_congr _ _ rfl rfl rfl rfl rfl

/-- A latching sets a flag and may offer a notice. -/
theorem State.latch_eq (s : State) (e : Event) (detail : List Byte) :
    s.latch e detail = { s with
      ev := { s.ev with flags := s.ev.flags ||| e.bit }
      link := if s.ev.subscribed &&& e.bit ≠ 0 then Link.offer ⟨e.number, detail⟩ s.link else s.link } := by
  unfold State.latch
  simp only []
  split <;> rfl

@[simp] theorem State.latch_quiet (s : State) (e : Event) (detail : List Byte) : (s.latch e detail).quiet = s.quiet := by
  rw [s.latch_eq]
  exact State.quiet_congr _ _ rfl rfl rfl rfl rfl

/-- A request whose block answers with `t` and leaves nothing waiting: the reply is placed in `t`. -/
theorem exec_served {s t : State} {i : Instr} {p : List Byte} (h : s.ready = true) (hi : isRequest i = true)
    (hc : i.counted = true) (hs : s.takingOn.serve i = (t.takingOn, p)) (hq : t.quiet = true) :
    exec i s = .next (t.replied ((frameOf i).ty + 0x80) p) := by
  obtain ⟨hfree, -⟩ := s.ready_iff.1 h
  rw [exec_of_isRequest s i hi, s.request_served _ i p hfree hc hs (by rwa [State.takingOn_quiet]), State.takingOn_replied]

/-! ### The receiver (R174) -/

@[simp] theorem State.toPhase_quiet (s : State) (r : Receiver) : (s.toPhase r).quiet = s.quiet := s.modLink_quiet _

@[simp] theorem State.discard_quiet (s : State) (e : LinkFault) : (s.discard e).quiet = s.quiet := by
  simp [State.discard, State.linkError]

theorem exec_byteReceived (s : State) (b : Byte) (framed : Bool) :
    exec (.byteReceived b framed) s = .next (s.event fun t => t.receiveByte b framed) := by rfl

theorem exec_linkGapTimeout (s : State) : exec .linkGapTimeout s = .next (s.event State.gapNow) := by rfl

section
variable {s : State} (hheld : s.resetHeld = false) (hquiet : s.quiet = true)
include hheld hquiet

/-- A byte that leaves nothing waiting does what the receiver does with it. -/
theorem State.byteReceived_eq {b : Byte} {framed : Bool} {t : State} (ht : s.receiveByte b framed = t)
    (hq : t.quiet = s.quiet) : exec (.byteReceived b framed) s = .next t := by
  subst ht
  rw [exec_byteReceived, State.event_quiet _ _ hheld (hq.trans hquiet)]

theorem State.byteReceived_phase {b : Byte} {r : Receiver} (ht : s.goodByte b = s.toPhase r) :
    exec (.byteReceived b true) s = .next (s.toPhase r) :=
  State.byteReceived_eq hheld hquiet ht (s.toPhase_quiet r)

theorem State.byteReceived_discard {b : Byte} {e : LinkFault} (ht : s.goodByte b = s.discard e) :
    exec (.byteReceived b true) s = .next (s.discard e) :=
  State.byteReceived_eq hheld hquiet ht (s.discard_quiet e)

theorem State.byteReceived_framing {b : Byte} :
    exec (.byteReceived b false) s = .next (if s.link.receiver = .hunt then s else s.discard .framing) := by
  refine State.byteReceived_eq hheld hquiet rfl ?_
  split
  · rfl
  · exact s.discard_quiet _

theorem State.linkGapTimeout_eq :
    exec .linkGapTimeout s = .next (if s.link.receiver = .hunt then s else s.discard .gap) := by
  have hq : s.gapNow.quiet = true := by
    unfold State.gapNow
    split
    · exact hquiet
    · rwa [s.discard_quiet]
  rw [exec_linkGapTimeout, State.event_quiet _ _ hheld hq]
  rfl

end

/-- Settles O4: each phase of the receiver is one branch of what it does with a byte. -/
theorem receiverPhases : Obligations.ReceiverPhases := by
  intro s b hheld hquiet phase discarded
  have good {r : Receiver} := State.byteReceived_phase hheld hquiet (b := b) (r := r)
  have bad {e : LinkFault} := State.byteReceived_discard hheld hquiet (b := b) (e := e)
  refine ⟨fun hr => ?hunt, fun hr => good (by simp [State.goodByte, hr]), fun lo hr => ?length,
    fun hr => good (by simp [State.goodByte, hr]),
    fun len hlen hr => good (by simp [State.goodByte, hr, Nat.ne_of_gt hlen]), fun len ty taken hr => ?payload,
    fun ty taken hr => good (by simp [State.goodByte, hr]), fun ty taken lo hr hcheck => ?check, ?framing, ?gap⟩
  case hunt =>
    split
    · exact good (by simp only [State.goodByte, hr]; exact if_pos ‹_›)
    · exact State.byteReceived_eq hheld hquiet (by
        simp only [State.receiveByte, State.goodByte, hr, if_true]; exact if_neg ‹_›) rfl
  case length =>
    split
    · exact good (by simp only [State.goodByte, hr]; rw [if_neg (by omega)])
    · exact bad (by simp only [State.goodByte, hr]; rw [if_pos (by omega)])
  case payload =>
    split
    · exact good (by simp only [State.goodByte, hr]; rw [if_pos ‹_›])
    · exact good (by simp only [State.goodByte, hr]; rw [if_neg ‹_›])
  case check => exact bad (by simp only [State.goodByte, hr, State.frameChecked]; rw [if_neg hcheck])
  case framing =>
    rw [State.byteReceived_framing hheld hquiet]
    split <;> rfl
  case gap =>
    rw [State.linkGapTimeout_eq hheld hquiet]
    split <;> rfl

/-! ### The request queue (R175, R177) -/

/-- R177: a TYPE that is not assigned is read as unknown. -/
theorem decodeRequest_of_unassigned {ty : Nat} (h : assignedTypes.contains ty = false) (p : List Byte) :
    decodeRequest ty p = .unknown := by
  unfold decodeRequest
  split
  case h_52 => rfl
  all_goals exact absurd h (by decide)

theorem exec_unknownType (s : State) (ty : Nat) (payload : List Byte) :
    exec (.unknownType ty payload) s = .next (s.event fun t => t.offerFrame ⟨ty, payload⟩) := by rfl

/-- A request, of an assigned TYPE or not, that arrives with a reply in the slot is offered to the queue as its frame. -/
theorem exec_of_reply {s : State} {i : Instr} {ty : Nat} {payload : List Byte} (hi : encodeRequest i = some (ty, payload))
    (hreply : s.link.reply.isSome = true) : exec i s = .next (s.event fun t => t.offerFrame ⟨ty, payload⟩) := by
  cases i
  case unknownType => cases hi; rfl
  all_goals
    rw [exec_of_isRequest s _ (by simp only [isRequest, hi, Option.isSome_some])]
    unfold State.request State.event State.submit frameOf
    simp [hi, Option.isSome_iff_ne_none.1 hreply]

theorem State.ready_parts {s : State} (h : s.ready = true) :
    s.resetHeld = false ∧ s.link.requests = [] ∧ s.link.reply = none ∧ s.quiet = true := by
  obtain ⟨hfree, hquiet⟩ := s.ready_iff.1 h
  obtain ⟨h1, h2, h3⟩ := s.linkFree_iff.1 hfree
  exact ⟨h1, h2, h3, hquiet⟩

/-- R175: with the queue and the slot empty a frame is taken at once. -/
theorem State.offerFrame_of_empty {s : State} (hrequests : s.link.requests = []) (hreply : s.link.reply = none)
    (f : LinkFrame) : s.offerFrame f = s.takeFrame f := by
  have hlink : { s.link with requests := [] } = s.link := by rw [← hrequests]
  have hhead : (s.modLink fun l => { l with requests := l.requests ++ [f] }).takeHead = (s.modLink fun l => { l with requests := [] }).takeFrame f := by
    simp [State.takeHead, State.modLink, hreply, hrequests]
  have hsame : (s.modLink fun l => { l with requests := [] }) = s := by rw [State.modLink, hlink]
  rw [State.offerFrame, if_neg (by simp [hrequests]), hhead, hsame]

theorem frameOf_of_encodeRequest {i : Instr} {ty : Nat} {payload : List Byte}
    (hi : encodeRequest i = some (ty, payload)) : frameOf i = ⟨ty, payload⟩ := by
  simp [frameOf, hi]

/-- Settles O5. -/
theorem linkQueuesAndRefusesRequests : Obligations.LinkQueuesAndRefusesRequests := by
  refine ⟨fun s i ty payload hi hheld hquiet hreply => ?_, fun s i ty payload hready hi hcounted => ?_,
    fun s ty payload hready hty hassigned => ?_⟩
  · rw [exec_of_reply hi hreply]
    refine ⟨fun hroom => ?_, fun hfull => ?_⟩
    · have hqueued : s.offerFrame ⟨ty, payload⟩ = s.modLink fun l => { l with requests := l.requests ++ [⟨ty, payload⟩] } := by
        obtain ⟨r, hr⟩ := Option.isSome_iff_exists.1 hreply
        simp [State.offerFrame, Nat.not_le.2 hroom, State.takeHead, hr]
      rw [State.event_quiet _ _ hheld (by rw [hqueued, State.modLink_quiet, hquiet]), hqueued]
      rfl
    · have hlost : s.offerFrame ⟨ty, payload⟩ = s.latch .linkError [4] := by
        rw [State.offerFrame, if_pos hfull]
        rfl
      rw [State.event_quiet _ _ hheld (by rw [hlost, State.latch_quiet, hquiet]), hlost]
  · have hrequest : isRequest i = true := by
      cases i
      case unknownType => cases hcounted
      all_goals simp only [isRequest, hi, Option.isSome_some]
    rw [exec_of_isRequest s i hrequest, s.request_miscounted i hready hcounted, frameOf_of_encodeRequest hi]
    rfl
  · obtain ⟨hheld, hrequests, hreply, hquiet⟩ := State.ready_parts hready
    have htaken : s.offerFrame ⟨ty, payload⟩ = s.replied (unknownReply ty).ty (unknownReply ty).payload := by
      rw [State.offerFrame_of_empty hrequests hreply, State.takeFrame, decodeRequest_of_unassigned hassigned,
        ← State.placeReply_eq]
    rw [exec_unknownType, State.event_quiet _ _ hheld (by rw [htaken, State.replied_quiet, hquiet]), htaken, unknownReply]
    split <;> rfl

/-! ### The transmitter (R176) -/

theorem exec_frameSent (s : State) : exec .frameSent s = .next (s.event State.frameSentNow) := by rfl

/-- R176: the transmitter at the end of the frame it sends, and the head of the queue taken before or after its choice. -/
theorem State.takeHead_eq {s : State} {q : LinkFrame} {rest : List LinkFrame} (hreply : s.link.reply = none)
    (hq : s.link.requests = q :: rest) : s.takeHead = (s.modLink fun l => { l with requests := rest }).takeFrame q := by
  simp [State.takeHead, hreply, hq]

theorem State.event_of_running {s : State} (hheld : s.resetHeld = false) (f : State → State) :
    s.event f = (f s).settle := by
  simp [State.event, hheld]

/-- Settles O6. -/
theorem frameSentChoosesTheNext : Obligations.FrameSentChoosesTheNext := by
  intro s hheld hquiet
  have still {t : State} (ht : s.frameSentNow = t) (hq : t.quiet = s.quiet) : exec .frameSent s = .next t := by
    subst ht
    rw [exec_frameSent, State.event_quiet _ _ hheld (hq.trans hquiet)]
  have moving {t : State} (ht : s.frameSentNow = t) : exec .frameSent s = .next t.settle := by
    subst ht
    rw [exec_frameSent, State.event_of_running hheld]
  refine ⟨fun ht => still (by simp [State.frameSentNow, ht]) rfl, fun f ht => ?notice, fun f ht hq => ?alone,
    fun f q rest ht hq hn => ?taken, fun f q rest n ns ht hq hn => ?both⟩
  case notice =>
    refine still ?_ (State.quiet_congr _ _ rfl rfl rfl rfl rfl)
    cases hr : s.link.reply <;> cases hn : s.link.notices <;>
      simp [State.frameSentNow, ht, State.chooseNext, State.modLink, Link.choose, hr, hn]
  case alone =>
    refine still ?_ (State.quiet_congr _ _ rfl rfl rfl rfl rfl)
    cases hn : s.link.notices <;>
      simp [State.frameSentNow, ht, State.replySent, hq, State.chooseNext, State.modLink, Link.choose, hn]
  case taken =>
    refine moving ?_
    have hsent : s.frameSentNow = (s.modLink fun l => { l with reply := none, transmitter := .idle }).takeHead := by
      simp [State.frameSentNow, ht, State.replySent, hq, hn]
    rw [hsent]
    exact State.takeHead_eq rfl hq
  case both =>
    have hsent : s.frameSentNow = (if Config.takeFirst s.choices
        then State.takeHead { s with
          choices := s.choices + 1, link := { s.link with reply := none, transmitter := .idle } }
        else State.takeHead (State.chooseNext { s with
          choices := s.choices + 1, link := { s.link with reply := none, transmitter := .idle } })) := by
      simp [State.frameSentNow, ht, State.replySent, hq, hn, State.modLink]
    by_cases hfirst : Config.takeFirst s.choices = true
    · left
      refine moving ?_
      rw [hsent, if_pos hfirst]
      exact State.takeHead_eq rfl hq
    · right
      refine moving ?_
      have hchosen : State.chooseNext { s with
            choices := s.choices + 1, link := { s.link with reply := none, transmitter := .idle } } =
          { s with
            choices := s.choices + 1
            link := { s.link with reply := none, transmitter := .notice n.frame, notices := ns } } := by
        simp [State.chooseNext, State.modLink, Link.choose, hn]
      rw [hsent, if_neg hfirst, hchosen]
      exact State.takeHead_eq rfl hq

/-! ### The event flags (R168 to R170) -/

/-- R170, R176: the notices after an offer while the transmitter does not choose. -/
theorem Link.offer_of_busy {l : Link} (n : Notice) (h : l.transmitter ≠ .idle ∨ l.taking = true) :
    Link.offer n l = { l with notices := if l.notices.length < 8 then l.notices ++ [n] else l.notices } := by
  have hkept : ∀ k : Link, (k.transmitter ≠ .idle ∨ k.taking = true) → (if k.taking then k else k.choose) = k := by
    intro k hk
    split
    · rfl
    · rename_i htaking
      unfold Link.choose
      split
      · rename_i hidle; rcases hk with hk | hk <;> contradiction
      · rfl
      · rfl
  unfold Link.offer
  simp only []
  split
  · exact hkept _ h
  · exact hkept _ h

/-- R170, R176: an idle transmitter with nothing queued begins the notice offered. -/
theorem Link.offer_of_idle {l : Link} (n : Notice) (ht : l.transmitter = .idle) (hb : l.taking = false)
    (hr : l.reply = none) (hn : l.notices = []) : Link.offer n l = { l with transmitter := .notice n.frame } := by
  simp [Link.offer, Link.choose, ht, hb, hr, hn]

/-- Settles O8: a latching is an offer to the link, and the mask requests are served by the input and event unit. -/
theorem eventFlagsAndMasks : Obligations.EventFlagsAndMasks := by
  refine ⟨fun s e detail => ⟨fun hs => ?_, fun hs hbusy => ?_, fun hs ht hb hr hn => ?_⟩, fun s mask hready => ?_⟩
  · rw [s.latch_eq, if_neg (by simpa using hs)]
  · rw [s.latch_eq, if_pos hs, Link.offer_of_busy _ hbusy]
  · rw [s.latch_eq, if_pos hs, Link.offer_of_idle _ ht hb hr hn]
    rfl
  · obtain ⟨hfree, hquiet⟩ := s.ready_iff.1 hready
    have served (i : Instr) (f : Events → Events) (p : List Byte) (hi : isRequest i = true) (hc : i.counted = true)
        (hs : s.takingOn.serve i = ((s.modEv f).takingOn, p)) :
        exec i s = .next ((s.modEv f).replied ((frameOf i).ty + 0x80) p) :=
      exec_served hready hi hc hs (by rw [State.modEv_quiet, hquiet])
    exact ⟨served (.notifyOn mask) (fun e => { e with subscribed := s.ev.subscribed ||| BitVec.ofNat 16 mask }) _ rfl rfl rfl,
      served (.notifyOff mask) (fun e => { e with subscribed := s.ev.subscribed &&& ~~~BitVec.ofNat 16 mask }) _ rfl rfl rfl,
      served (.eventsClear mask) (fun e => { e with flags := s.ev.flags &&& ~~~BitVec.ofNat 16 mask }) _ rfl rfl rfl⟩

end Sys2Proof.Machine
end

section
/-! PROOF. The frames of requests: a request's frame is read back as the request (O2), and its bytes, one after another, do
what the request does (O3). -/

namespace Sys2Proof.Machine

/-! ### The fields of a payload -/

theorem fieldAt_leBytes {w v : Nat} (h : fitsBytes w v = true) (r : List Byte) : fieldAt (leBytes w v ++ r) 0 w = v := by
  rw [fieldAt, List.drop_zero, List.take_left' (leBytes_length w v), leNat_leBytes]
  exact Nat.mod_eq_of_lt (of_decide_eq_true h)

theorem fieldAt_leBytes_last {w v : Nat} (h : fitsBytes w v = true) : fieldAt (leBytes w v) 0 w = v := by
  simpa using fieldAt_leBytes h []

theorem drop_append_skip {l : List Byte} {off : Nat} (h : l.length ≤ off) (r : List Byte) :
    (l ++ r).drop off = r.drop (off - l.length) := by
  simp [List.drop_append, List.drop_of_length_le, h]

theorem fieldAt_append_skip {l : List Byte} {off : Nat} (h : l.length ≤ off) (r : List Byte) (len : Nat) :
    fieldAt (l ++ r) off len = fieldAt r (off - l.length) len := by
  rw [fieldAt, drop_append_skip h, fieldAt]

theorem unitsAt_append_skip {l : List Byte} {off : Nat} (h : l.length ≤ off) (r : List Byte) :
    unitsAt (l ++ r) off = unitsAt r (off - l.length) := by
  rw [unitsAt, fieldAt_append_skip h, unitsAt]

@[simp] theorem sBytes2_length (i : Int) : (sBytes2 i).length = 2 := leBytes_length 2 _

/-- R178: two's complement in two bytes. -/
theorem unitsAt_sBytes2 {i : Int} (h : fitsUnits i = true) (r : List Byte) : unitsAt (sBytes2 i ++ r) 0 = i := by
  have hi : -32768 ≤ i ∧ i < 32768 := of_decide_eq_true h
  rw [unitsAt, sBytes2, fieldAt_leBytes (decide_eq_true (by omega)), sOfNat2]
  split <;> omega

theorem unitsAt_sBytes2_last {i : Int} (h : fitsUnits i = true) : unitsAt (sBytes2 i) 0 = i := by
  simpa using unitsAt_sBytes2 h []

theorem words2_flatMap (l : List Nat) (hl : l.all (fitsBytes 2) = true) : words2 l.length (l.flatMap (leBytes 2)) = l := by
  induction l with
  | nil => rfl
  | cons v l ih =>
    simp only [List.all_cons, Bool.and_eq_true] at hl
    obtain ⟨hv, hl⟩ := hl
    simp only [List.length_cons, words2, List.flatMap_cons, List.take_left' (leBytes_length 2 v),
      List.drop_left' (leBytes_length 2 v), leNat_leBytes, Nat.mod_eq_of_lt (of_decide_eq_true hv), ih hl]

theorem records3_flatMap (l : List RawRecord) : records3 l.length (l.flatMap RawRecord.bytes) = l := by
  induction l with
  | nil => rfl
  | cons r l ih => simp [records3, RawRecord.bytes, ih]

theorem flatMap_leBytes_length (k : Nat) (l : List Nat) : (l.flatMap (leBytes k)).length = k * l.length := by
  induction l with
  | nil => rfl
  | cons v l ih => simp [ih]; ring

theorem flatMap_recordBytes_length (l : List RawRecord) : (l.flatMap RawRecord.bytes).length = 3 * l.length := by
  induction l with
  | nil => rfl
  | cons v l ih => simp [ih, RawRecord.bytes]; ring

theorem fixedLen_of_length {len : Nat} {p : List Byte} (i : Instr) (h : p.length = len) : fixedLen len p i = .request i := by
  simp [fixedLen, h]

theorem countedLen_eq {head unit count n : Nat} {p : List Byte} (i : Instr) (hp : p.length = head + unit * n) (hu : 0 < unit) :
    countedLen head unit count p i = if count = n then .request i else .badLength := by
  have hiff : head + unit * n = head + unit * count ↔ count = n := by
    constructor
    · intro h; exact (Nat.eq_of_mul_eq_mul_left hu (Nat.add_left_cancel h)).symm
    · rintro rfl; rfl
  simp only [countedLen, hp, hiff]
  rw [if_neg (by omega)]

/-- What the link makes of the frame of a request: its block's, when its counts fit. -/
def readBack (i : Instr) : Decoded := if i.counted then .request i else .badLength

/-- The frames of the counted requests are read back by their counts, all others by their length. -/
theorem decodeRequest_encodeRequest {i : Instr} {ty : Nat} {payload : List Byte} (hi : isRequest i = true) (hwf : i.wf = true)
    (he : encodeRequest i = some (ty, payload)) : decodeRequest ty payload = readBack i := by
  cases i
  case dsnOpen design declared blocks xmin xmax ymin ymax seqLen entries =>
    cases he
    simp only [Instr.wf, Bool.and_eq_true] at hwf
    simp only [decodeRequest, readBack, Instr.counted, decide_eq_true_eq]
    rw [countedLen_eq (n := entries.length) _ (by simp; omega) (by decide)]
    simp [fieldAt_leBytes, fieldAt_append_skip, drop_append_skip, unitsAt_append_skip, unitsAt_sBytes2, hwf]
  case dsnBlock design block count records =>
    cases he
    simp only [Instr.wf, Bool.and_eq_true] at hwf
    simp only [decodeRequest, readBack, Instr.counted, decide_eq_true_eq]
    rw [countedLen_eq (n := records.length) _ (by simp only [List.length_append, leBytes_length, flatMap_recordBytes_length]) (by decide)]
    simp only [fieldAt_leBytes, fieldAt_append_skip, drop_append_skip, leBytes_length, List.append_assoc, hwf,
      Nat.reduceLeDiff, Nat.reduceSub, List.drop_zero, Nat.le_refl]
    split
    · rename_i h
      rw [h, records3_flatMap]
    · rfl
  case seqEdit design first count entries =>
    cases he
    simp only [Instr.wf, Bool.and_eq_true] at hwf
    simp only [decodeRequest, readBack, Instr.counted, decide_eq_true_eq]
    rw [countedLen_eq (n := entries.length) _ (by simp; omega) (by decide)]
    simp [fieldAt_leBytes, fieldAt_append_skip, drop_append_skip, hwf]
  case setMotion settings =>
    cases he
    simp only [Instr.wf, Bool.and_eq_true] at hwf
    simp only [decodeRequest, readBack, Instr.counted, decide_eq_true_eq, fixedLen, flatMap_leBytes_length]
    split
    · rename_i h
      have hlen : settings.length = 13 := by omega
      rw [if_pos hlen, ← hlen, words2_flatMap _ hwf.1]
    · rw [if_neg (by omega)]
  case setProfile points =>
    cases he
    simp only [Instr.wf, Bool.and_eq_true] at hwf
    simp only [decodeRequest, readBack, Instr.counted, decide_eq_true_eq, fixedLen, flatMap_leBytes_length]
    split
    · rename_i h
      have hlen : points.length = 17 := by omega
      rw [if_pos hlen, ← hlen, words2_flatMap _ hwf.1]
    · rw [if_neg (by omega)]
  case unknownType => cases hi
  all_goals cases he
  all_goals
    simp only [Instr.wf, Bool.and_eq_true] at hwf
    refine (fixedLen_of_length _ (by simp)).trans ?_
    simp [readBack, Instr.counted, fieldAt_leBytes, fieldAt_leBytes_last, fieldAt_append_skip, unitsAt_append_skip,
      unitsAt_sBytes2, unitsAt_sBytes2_last, hwf]

/-- R185: a TYPE is one byte. -/
theorem type_lt_of_encodeRequest {i : Instr} {ty : Nat} {payload : List Byte} (hi : isRequest i = true)
    (he : encodeRequest i = some (ty, payload)) : ty < 256 := by
  cases i
  case unknownType => cases hi
  all_goals cases he
  all_goals decide

/-- Settles O2. -/
theorem requestFrameReadsBack : Obligations.RequestFrameReadsBack := by
  intro i ty payload hwf he
  cases hi : isRequest i
  · cases i
    case unknownType =>
      cases he
      simp only [Instr.wf, Bool.and_eq_true, Bool.not_eq_true', decide_eq_true_eq] at hwf
      obtain ⟨⟨hty, hunassigned⟩, -⟩ := hwf
      exact ⟨of_decide_eq_true hty, decodeRequest_of_unassigned hunassigned _⟩
    all_goals simp [isRequest, he] at hi
  · refine ⟨type_lt_of_encodeRequest hi he, (decodeRequest_encodeRequest hi hwf he).trans ?_⟩
    cases i
    case unknownType => cases hi
    all_goals rfl

/-! ### The bytes of a frame -/

theorem exec_receiveFrame {s : State} (bytes : List Byte) (hheld : s.resetHeld = false) :
    exec (.receiveFrame bytes) s = .next (s.receiveBytes bytes) := by
  have : exec (.receiveFrame bytes) s = .next (if s.resetHeld then s else s.receiveBytes bytes) := by rfl
  simp [this, hheld]

theorem State.receiveBytes_append (s : State) (l m : List Byte) :
    s.receiveBytes (l ++ m) = (s.receiveBytes l).receiveBytes m := List.foldl_append

theorem State.toPhase_of_receiver {s : State} {r : Receiver} (h : s.link.receiver = r) : s.toPhase r = s := by
  subst h
  rfl

theorem toNat_ofNat_two_bytes {n : Nat} (h : n < 65536) :
    (BitVec.ofNat 8 n).toNat + 256 * (BitVec.ofNat 8 (n / 256)).toNat = n := by
  simp only [BitVec.toNat_ofNat]
  omega

section
variable {s : State} (hquiet : s.quiet = true)
include hquiet

/-- In the middle of a frame a byte leads to the next phase of the receiver. -/
theorem State.receiveByte_of_phase {r r' : Receiver} {b : Byte} (h : (s.toPhase r).goodByte b = s.toPhase r') :
    ((s.toPhase r).receiveByte b true).settle = s.toPhase r' := by
  rw [State.receiveByte, if_pos rfl, h, State.settle_of_quiet _ (by rwa [State.toPhase_quiet])]

/-- The PAYLOAD, byte after byte, from what has been taken of it. -/
theorem State.receiveBytes_payload (len ty : Nat) (taken p : List Byte) (hp : p ≠ []) (hlen : taken.length + p.length = len) :
    (s.toPhase (.payload len ty taken)).receiveBytes p = s.toPhase (.check ty (taken ++ p) none) := by
  induction p generalizing taken with
  | nil => contradiction
  | cons b p ih =>
    rw [List.length_cons] at hlen
    by_cases hlast : p = []
    · subst hlast
      refine State.receiveByte_of_phase hquiet ?_
      show (if taken.length + 1 < len then _ else _) = _
      rw [if_neg (by simp only [List.length_nil] at hlen; omega)]
      rfl
    · have hpos : 0 < p.length := List.length_pos_of_ne_nil hlast
      have hmore : ((s.toPhase (.payload len ty taken)).receiveByte b true).settle =
          s.toPhase (.payload len ty (taken ++ [b])) := by
        refine State.receiveByte_of_phase hquiet ?_
        show (if taken.length + 1 < len then _ else _) = _
        rw [if_pos (by omega)]
        rfl
      calc (s.toPhase (.payload len ty taken)).receiveBytes (b :: p)
          = (((s.toPhase (.payload len ty taken)).receiveByte b true).settle).receiveBytes p := rfl
        _ = s.toPhase (.check ty (taken ++ [b] ++ p) none) := by
            rw [hmore, ih (taken ++ [b]) hlast (by simp; omega)]
        _ = s.toPhase (.check ty (taken ++ b :: p) none) := by simp

/-- R174: 0xC3, LEN and TYPE of a frame within the length. -/
theorem State.receiveBytes_header {len ty : Nat} (hlen : len ≤ 300) (hty : ty < 256) :
    (s.toPhase .hunt).receiveBytes (0xC3 :: b2 len ++ b1 ty) =
      s.toPhase (if len = 0 then .check ty [] none else .payload len ty []) := by
  have hstart : ((s.toPhase .hunt).receiveByte 0xC3 true).settle = s.toPhase (.length none) :=
    State.receiveByte_of_phase hquiet rfl
  have hlow (b : Byte) : ((s.toPhase (.length none)).receiveByte b true).settle = s.toPhase (.length (some b)) :=
    State.receiveByte_of_phase hquiet rfl
  have hhigh : ((s.toPhase (.length (some (BitVec.ofNat 8 len)))).receiveByte (BitVec.ofNat 8 (len / 256)) true).settle =
      s.toPhase (.type len) := by
    refine State.receiveByte_of_phase hquiet ?_
    show (if 300 < (BitVec.ofNat 8 len).toNat + 256 * (BitVec.ofNat 8 (len / 256)).toNat then _
      else s.toPhase (.type ((BitVec.ofNat 8 len).toNat + 256 * (BitVec.ofNat 8 (len / 256)).toNat))) = _
    rw [toNat_ofNat_two_bytes (by omega), if_neg (by omega)]
  have htype : ((s.toPhase (.type len)).receiveByte (BitVec.ofNat 8 ty) true).settle =
      s.toPhase (if len = 0 then .check ty [] none else .payload len ty []) := by
    refine State.receiveByte_of_phase hquiet ?_
    have hb : (BitVec.ofNat 8 ty).toNat = ty := by simp only [BitVec.toNat_ofNat]; omega
    show (if len = 0 then s.toPhase (.check (BitVec.ofNat 8 ty).toNat [] none)
      else s.toPhase (.payload len (BitVec.ofNat 8 ty).toNat [])) = _
    rw [hb]
    split <;> rfl
  show ((((((((s.toPhase .hunt).receiveByte 0xC3 true).settle).receiveByte (BitVec.ofNat 8 len) true).settle).receiveByte
    (BitVec.ofNat 8 (len / 256)) true).settle).receiveByte (BitVec.ofNat 8 ty) true).settle = _
  rw [hstart, hlow, hhigh, htype]

/-- R173, R174: both CHECK bytes of a good frame. -/
theorem State.receiveBytes_check (ty : Nat) (p : List Byte) :
    (s.toPhase (.check ty p none)).receiveBytes (b2 (frameCheck (LinkFrame.checked ⟨ty, p⟩)).toNat) =
      ((s.toPhase .hunt).offerFrame ⟨ty, p⟩).settle := by
  generalize hv : (frameCheck (LinkFrame.checked ⟨ty, p⟩)).toNat = v
  have hfits : v < 65536 := hv ▸ (frameCheck (LinkFrame.checked ⟨ty, p⟩)).isLt
  have hlow : ((s.toPhase (.check ty p none)).receiveByte (BitVec.ofNat 8 v) true).settle =
      s.toPhase (.check ty p (some (BitVec.ofNat 8 v))) := State.receiveByte_of_phase hquiet rfl
  show ((((s.toPhase (.check ty p none)).receiveByte (BitVec.ofNat 8 v) true).settle).receiveByte
    (BitVec.ofNat 8 (v / 256)) true).settle = _
  rw [hlow]
  show (if (frameCheck (LinkFrame.checked ⟨ty, p⟩)).toNat =
      (BitVec.ofNat 8 v).toNat + 256 * (BitVec.ofNat 8 (v / 256)).toNat then (s.toPhase .hunt).offerFrame ⟨ty, p⟩
    else _).settle = _
  rw [toNat_ofNat_two_bytes hfits, if_pos hv]

/-- R174: a good frame offers itself to the request queue. -/
theorem State.receiveBytes_frame {ty : Nat} {p : List Byte} (hty : ty < 256) (hlen : p.length ≤ 300)
    (hhunt : s.link.receiver = .hunt) :
    s.receiveBytes (LinkFrame.bytes ⟨ty, p⟩) = (s.offerFrame ⟨ty, p⟩).settle := by
  have hbytes : LinkFrame.bytes ⟨ty, p⟩ =
      (0xC3 :: b2 p.length ++ b1 ty) ++ (p ++ b2 (frameCheck (LinkFrame.checked ⟨ty, p⟩)).toNat) := by
    simp [LinkFrame.bytes, LinkFrame.checked]
  have hs : s = s.toPhase .hunt := (State.toPhase_of_receiver hhunt).symm
  have hpayload : (s.toPhase (if p.length = 0 then .check ty [] none else .payload p.length ty [])).receiveBytes p =
      s.toPhase (.check ty p none) := by
    cases p with
    | nil => rfl
    | cons b q => exact State.receiveBytes_payload hquiet _ ty [] (b :: q) (by simp) (by simp)
  calc s.receiveBytes (LinkFrame.bytes ⟨ty, p⟩)
      = ((s.toPhase .hunt).receiveBytes (0xC3 :: b2 p.length ++ b1 ty)).receiveBytes
          (p ++ b2 (frameCheck (LinkFrame.checked ⟨ty, p⟩)).toNat) := by
        rw [hbytes, State.receiveBytes_append, ← hs]
    _ = ((s.toPhase .hunt).offerFrame ⟨ty, p⟩).settle := by
        rw [State.receiveBytes_header hquiet hlen hty, State.receiveBytes_append, hpayload,
          State.receiveBytes_check hquiet]
    _ = (s.offerFrame ⟨ty, p⟩).settle := by rw [← hs]

end

/-- R175, R177: a request that comes as a command does what its frame does. -/
theorem State.submit_eq_offerFrame {s : State} {i : Instr} {ty : Nat} {payload : List Byte} (hi : isRequest i = true)
    (hwf : i.wf = true) (he : encodeRequest i = some (ty, payload)) : s.submit i = s.offerFrame ⟨ty, payload⟩ := by
  have hframe := frameOf_of_encodeRequest he
  unfold State.submit
  split
  · rename_i hempty
    simp only [Bool.and_eq_true, List.isEmpty_iff, Option.isNone_iff_eq_none] at hempty
    obtain ⟨hrequests, hreply⟩ := hempty
    rw [State.offerFrame_of_empty hrequests hreply, State.takeFrame, decodeRequest_encodeRequest hi hwf he, readBack, hframe]
    split <;> rfl
  · rw [hframe]

/-- Settles O3. -/
theorem receivedFrameActsAsItsRequest : Obligations.ReceivedFrameActsAsItsRequest := by
  intro s i ty payload hwf he hlen hheld hhunt hquiet
  obtain ⟨hty, -⟩ := requestFrameReadsBack i ty payload hwf he
  refine ⟨_, by rw [exec_receiveFrame _ hheld, State.receiveBytes_frame hquiet hty hlen hhunt], ?_⟩
  cases hi : isRequest i
  · cases i
    case unknownType => cases he; rw [exec_unknownType, State.event_of_running hheld]
    all_goals simp [isRequest, he] at hi
  · rw [exec_of_isRequest s i hi, State.request, State.event_of_running hheld, State.submit_eq_offerFrame hi hwf he]

end Sys2Proof.Machine
end

section
/-! PROOF. Requests that leave nothing waiting: the settings they store and what they report (O28, O29, O31, O36). -/

namespace Sys2Proof.Machine

theorem State.quiet_of_ready {s : State} (h : s.ready = true) : s.quiet = true := (s.ready_iff.1 h).2

/-- A request that its block answers without changing anything. -/
theorem exec_unchanged {s : State} {i : Instr} {p : List Byte} (h : s.ready = true) (hi : isRequest i = true)
    (hc : i.counted = true) (hs : s.takingOn.serve i = (s.takingOn, p)) :
    exec i s = .next (s.replied ((frameOf i).ty + 0x80) p) :=
  exec_served h hi hc hs (State.quiet_of_ready h)

/-- A request whose answer leaves alone what decides whether something waits. -/
theorem exec_stored {s t : State} {i : Instr} {p : List Byte} (h : s.ready = true) (hi : isRequest i = true)
    (hc : i.counted = true) (hs : s.takingOn.serve i = (t.takingOn, p)) (hnc : t.nc = s.nc)
    (hshaft : t.shaft.state = s.shaft.state) (herrand : t.player.errand = s.player.errand)
    (hmove : t.frame.move = s.frame.move) (hsewing : t.gov.move = s.gov.move) :
    exec i s = .next (t.replied ((frameOf i).ty + 0x80) p) :=
  exec_served h hi hc hs ((State.quiet_congr t s hnc hshaft herrand (by rw [hmove]) (by rw [hsewing])).trans
    (State.quiet_of_ready h))

/-! ### A request being taken changes the mark of it only (R176) -/

@[simp] theorem State.takingOn_store (s : State) : s.takingOn.store = s.store := rfl
@[simp] theorem State.takingOn_player (s : State) : s.takingOn.player = s.player := rfl
@[simp] theorem State.takingOn_gov (s : State) : s.takingOn.gov = s.gov := rfl
@[simp] theorem State.takingOn_shaft (s : State) : s.takingOn.shaft = s.shaft := rfl
@[simp] theorem State.takingOn_outs (s : State) : s.takingOn.outs = s.outs := rfl
@[simp] theorem State.takingOn_frame (s : State) : s.takingOn.frame = s.frame := rfl
@[simp] theorem State.takingOn_nc (s : State) : s.takingOn.nc = s.nc := rfl
@[simp] theorem State.takingOn_thread (s : State) : s.takingOn.thread = s.thread := rfl
@[simp] theorem State.takingOn_heads (s : State) : s.takingOn.heads = s.heads := rfl
@[simp] theorem State.takingOn_ev (s : State) : s.takingOn.ev = s.ev := rfl
@[simp] theorem State.takingOn_straps (s : State) : s.takingOn.straps = s.straps := rfl
@[simp] theorem State.takingOn_resetHeld (s : State) : s.takingOn.resetHeld = s.resetHeld := rfl
@[simp] theorem State.takingOn_pending (s : State) : s.takingOn.pending = s.pending := rfl
@[simp] theorem State.takingOn_choices (s : State) : s.takingOn.choices = s.choices := rfl

/-! ### KEEP_FRAME and PRESELECT (R24, R117) -/

/-- Settles O28. -/
theorem keepFrameAndPreselectAreStored : Obligations.KeepFrameAndPreselectAreStored := by
  intro s v hready
  constructor
  · split
    · rename_i hv
      rcases hv with rfl | rfl
      · exact exec_stored hready rfl rfl rfl rfl rfl rfl rfl rfl
      · exact exec_stored hready rfl rfl rfl rfl rfl rfl rfl rfl
    · rename_i hv
      have hflag : flagField v = none := by
        unfold flagField
        split <;> simp_all
      exact exec_unchanged hready rfl rfl (by simp only [State.serve, State.serveKeepFrame, hflag]; rfl)
  · have hserve : s.takingOn.serve (.preselect v) = if s.player.armed.isNone then refuse s.takingOn .wrongState
        else if s.straps.needles < v then refuse s.takingOn .badValue
        else okWith (s.takingOn.modPlayer fun p => { p with preselect := if v = 0 then none else some v })
          (o1 (if v = 0 then none else some v)) := rfl
    split
    · rename_i hnone
      exact exec_unchanged hready rfl rfl (by rw [hserve, hnone]; rfl)
    rename_i harmed
    rw [if_neg (by simpa using harmed)] at hserve
    split
    · rename_i habove
      exact exec_unchanged hready rfl rfl (by rw [hserve, if_pos habove]; rfl)
    rename_i habove
    rw [if_neg habove] at hserve
    split
    · rename_i hv
      exact exec_stored hready rfl rfl (by rw [hserve]; simp only [if_pos hv]; rfl) rfl rfl rfl rfl rfl
    · rename_i hv
      exact exec_stored hready rfl rfl (by rw [hserve]; simp only [if_neg hv]; rfl) rfl rfl rfl rfl rfl

/-- R167: outside RESET the E-STOP line is asserted while its filtered level is low. -/
theorem State.estop_of_running {s : State} (h : s.resetHeld = false) : s.estop = decide (s.ev.estop = some false) := by
  simp only [State.estop, h, Bool.false_eq_true, if_false]
  exact Bool.beq_eq_decide_eq _ _

/-! ### The requests that only report (R14, R15, R53, R85, R103, R120, R136, R159, R165) -/

/-- Settles O29: each of them answers with the state as it is. -/
theorem informationRequestsOnlyReport : Obligations.InformationRequestsOnlyReport := by
  refine ⟨fun leg rest slowing => rfl, fun s design hready => ?_⟩
  refine ⟨exec_unchanged hready rfl rfl rfl, ?info, exec_unchanged hready rfl rfl rfl,
    exec_unchanged hready rfl rfl rfl, ?outputs, exec_unchanged hready rfl rfl rfl, exec_unchanged hready rfl rfl rfl, ?heads⟩
  case info =>
    by_cases hd : design = 0
    · exact exec_unchanged hready rfl rfl (by simp only [State.serve, State.serveDsnInfo, if_pos hd]; rfl)
    · refine exec_unchanged hready rfl rfl ?_
      simp only [State.serve, State.serveDsnInfo, if_neg hd, State.takingOn_store]
      cases s.store.find design <;> rfl
  case outputs =>
    have hestop : s.takingOn.estop = decide (s.ev.estop = some false) := State.estop_of_running (State.ready_parts hready).1
    refine exec_unchanged hready rfl rfl ?_
    simp only [State.serve, State.serveOutputInfo, hestop]
    rfl
  case heads =>
    refine exec_unchanged hready rfl rfl ?_
    simp only [State.serve, State.serveHeadInfo, Heads.reportedSelection, State.takingOn_heads]
    cases s.heads.passEnd <;> rfl

/-! ### SPEED (R54) -/

/-- Settles O31. -/
theorem speedIsClampedAndStored : Obligations.SpeedIsClampedAndStored := by
  intro s rpm hready hordered
  have hclamp : (if rpm < s.gov.active.motion.sStop then s.gov.active.motion.sStop
      else if s.gov.active.motion.sMax < rpm then s.gov.active.motion.sMax else rpm) =
      clampNat s.gov.active.motion.sStop s.gov.active.motion.sMax rpm := by
    unfold clampNat
    split_ifs <;> omega
  simp only [hclamp]
  exact exec_stored hready rfl rfl rfl rfl rfl rfl rfl rfl

/-! ### The tables of the frame unit (R90, R91, R102) -/

/-- R178: a code above 1 is no flag. -/
theorem flagField_of_gt {n : Nat} (h : 1 < n) : flagField n = none := by
  unfold flagField
  split
  · omega
  · omega
  · rfl

theorem flagField_of_le {n : Nat} (h : n ≤ 1) : flagField n = some (decide (n = 1)) := by
  interval_cases n <;> rfl

/-- A flag is sent as the code that it came as. -/
theorem bFlag_of_le {n : Nat} (h : n ≤ 1) : bFlag (decide (n = 1)) = b1 n := by
  interval_cases n <;> rfl

/-- Settles O36. -/
theorem frameTablesAreStored : Obligations.FrameTablesAreStored := by
  intro s entry xmin xmax ymin ymax dirX dirY offX offY parkX parkY rPos hready travelX travelY bad box settings
  refine ⟨?hoop, ?select, ?frame⟩
  case hoop =>
    by_cases hbad : bad
    · rw [if_pos hbad]
      exact exec_unchanged hready rfl rfl (by simp only [State.serve, State.serveSetHoop]; rw [if_pos hbad]; rfl)
    rw [if_neg hbad]
    by_cases huse : entry = s.frame.hoop ∧ s.player.state ≠ .idle
    · rw [if_pos huse]
      exact exec_unchanged hready rfl rfl (by
        simp only [State.serve, State.serveSetHoop]; rw [if_neg hbad]; exact if_pos huse)
    · rw [if_neg huse]
      exact exec_stored hready rfl rfl (by
        simp only [State.serve, State.serveSetHoop]; rw [if_neg hbad]; exact if_neg huse) rfl rfl rfl rfl rfl
  case select =>
    by_cases hbad : 7 < entry
    · rw [if_pos hbad]
      exact exec_unchanged hready rfl rfl (by simp only [State.serve, State.serveHoopSelect]; rw [if_pos hbad]; rfl)
    rw [if_neg hbad]
    by_cases hstate : s.player.state ≠ .idle
    · rw [if_pos hstate]
      exact exec_unchanged hready rfl rfl (by
        simp only [State.serve, State.serveHoopSelect]; rw [if_neg hbad]; exact if_pos hstate)
    · rw [if_neg hstate]
      exact exec_stored hready rfl rfl (by
        simp only [State.serve, State.serveHoopSelect]; rw [if_neg hbad]; exact if_neg hstate) rfl rfl rfl rfl rfl
  case frame =>
    by_cases hbad : 1 < dirX ∨ 1 < dirY
    · rw [if_pos hbad]
      refine exec_unchanged hready rfl rfl ?_
      simp only [State.serve, State.serveSetFrame]
      rcases hbad with h | h
      · simp only [flagField_of_gt h]; rfl
      · simp only [flagField_of_gt h]
        cases flagField dirX <;> rfl
    rw [if_neg hbad]
    obtain ⟨hx, hy⟩ : dirX ≤ 1 ∧ dirY ≤ 1 := by omega
    by_cases hbusy : s.frame.owner = .positioner ∨ s.frame.move.isSome
    · rw [if_pos hbusy]
      refine exec_unchanged hready rfl rfl ?_
      simp only [State.serve, State.serveSetFrame, flagField_of_le hx, flagField_of_le hy]
      exact if_pos (by simpa [State.positionerBusy] using hbusy)
    · rw [if_neg hbusy]
      refine exec_stored hready rfl rfl ?_ rfl rfl rfl rfl rfl
      simp only [State.serve, State.serveSetFrame, flagField_of_le hx, flagField_of_le hy]
      exact if_neg (by simpa [State.positionerBusy] using hbusy)

/-! ### The settings of the thread monitor (R123, R124, R134, R135) -/

theorem mapFrom_eq {α β : Type} (n : Nat) (f : Nat → α → β) (l : List α) :
    mapFrom n f l = (l.zipIdx n).map fun e => f e.2 e.1 := by
  induction l generalizing n with
  | nil => rfl
  | cons a l ih => simp [mapFrom, ih]

theorem BreakPolicy.ofCode_code (p : BreakPolicy) : BreakPolicy.ofCode p.code = some p := by cases p <;> rfl

theorem BobbinPolicy.ofCode_code (p : BobbinPolicy) : BobbinPolicy.ofCode p.code = some p := by cases p <;> rfl

theorem BreakPolicy.ofCode_of_gt {n : Nat} (h : 1 < n) : BreakPolicy.ofCode n = none := by
  unfold BreakPolicy.ofCode
  split
  · omega
  · omega
  · rfl

theorem BobbinPolicy.ofCode_of_gt {n : Nat} (h : 1 < n) : BobbinPolicy.ofCode n = none := by
  unfold BobbinPolicy.ofCode
  split
  · omega
  · omega
  · rfl

/-- Settles O42. -/
theorem threadSettingsAreStored : Obligations.ThreadSettingsAreStored := by
  intro s hready
  refine ⟨?profile, fun onBreak onBobbin hbad => ?badPolicy, fun p q => ?policy,
    fun head => ?arm, ?read⟩
  case profile =>
    intro needle monitor base k rlo rhi b f entry
    by_cases hbad : 1 < monitor ∨ s.straps.needles < needle
    · rw [if_pos hbad]
      refine exec_unchanged hready rfl rfl ?_
      simp only [State.serve, State.serveNeedleProfile]
      by_cases hm : 1 < monitor
      · simp only [flagField_of_gt hm]; rfl
      · simp only [flagField_of_le (Nat.not_lt.1 hm)]
        exact if_pos (hbad.resolve_left hm)
    · rw [if_neg hbad]
      obtain ⟨hm, hn⟩ := not_or.1 hbad
      have hentry : NeedleProfile.clamped (decide (monitor = 1)) base k rlo rhi b f = entry := by
        simp only [NeedleProfile.clamped, clampNat, entry, Nat.zero_max]
      refine exec_stored hready rfl rfl ?_ rfl rfl rfl rfl rfl
      simp only [State.serve, State.serveNeedleProfile, flagField_of_le (Nat.not_lt.1 hm)]
      refine (if_neg hn).trans ?_
      simp only [mapFrom_eq, decide_eq_true_eq, hentry, NeedleProfile.bytes, okWith]
      have hflag : bFlag entry.monitor = b1 monitor := bFlag_of_le (Nat.not_lt.1 hm)
      rw [hflag]
      rfl
  case badPolicy =>
    refine exec_unchanged hready rfl rfl ?_
    simp only [State.serve, State.serveThreadPolicy]
    rcases hbad with h | h
    · simp only [BreakPolicy.ofCode_of_gt h]; rfl
    · simp only [BobbinPolicy.ofCode_of_gt h]
      cases BreakPolicy.ofCode onBreak <;> rfl
  case policy =>
    refine exec_stored hready rfl rfl ?_ rfl rfl rfl rfl rfl
    simp only [State.serve, State.serveThreadPolicy, BreakPolicy.ofCode_code, BobbinPolicy.ofCode_code]
    rfl
  case arm =>
    split
    · exact exec_unchanged hready rfl rfl (by simp only [State.serve, State.serveCaptureArm]; exact if_pos ‹_›)
    · exact exec_stored hready rfl rfl (by simp only [State.serve, State.serveCaptureArm]; exact if_neg ‹_›) rfl rfl rfl rfl rfl
  case read =>
    refine exec_stored hready rfl rfl ?_ rfl rfl rfl rfl rfl
    refine Prod.ext rfl ?_
    simp only [State.serve, State.serveCaptureRead, Thread.captureReport, State.takingOn_thread, okWith]
    cases s.thread.slot <;> rfl

end Sys2Proof.Machine
end

section
/-! PROOF. The requests that change the sequences, the head table, the outputs and the governor's sets (O30, O32, O33, O38,
O44, O45). -/

namespace Sys2Proof.Machine

/-! ### SEQ_EDIT (R118) -/

/-- R115: a block at or below the current one. -/
theorem Player.entered_iff (p : Player) (block : Nat) :
    p.entered block = true ↔ ∃ (b n : Nat), block ≤ b ∧ p.history[b]? = some (some n) := by
  simp only [Player.entered, List.any_eq_true, Option.isSome_iff_exists]
  constructor
  · rintro ⟨_, hmem, n, rfl⟩
    obtain ⟨k, hk⟩ := List.mem_iff_getElem?.1 hmem
    exact ⟨block + k, n, Nat.le_add_right _ _, by rwa [List.getElem?_drop] at hk⟩
  · rintro ⟨b, n, hb, hn⟩
    refine ⟨some n, List.mem_iff_getElem?.2 ⟨b - block, ?_⟩, n, rfl⟩
    rwa [List.getElem?_drop, Nat.add_sub_cancel' hb]

/-- Settles O38. -/
theorem seqEditReplacesEntries : Obligations.SeqEditReplacesEntries := by
  intro s design first count entries hready hcount answer named new
  have hcounted : Instr.counted (.seqEdit design first count entries) = true := decide_eq_true hcount
  have refused {p : List Byte} (hs : s.takingOn.serveSeqEdit design first count entries = (s.takingOn, p)) :
      answer = .next (s.replied 0xA9 p) := exec_unchanged hready rfl hcounted hs
  refine ⟨fun hnone => refused (by simp only [State.serveSeqEdit, State.takingOn_store, hnone]; rfl), fun d hd =>
    ⟨fun hbad => refused ?bad, ?good⟩⟩
  case bad =>
    simp only [State.serveSeqEdit, State.takingOn_store, State.takingOn_straps, hd]
    by_cases hnamed : named
    · have hseq : seqOf s.straps.needles entries = some new := seqOf_of_names hnamed
      simp only [hseq]
      rw [if_pos (by tauto)]
      rfl
    · have hseq : seqOf s.straps.needles entries = none := seqOf_of_not_names hnamed
      simp only [hseq]
      rfl
  intro hpos hfits hnamed entered
  have hseq : seqOf s.straps.needles entries = some new := seqOf_of_names hnamed
  have hgood : ¬(d.blocks < first + count ∨ count = 0) := by omega
  have hentered : s.player.entered first = true ↔ entered := s.player.entered_iff first
  refine ⟨fun harmed hused => refused ?_, fun hfree => ?_⟩
  · simp only [State.serveSeqEdit, State.takingOn_store, State.takingOn_straps, hd, hseq, if_neg hgood]
    exact if_pos ⟨harmed, hused.imp_right hentered.2⟩
  · refine exec_stored hready rfl hcounted ?_ rfl rfl rfl rfl rfl
    have hlen : new.length = count := by simp [new, hcount]
    simp only [State.serve, State.serveSeqEdit, State.takingOn_store, State.takingOn_straps, hd, hseq, if_neg hgood]
    refine (if_neg fun h => hfree ⟨h.1, h.2.imp_right hentered.1⟩).trans ?_
    simp only [spliceSeq, hlen]
    rfl

/-! ### Masks (R178) -/

theorem maskOf_testBit (l : List Bool) (i : Nat) : (maskOf l).testBit i = l.getD i false := by
  induction l generalizing i with
  | nil => simp [maskOf]
  | cons b l ih =>
    cases i with
    | zero => cases b <;> simp [maskOf, Nat.testBit_zero]
    | succ i =>
      have hhalf : ((if b then 1 else 0) + 2 * maskOf l) / 2 = maskOf l := by cases b <;> simp; omega
      rw [maskOf, Nat.testBit_succ, hhalf, ih]
      rfl

theorem maskOf_lt (l : List Bool) : maskOf l < 2 ^ l.length := by
  induction l with
  | nil => simp [maskOf]
  | cons b l ih =>
    rw [maskOf, List.length_cons, Nat.pow_succ]
    cases b <;> simp <;> omega

/-! ### HEADS_ON, HEADS_OFF and REPAIR_SETUP (R139, R158) -/

theorem Heads.enable_table (hs : Heads) (mask : Nat) (on : Bool) :
    (hs.enable mask on).table = (hs.table.zipIdx 0).map fun (p : Head × Nat) =>
      if mask.testBit p.2 then { p.1 with enabled := on } else p.1 := mapFrom_eq 0 _ _

/-- R139: the reply shows the flag of every head. -/
theorem Heads.enabledMask_shows (hs : Heads) :
    hs.enabledMask < 2 ^ hs.table.length ∧
      ∀ (i : Nat) (d : Head), hs.table[i]? = some d → hs.enabledMask.testBit i = d.enabled := by
  refine ⟨by simpa [Heads.enabledMask, Heads.mask] using maskOf_lt (hs.table.map Head.enabled), fun i d hd => ?_⟩
  rw [Heads.enabledMask, Heads.mask, maskOf_testBit]
  simp [List.getD_eq_getElem?_getD, hd]

/-- Settles O44. -/
theorem headSettingsAreStored : Obligations.HeadSettingsAreStored := by
  intro s mask hready hlen changed shows
  have refused (hbad : 2 ^ s.straps.heads ≤ mask) (on : Bool) :
      s.takingOn.serveEnable mask on = (s.takingOn, [3]) := if_pos (decide_eq_true hbad)
  have taken (hfit : mask < 2 ^ s.straps.heads) (on : Bool) :
      s.takingOn.serveEnable mask on =
        (({ s with heads := s.heads.enable mask on }).takingOn, 0 :: b2 (s.heads.enable mask on).enabledMask) :=
    if_neg fun h => absurd (of_decide_eq_true h) (Nat.not_le.2 hfit)
  have hshows (on : Bool) : shows (s.heads.enable mask on).enabledMask (changed on) := by
    have := (s.heads.enable mask on).enabledMask_shows
    rwa [Heads.enable_table] at this
  have htable (on : Bool) : s.heads.enable mask on = { s.heads with table := changed on } := by
    simp only [changed, ← Heads.enable_table]
    rfl
  refine ⟨fun hbad => ⟨exec_unchanged hready rfl rfl (refused hbad true), exec_unchanged hready rfl rfl (refused hbad false)⟩,
    fun hfit => ⟨⟨_, hshows true, ?enable⟩, ⟨_, hshows false, ?disable⟩⟩, fun overlap trim => ?setup⟩
  case enable =>
    rw [← htable true]
    exact exec_stored hready rfl rfl (taken hfit true) rfl rfl rfl rfl rfl
  case disable =>
    rw [← htable false]
    exact exec_stored hready rfl rfl (taken hfit false) rfl rfl rfl rfl rfl
  case setup =>
    split
    · exact exec_unchanged hready rfl rfl (by
        simp only [State.serve, State.serveRepairSetup, flagField_of_gt ‹_›]; rfl)
    · rename_i htrim
      refine exec_stored hready rfl rfl ?_ rfl rfl rfl rfl rfl
      simp only [State.serve, State.serveRepairSetup, flagField_of_le (Nat.not_lt.1 htrim), bFlag_of_le (Nat.not_lt.1 htrim),
        clampNat, Nat.zero_max]
      rfl

/-! ### REPAIR_CANCEL (R145) -/

/-- R16, R143: the pin follows the records that name the armed design. -/
theorem State.pinRepairs_eq (s : State) :
    s.pinRepairs = { s with
      store := { s.store with
        dir := s.store.dir.map fun (o : Option Design) => o.map fun (x : Design) =>
          if s.player.armed = some x.number then
            { x with repairPin := decide (∃ r ∈ s.heads.repairs, r.design = x.number) }
          else x } } := by
  cases harmed : s.player.armed with
  | none => simp [State.pinRepairs, harmed]
  | some n =>
    have hpin : ∀ x : Design, (if x.number = n then
          { x with repairPin := s.heads.repairs.any fun r => r.design == n } else x) =
        if some n = some x.number then
          { x with repairPin := decide (∃ r ∈ s.heads.repairs, r.design = x.number) } else x := by
      intro x
      by_cases hx : x.number = n
      · subst hx
        have hany : (s.heads.repairs.any fun r => r.design == x.number) =
            decide (∃ r ∈ s.heads.repairs, r.design = x.number) := by
          rw [Bool.eq_iff_iff]; simp
        rw [if_pos rfl, if_pos rfl, hany]
      · rw [if_neg hx, if_neg (by simpa using Ne.symm hx)]
    simp only [State.pinRepairs, harmed, State.modStore, Store.modDesign, hpin]

/-- R145: a pass is under way, being entered, or asked for. -/
theorem State.passHeld_iff (s : State) :
    s.passHeld = true ↔ s.player.mode = .repair ∨ (∃ d ∈ s.heads.table, d.role ≠ .none) ∨
      s.player.stopReason = some .repair := by
  simp [State.passHeld, Heads.inPass, or_assoc]

theorem mapFrom_getElem? {α β : Type} (n : Nat) (f : Nat → α → β) (l : List α) (i : Nat) :
    (mapFrom n f l)[i]? = (l[i]?).map (f (n + i)) := by
  induction l generalizing n i with
  | nil => rfl
  | cons a l ih =>
    cases i with
    | zero => rfl
    | succ i => rw [mapFrom, List.getElem?_cons_succ, ih, List.getElem?_cons_succ, Nat.add_right_comm, Nat.add_assoc]

/-- R145: the named heads become OK and their records go. -/
theorem State.removeRecords_eq (s : State) (gone : Nat → Bool) :
    s.removeRecords gone = { s with
      heads := { s.heads with
        repairs := removeRepairs gone s.heads.repairs
        table := mapFrom 1 (fun n h =>
          if gone n && (h.condition != .ok) then { h with condition := .ok, role := .none, start := none } else h)
            s.heads.table }
      store := { s.store with
        dir := s.store.dir.map fun (o : Option Design) => o.map fun (x : Design) =>
          if s.player.armed = some x.number then
            { x with repairPin := decide (∃ r ∈ removeRepairs gone s.heads.repairs, r.design = x.number) }
          else x } } := State.pinRepairs_eq _

theorem selects_iff (mask h : Nat) : selects mask h = true ↔ mask = 0 ∨ mask.testBit (h - 1) = true := by
  simp [selects, maskHas]

/-- Settles O45. -/
theorem repairCancelRemovesRecords : Obligations.RepairCancelRemovesRecords := by
  intro s mask hready hlen answer named gone held
  have hheld : s.passHeld = true ↔ held := s.passHeld_iff
  have hnamed (h : Nat) : selects mask h = true ↔ named h := selects_iff mask h
  have hselected : (s.heads.selected mask).isEmpty = true ↔ ∀ r ∈ s.heads.repairs, ¬named r.head := by
    simp only [Heads.selected, List.isEmpty_iff, List.filter_eq_nil_iff, hnamed]
  have refused {p : List Byte} (hs : s.takingOn.serveRepairCancel mask = (s.takingOn, p)) :
      answer = .next (s.replied 0xDC p) := exec_unchanged hready rfl rfl hs
  let removed : Nat → Bool := fun h => (s.heads.selected mask).any fun r => r.head == h
  have hremoved (h : Nat) : removed h = true ↔ gone h := by
    simp only [removed, Heads.selected, List.any_eq_true, List.mem_filter, hnamed, beq_iff_eq, gone]
    constructor
    · rintro ⟨r, ⟨hr, hn⟩, rfl⟩
      exact ⟨hn, r, hr, rfl⟩
    · rintro ⟨hn, r, hr, rfl⟩
      exact ⟨r, ⟨hr, hn⟩, rfl⟩
  have habove : maskAbove s.straps.heads mask = true ↔ 2 ^ s.straps.heads ≤ mask := decide_eq_true_iff
  refine ⟨fun hbad => refused (if_pos (habove.2 hbad)), fun hfit h => refused ?_, fun hfit h hnone => refused ?_,
    fun hfit h hsome => ?_⟩
  · exact (if_neg (by rw [State.takingOn_straps, habove]; omega)).trans (if_pos (hheld.2 h))
  · exact (if_neg (by rw [State.takingOn_straps, habove]; omega)).trans
      ((if_neg (fun hp => h (hheld.1 hp))).trans (if_pos (hselected.2 hnone)))
  have hserve : s.takingOn.serveRepairCancel mask = okWith (s.takingOn.removeRecords removed)
      (b2 (maskOf ((List.range s.straps.heads).map fun i => removed (i + 1)))) :=
    (if_neg (by rw [State.takingOn_straps, habove]; omega)).trans
      ((if_neg (fun hp => h (hheld.1 hp))).trans (if_neg (fun he => by
        obtain ⟨r, hr, hn⟩ := hsome
        exact hselected.1 he r hr hn)))
  have hkept : removeRepairs removed s.heads.repairs = s.heads.repairs.filter fun r => decide (¬named r.head) := by
    refine List.filter_congr fun r hr => ?_
    have : removed r.head = true ↔ named r.head := (hremoved _).trans ⟨fun hg => hg.1, fun hn => ⟨hn, r, hr, rfl⟩⟩
    rw [Bool.eq_iff_iff]
    simp [← this]
  refine ⟨_, _, _, exec_stored hready rfl rfl (hserve.trans (by
    rw [State.removeRecords_eq]
    simp only [State.takingOn_heads, hkept]
    rfl)) rfl rfl rfl rfl rfl, ?length, ?others, ?named, ?mask, ?maskLt, ?pins⟩
  case length => rw [mapFrom_eq]; simp
  case others =>
    intro i d hd hgone
    have hno : removed (1 + i) = false := by rw [Nat.add_comm]; exact Bool.eq_false_iff.2 fun hr => hgone ((hremoved _).1 hr)
    simp [mapFrom_getElem?, hd, hno]
  case named =>
    intro i d hd hgone
    have hyes : removed (1 + i) = true := by rw [Nat.add_comm]; exact (hremoved _).2 hgone
    have hrole : d.role = .none := by
      by_contra hrole
      exact h (Or.inr (Or.inl ⟨d, List.mem_of_getElem? hd, hrole⟩))
    refine ⟨_, by rw [mapFrom_getElem?, hd]; rfl, ?_⟩
    simp only [hyes, Bool.true_and]
    split
    · rw [hrole]
    · rename_i hok
      have : d.condition = .ok := by simpa using hok
      rw [← this]
  case mask =>
    intro i hi
    rw [maskOf_testBit, ← hremoved]
    simp [List.getD_eq_getElem?_getD, hi]
  case maskLt => simpa using maskOf_lt ((List.range s.straps.heads).map fun i => removed (i + 1))
  case pins =>
    simp only [List.mem_filter, decide_eq_true_eq, and_assoc]
    rfl

/-! ### SET_OUTPUT (R84) -/

theorem OutMode.ofCode_code (m : OutMode) : OutMode.ofCode m.code = some m := by cases m <;> rfl

theorem Polarity.ofCode_code (p : Polarity) : Polarity.ofCode p.code = some p := by cases p <;> rfl

theorem OutKind.ofCode_of_gt {n : Nat} (h : 2 < n) : OutKind.ofCode n = none := by
  obtain ⟨k, rfl⟩ := Nat.exists_eq_add_of_le' h
  rfl

theorem OutMode.ofCode_of_gt {n : Nat} (h : 3 < n) : OutMode.ofCode n = none := by
  obtain ⟨k, rfl⟩ := Nat.exists_eq_add_of_le' h
  rfl

theorem Polarity.ofCode_of_gt {n : Nat} (h : 1 < n) : Polarity.ofCode n = none := by
  obtain ⟨k, rfl⟩ := Nat.exists_eq_add_of_le' h
  rfl

theorem named_iff (head h : Nat) : named head h = true ↔ head = 0 ∨ head = h := by simp [named]

/-- R84: the outputs of one kind take a mode and a polarity by their heads. -/
theorem mapFrom_named (head : Nat) (v : Output) (l : List Output) :
    mapFrom 1 (fun h c => if named head h then v else c) l =
      (l.zipIdx 1).map fun e => if head = 0 ∨ head = e.2 then v else e.1 := by
  simp only [mapFrom_eq, named_iff]

/-- R84: whether some named output changes its polarity. -/
theorem pick_any_iff (head : Nat) (p : Polarity) (l : List Output) :
    (((l.zipIdx 1).filterMap fun e => if named head e.2 then some e.1 else none).any fun c => c.polarity != p) = true ↔
      ∃ o h, l[h]? = some o ∧ (head = 0 ∨ head = h + 1) ∧ o.polarity ≠ p := by
  simp only [List.any_eq_true, List.mem_filterMap, bne_iff_ne, Option.ite_none_right_eq_some, named_iff, Option.some.injEq]
  constructor
  · rintro ⟨o, ⟨⟨o', n⟩, hmem, hn, rfl⟩, hp⟩
    obtain ⟨hle, hget⟩ := List.mem_zipIdx_iff_le_and_getElem?_sub.1 hmem
    exact ⟨o', n - 1, hget, by simp only at hn hle; omega, hp⟩
  · rintro ⟨o, h, hget, hn, hp⟩
    exact ⟨o, ⟨(o, h + 1), List.mem_zipIdx_iff_le_and_getElem?_sub.2 ⟨by simp, by simpa using hget⟩, hn, rfl⟩, hp⟩

/-- R84: forced modes and changes of polarity need the shaft HELD or OFF and the player not RUNNING. -/
theorem State.outputsFree_iff (s : State) :
    s.outputsFree = true ↔ (s.shaft.state = .held ∨ s.shaft.state = .off) ∧ s.player.state ≠ .running := by
  simp [State.outputsFree]

/-- Settles O32. -/
theorem setOutputNamesItsOutputs : Obligations.SetOutputNamesItsOutputs := by
  intro s kind head mode polarity m p hready answer refused named changes free
  have hfree : s.takingOn.outputsFree = true ↔ free := s.takingOn.outputsFree_iff
  have unchanged {q : List Byte} (hs : s.takingOn.serveSetOutput kind head mode polarity = (s.takingOn, q)) :
      answer = .next (s.replied 0xB8 q) := exec_unchanged hready rfl rfl hs
  have served (k : OutKind) (hk : OutKind.ofCode kind = some k) (hm : m.code = mode) (hp : p.code = polarity) :
      s.takingOn.serveSetOutput kind head mode polarity =
        if k ≠ .holder ∧ s.straps.heads < head then refuse s.takingOn .badValue
        else if (m ≠ .auto ∨ (s.outs.pick k head).any fun c => c.polarity != p) ∧ !s.takingOn.outputsFree then
          refuse s.takingOn .inUse
        else okWith (s.takingOn.modOuts fun o => o.set k head ⟨m, p⟩) (b1 m.code ++ b1 p.code) := by
    subst hm hp
    simp only [State.serveSetOutput, hk, OutMode.ofCode_code, Polarity.ofCode_code]
    rfl
  have inUse (k : OutKind) (hk : OutKind.ofCode kind = some k) (hm : m.code = mode) (hp : p.code = polarity)
      (hhead : ¬(k ≠ .holder ∧ s.straps.heads < head))
      (hchange : m ≠ .auto ∨ ((s.outs.pick k head).any fun c => c.polarity != p) = true) (hbusy : ¬free) : refused 6 :=
    unchanged ((served k hk hm hp).trans ((if_neg hhead).trans (if_pos ⟨hchange, by simpa [← hfree] using hbusy⟩)))
  have taken (k : OutKind) (hk : OutKind.ofCode kind = some k) (hm : m.code = mode) (hp : p.code = polarity)
      (hhead : ¬(k ≠ .holder ∧ s.straps.heads < head))
      (hok : ¬(m ≠ .auto ∨ ((s.outs.pick k head).any fun c => c.polarity != p) = true) ∨ free) :
      s.takingOn.serveSetOutput kind head mode polarity =
        okWith (s.takingOn.modOuts fun o => o.set k head ⟨m, p⟩) (b1 m.code ++ b1 p.code) :=
    (served k hk hm hp).trans ((if_neg hhead).trans (if_neg fun h => by
      rcases hok with hno | hf
      · exact hno h.1
      · simp [hfree.2 hf] at h))
  have hauto {c : Prop} (h : (m = .auto ∧ ¬c) ∨ free) : ¬(m ≠ .auto ∨ c) ∨ free := h.imp_left fun ⟨hm, hc⟩ => by simp [hm, hc]
  have hholder : ((s.outs.pick .holder head).any fun c => c.polarity != p) = true ↔ s.outs.holder.polarity ≠ p := by
    simp [Outputs.pick]
  refine ⟨fun hbad => unchanged ?bad, fun hm hp hkind hhead => ?above, fun hm hp hkind hhead => ?hold,
    fun hm hp hkind hhead => ?trim, fun hm hp hkind => ?holder⟩
  case bad =>
    unfold State.serveSetOutput
    rcases hbad with h | h | h
    · simp only [OutKind.ofCode_of_gt h]; rfl
    · simp only [OutMode.ofCode_of_gt h]; cases OutKind.ofCode kind <;> rfl
    · simp only [Polarity.ofCode_of_gt h]; cases OutKind.ofCode kind <;> cases OutMode.ofCode mode <;> rfl
  case above =>
    have habove (k : OutKind) (hk : OutKind.ofCode kind = some k) (hne : k ≠ .holder) : refused 3 :=
      unchanged ((served k hk hm hp).trans (if_pos ⟨hne, hhead⟩))
    interval_cases kind
    · exact habove .hold rfl (by decide)
    · exact habove .trim rfl (by decide)
  case hold =>
    subst hkind
    have hnot : ¬(OutKind.hold ≠ .holder ∧ s.straps.heads < head) := by omega
    refine ⟨fun hchange hbusy => inUse .hold rfl hm hp hnot (hchange.imp_right (pick_any_iff head p _).2) hbusy, fun hok => ?_⟩
    refine exec_stored hready rfl rfl ((taken .hold rfl hm hp hnot ?_).trans ?_) rfl rfl rfl rfl rfl
    · exact hauto (hok.imp_left fun h => ⟨h.1, fun hc => h.2 ((pick_any_iff head p _).1 hc)⟩)
    · simp only [Outputs.set, mapFrom_named, hm, hp]
      rfl
  case trim =>
    subst hkind
    have hnot : ¬(OutKind.trim ≠ .holder ∧ s.straps.heads < head) := by omega
    refine ⟨fun hchange hbusy => inUse .trim rfl hm hp hnot (hchange.imp_right (pick_any_iff head p _).2) hbusy, fun hok => ?_⟩
    refine exec_stored hready rfl rfl ((taken .trim rfl hm hp hnot ?_).trans ?_) rfl rfl rfl rfl rfl
    · exact hauto (hok.imp_left fun h => ⟨h.1, fun hc => h.2 ((pick_any_iff head p _).1 hc)⟩)
    · simp only [Outputs.set, mapFrom_named, hm, hp]
      rfl
  case holder =>
    subst hkind
    have hnot : ¬(OutKind.holder ≠ .holder ∧ s.straps.heads < head) := by simp
    refine ⟨fun hchange hbusy => inUse .holder rfl hm hp hnot (hchange.imp_right hholder.2) hbusy, fun hok => ?_⟩
    refine exec_stored hready rfl rfl ((taken .holder rfl hm hp hnot ?_).trans ?_) rfl rfl rfl rfl rfl
    · exact hauto (hok.imp_left fun h => ⟨h.1, fun hc => hholder.1 hc h.2⟩)
    · simp only [hm, hp]
      rfl

/-! ### What the outputs drive (R67, R79 to R83) -/

/-- R79, R83: an output's value by its mode, and what the kill effect makes of it. -/
theorem outputValue_forms (killed killValue : Bool) (o : Output) (auto : Bool) :
    (killed = true → outputValue killed killValue o auto = some killValue) ∧
    (killed = false → (o.mode = .forceOn → outputValue killed killValue o auto = some true) ∧
      (o.mode = .forceOff → outputValue killed killValue o auto = some false) ∧
      (o.mode = .float → outputValue killed killValue o auto = none)) ∧
    (killed = false → o.mode = .auto → outputValue killed killValue o auto = some auto) := by
  refine ⟨fun hk => by simp [outputValue, hk], fun hk => ⟨?_, ?_, ?_⟩, fun hk hm => by simp [outputValue, hk, hm]⟩ <;>
    intro hm <;> simp [outputValue, hk, hm]

theorem State.revolution_eq_some (s : State) (k : RecKind) :
    (s.revolution == some k) = true ↔ ∃ a : ActiveRecord, s.player.active = some a ∧ a.kind = k := by
  simp [State.revolution]

/-- Settles O33. -/
theorem outputsFollowTheirRules : Obligations.OutputsFollowTheirRules := by
  intro s h o hh killed inTurn kindIs forced
  have hkill : s.killEffect = true ↔ killed := by simp [State.killEffect, killed]
  have hcalm (hk : ¬killed) : s.killEffect = false := Bool.eq_false_iff.2 fun h => hk (hkill.1 h)
  have hkind (k : RecKind) : (s.revolution == some k) = true ↔ kindIs k := s.revolution_eq_some k
  refine ⟨fun ho => ?hold, fun ho => ?trim, fun ho => ?holder, fun v => rfl, rfl, ?drive, ?brake⟩
  case hold =>
    obtain ⟨hkilled, hforced, hauto⟩ := outputValue_forms s.killEffect true o (s.autoHold h)
    have hvalue : s.holdValue h = outputValue s.killEffect true o (s.autoHold h) := by simp [State.holdValue, ho]
    rw [hvalue]
    refine ⟨fun hk => hkilled (hkill.2 hk), fun hk => hforced (hcalm hk), fun hk hm => (hauto (hcalm hk) hm).trans ?_⟩
    simp only [State.autoHold, ← hkind]
    congr 2
    rw [Bool.eq_iff_iff]
    simp
  case trim =>
    obtain ⟨hkilled, hforced, hauto⟩ := outputValue_forms s.killEffect false o (s.autoTrim h)
    have hvalue : s.trimValue h = outputValue s.killEffect false o (s.autoTrim h) := by simp [State.trimValue, ho]
    rw [hvalue]
    refine ⟨fun hk => hkilled (hkill.2 hk), fun hk => hforced (hcalm hk), fun hk hm => (hauto (hcalm hk) hm).trans ?_⟩
    simp only [State.autoTrim, State.inCam, ← hkind, inTurn]
    congr 1
    rw [Bool.eq_iff_iff]
    simp [and_assoc]
  case holder =>
    subst ho
    obtain ⟨hkilled, hforced, hauto⟩ := outputValue_forms s.killEffect false s.outs.holder s.autoHolder
    refine ⟨fun hk => hkilled (hkill.2 hk), fun hk => hforced (hcalm hk), fun hk hm => (hauto (hcalm hk) hm).trans ?_⟩
    simp only [State.autoHolder, State.revolution, State.inCam, inTurn]
    congr 1
    rw [Bool.eq_iff_iff]
    simp [and_assoc]
  case drive => cases hs : s.shaft.state <;> simp [Shaft.driveEnable, hs]
  case brake =>
    simp only [State.brake, Bool.or_eq_true]
    cases hs : s.shaft.state <;> simp

/-! ### The governor's sets (R46 to R52) -/

theorem PlayerState.writesPending_iff (p : PlayerState) :
    p.writesPending = true ↔ p = .running ∨ p = .stopping ∨ p = .changing ∨ p = .returning := by
  cases p <;> simp [PlayerState.writesPending]

/-- R50: the set that a write starts from. -/
def Governor.base (g : Governor) : MotionSet := if g.pendingFlag then g.pending else g.active

/-- R50: the governor after an accepted write. -/
def Governor.written (g : Governor) (toPending : Bool) (set : MotionSet) : Governor :=
  if toPending then { g with pending := set, pendingFlag := true } else { g with active := set, pendingFlag := false }

/-- R50: a write is judged as the set stands after it, and changes one set or none. -/
theorem Governor.write_eq (g : Governor) (toPending : Bool) (f : MotionSet → MotionSet) :
    g.write toPending f = match (f g.base).fault with
      | some c => (g, some c)
      | none => (g.written toPending (f g.base), none) := by
  have hforce : g.force = { g with active := g.base, pendingFlag := false } := by
    cases hp : g.pendingFlag
    · simp only [Governor.force, Governor.base, hp, Bool.false_eq_true, if_false]
      rw [← hp]
    · simp [Governor.force, Governor.base, hp]
  cases toPending
  · simp only [Governor.write, hforce, Bool.false_eq_true, if_false]
    cases (f g.base).fault <;> rfl
  · simp only [Governor.write, if_true]
    rfl

/-- R48: no point of a list is lower than the one before it. -/
theorem rising_iff (l : List Nat) : rising l = true ↔ ∀ k, k + 1 < l.length → l.getD k 0 ≤ l.getD (k + 1) 0 := by
  induction l with
  | nil => simp [rising]
  | cons q l ih =>
    cases l with
    | nil => simp [rising]
    | cons q' l =>
      rw [rising, Bool.and_eq_true, ih, decide_eq_true_iff]
      constructor
      · rintro ⟨hfirst, hrest⟩ k hk
        cases k with
        | zero => exact hfirst
        | succ k => exact hrest k (by simpa using hk)
      · intro h
        exact ⟨h 0 (by simp), fun k hk => h (k + 1) (by simpa using hk)⟩

theorem getD_eq_iff {l : List Nat} {i d a : Nat} (h : i < l.length) : l.getD i d = a ↔ l[i]? = some a := by
  simp [List.getD_eq_getElem?_getD, List.getElem?_eq_getElem h]

/-- R48: a well formed profile. -/
theorem profileOk_iff (q : List Nat) :
    profileOk q = true ↔ q.length = 17 ∧ q[0]? = some 0 ∧ q[16]? = some 256 ∧ ∀ k < 16, q.getD k 0 ≤ q.getD (k + 1) 0 := by
  simp only [profileOk, Bool.and_eq_true, beq_iff_eq, rising_iff]
  constructor
  · rintro ⟨⟨⟨hlen, hfirst⟩, hlast⟩, hrise⟩
    exact ⟨hlen, (getD_eq_iff (by omega)).1 hfirst, (getD_eq_iff (by omega)).1 hlast, fun k hk => hrise k (by omega)⟩
  · rintro ⟨hlen, hfirst, hlast, hrise⟩
    exact ⟨⟨⟨hlen, (getD_eq_iff (by omega)).2 hfirst⟩, (getD_eq_iff (by omega)).2 hlast⟩,
      fun k hk => hrise k (by omega)⟩

/-- R48: D is the largest rise from a point to the next. -/
theorem steepest_spec (l : List Nat) (h : 2 ≤ l.length) :
    (∀ k, k + 1 < l.length → l.getD (k + 1) 0 - l.getD k 0 ≤ steepest l) ∧
      ∃ k, k + 1 < l.length ∧ l.getD (k + 1) 0 - l.getD k 0 = steepest l := by
  induction l with
  | nil => simp at h
  | cons q l ih =>
    cases l with
    | nil => simp at h
    | cons q' l =>
      have hsteep : steepest (q :: q' :: l) = max (q' - q) (steepest (q' :: l)) := rfl
      have htail : l = [] ∨ ((∀ k, k + 1 < (q' :: l).length →
          (q' :: l).getD (k + 1) 0 - (q' :: l).getD k 0 ≤ steepest (q' :: l)) ∧
          ∃ k, k + 1 < (q' :: l).length ∧ (q' :: l).getD (k + 1) 0 - (q' :: l).getD k 0 = steepest (q' :: l)) := by
        cases l with
        | nil => exact Or.inl rfl
        | cons _ _ => exact Or.inr (ih (by simp))
      rw [hsteep]
      refine ⟨fun k hk => ?_, ?_⟩
      · cases k with
        | zero => exact le_max_left _ _
        | succ k =>
          rcases htail with rfl | ⟨hle, -⟩
          · simp at hk
          · exact le_max_of_le_right (hle k (by simpa using hk))
      · rcases htail with rfl | ⟨-, k, hk, hmax⟩
        · exact ⟨0, by simp, by simp [steepest]⟩
        · rcases le_total (steepest (q' :: l)) (q' - q) with hcase | hcase
          · exact ⟨0, by simp, by rw [max_eq_left hcase]; rfl⟩
          · exact ⟨k + 1, by simpa using hk, by rw [max_eq_right hcase, ← hmax]; rfl⟩

/-- R49: the conditions in their order. -/
theorem MotionSet.fault_eq (set : MotionSet) :
    set.fault = if profileOk set.profile = false then some .profile else if set.motion.wm < 64 then some .window
      else if 60 * set.motion.wm * set.motion.rMax < 32512 * steepest set.profile * set.motion.sStop ∨
        60 * set.motion.wjEff * set.motion.rMax < 32512 * steepest set.profile * set.motion.sStop then some .longMove
      else none := by
  simp only [MotionSet.fault, Bool.not_eq_eq_eq_not, Bool.not_true]

/-- R47: the effective jump window is the largest multiple of 16 within the jump window that ends before X of the next turn. -/
theorem Motion.wjEff_spec (m : Motion) :
    m.wjEff % 16 = 0 ∧ m.wjEff ≤ m.wj ∧ (m.wOpen ≤ 1008 + m.x → m.wOpen + m.wjEff ≤ 1008 + m.x ∧
      ∀ w : Nat, w % 16 = 0 → w ≤ m.wj → m.wOpen + w ≤ 1008 + m.x → w ≤ m.wjEff) := by
  unfold Motion.wjEff
  simp only []
  split <;> refine ⟨by omega, by omega, fun h => ⟨by omega, fun w _ _ _ => by omega⟩⟩

section
variable {s : State} (hready : s.ready = true)
include hready

/-- R50 to R52, R75: a request that writes a set, by what it makes of the set and what it reports. -/
theorem exec_writesSet {i : Instr} {set : MotionSet} {detail : List Byte} (hi : isRequest i = true) (hc : i.counted = true)
    (f : MotionSet → MotionSet) (hf : f s.gov.base = set)
    (hs : s.takingOn.serve i = match s.gov.write s.player.state.writesPending f with
      | (_, some c) => (s.takingOn, replyOf .badValue (b1 c.code))
      | (g, none) => okWith (s.takingOn.setsWritten g) detail) :
    exec i s = .next (match set.fault with
      | some c => s.replied ((frameOf i).ty + 0x80) [3, BitVec.ofNat 8 c.code]
      | none => (s.setsWritten (s.gov.written s.player.state.writesPending set)).replied ((frameOf i).ty + 0x80)
          (0 :: detail)) := by
  rw [Governor.write_eq, hf] at hs
  cases hfault : set.fault with
  | some c =>
    simp only [hfault] at hs
    exact exec_unchanged hready hi hc hs
  | none =>
    simp only [hfault] at hs
    refine exec_stored hready hi hc (hs.trans ?_) ?_ ?_ ?_ ?_ ?_
    · simp only [State.setsWritten_eq]
      rfl
    all_goals rw [State.setsWritten_eq]
    · show (if _ then _ else _ : Shaft).state = _
      split
      · rfl
      · rw [Shaft.judgeStall_eq]
    · unfold Governor.written
      split <;> rfl

end

/-- R50, R75: what an accepted write leaves. -/
theorem State.setsWritten_written (s : State) (set : MotionSet) :
    s.setsWritten (s.gov.written s.player.state.writesPending set) =
      if s.player.state.writesPending = true then { s with gov := { s.gov with pending := set, pendingFlag := true } }
      else { s with
        gov := { s.gov with active := set, pendingFlag := false }
        shaft := { s.shaft with
          stall := if s.shaft.demand < set.motion.sStop then none
            else if s.shaft.stall = none then some 100 else s.shaft.stall } } := by
  rw [State.setsWritten_eq]
  cases s.player.state.writesPending
  · simp [Governor.written, Shaft.judgeStall_eq]
  · simp [Governor.written]

/-- Settles O30. -/
theorem motionSetsAreWrittenAndChecked : Obligations.MotionSetsAreWrittenAndChecked := by
  refine ⟨fun s settings points hready hsettings hpoints => ?writes, fun set => ?fault, fun points hlen => ?steepest, fun m => ?windows⟩
  case writes =>
    intro sewing base within motion profile written
    have hsewing : s.player.state.writesPending = true ↔ sewing := s.player.state.writesPending_iff
    have hwritten (set : MotionSet) : s.setsWritten (s.gov.written s.player.state.writesPending set) = written set := by
      rw [State.setsWritten_written]
      simp only [written, hsewing]
    have hcode : setCode s.player.state.writesPending = [if sewing then 1 else 0] := by
      simp only [setCode, hsewing]
      split <;> rfl
    constructor
    · have hserved := exec_writesSet hready (i := .setMotion settings) rfl (decide_eq_true hsettings)
        (fun set => { set with motion := Motion.clamped settings }) (set := motion) rfl rfl
      rw [hwritten, State.takingOn_player, hcode] at hserved
      exact hserved
    · have hserved := exec_writesSet hready (i := .setProfile points) rfl (decide_eq_true hpoints)
        (fun set => { set with profile := points }) (set := profile) rfl rfl
      rw [hwritten, State.takingOn_player, hcode] at hserved
      exact hserved
  case fault =>
    intro m wellFormed long
    have hform : profileOk set.profile = false ↔ ¬wellFormed := by
      rw [← Bool.not_eq_true, profileOk_iff]
    have hlong : (60 * m.wm * m.rMax < 32512 * steepest set.profile * m.sStop ∨
        60 * m.wjEff * m.rMax < 32512 * steepest set.profile * m.sStop) ↔ ¬long := by
      simp only [long, not_and_or, Nat.not_le]
    rw [MotionSet.fault_eq]
    simp only [hform, m, hlong]
  case steepest =>
    intro rise
    obtain ⟨hle, k, hk, hmax⟩ := steepest_spec points (by omega)
    exact ⟨fun k hk => hle k (by omega), k, by omega, hmax⟩
  case windows =>
    obtain ⟨hmult, hle, hwindow⟩ := m.wjEff_spec
    refine ⟨rfl, ?_, ?_, ?_, hmult, hle, hwindow⟩ <;> simp only [Motion.wm, Motion.wOpen] <;> omega

end Sys2Proof.Machine
end

section
/-! PROOF. The block checks, DSN_DROP, and the prefetcher (O11, O16, O18). -/

namespace Sys2Proof.Machine

/-! ### The block checks (R7, R8) -/

/-- R8: a byte reads as -128 exactly when it is 0x80. -/
theorem toInt_eq_min_iff (b : Byte) : b.toInt = -128 ↔ b = 0x80 := by
  constructor
  · intro h
    apply BitVec.eq_of_toInt_eq
    rw [h]
    rfl
  · rintro rfl
    rfl

theorem toInt_eq_zero_iff (b : Byte) : b.toInt = 0 ↔ b = 0 := by
  constructor
  · intro h
    apply BitVec.eq_of_toInt_eq
    rw [h]
    rfl
  · rintro rfl
    rfl

/-- R186: a kind's code gives the kind back. -/
theorem RecKind.ofCode_eq_none_iff (n : Nat) : RecKind.ofCode n = none ↔ 4 < n := by
  constructor
  · intro h
    by_contra hle
    interval_cases n <;> simp [RecKind.ofCode] at h
  · intro h
    obtain ⟨k, rfl⟩ := Nat.exists_eq_add_of_le' h
    rfl

theorem RecKind.code_ofCode {n : Nat} {k : RecKind} (h : RecKind.ofCode n = some k) : k.code = n := by
  have hle : n ≤ 4 := by
    by_contra hgt
    rw [(RecKind.ofCode_eq_none_iff n).2 (by omega)] at h
    cases h
  interval_cases n <;> cases h <;> rfl

theorem kind_eq_iff (b : Byte) {n : Nat} (hn : n < 256) : b = BitVec.ofNat 8 n ↔ b.toNat = n := by
  constructor
  · rintro rfl
    simp only [BitVec.toNat_ofNat]
    omega
  · intro h
    apply BitVec.eq_of_toNat_eq
    simp only [BitVec.toNat_ofNat, h]
    omega

/-- R8: the table of reasons, in its order. -/
theorem recordReason_eq (d : Design) (t : Trial) (r : RawRecord) :
    recordReason d t r =
      if 4 < r.kind.toNat then some 1
      else if r.dx = 0x80 ∨ r.dy = 0x80 then some 2
      else if 2 ≤ r.kind.toNat ∧ (r.dx ≠ 0 ∨ r.dy ≠ 0) then some 3
      else if d.declared ≤ t.index then some 4
      else if r.kind = 4 ∧ t.index < d.declared - 1 then some 5
      else if r.kind ≠ 4 ∧ t.index = d.declared - 1 then some 6
      else if r.kind = 3 ∧ d.blocks - 1 < t.stops + 1 then some 7
      else if r.kind.toNat < 2 ∧ ¬(d.box.xmin ≤ t.x + r.dx.toInt ∧ t.x + r.dx.toInt ≤ d.box.xmax ∧
        d.box.ymin ≤ t.y + r.dy.toInt ∧ t.y + r.dy.toInt ≤ d.box.ymax) then some 8
      else none := by
  cases hk : RecKind.ofCode r.kind.toNat with
  | none => simp only [recordReason, hk, if_pos ((RecKind.ofCode_eq_none_iff _).1 hk)]
  | some k =>
    have hcode := RecKind.code_ofCode hk
    have hle : ¬4 < r.kind.toNat := by rw [← RecKind.ofCode_eq_none_iff, hk]; simp
    have hmoves : (k == .stitch || k == .jump) = decide (r.kind.toNat < 2) := by
      rw [← hcode]; cases k <;> rfl
    have hend : k = .endRec ↔ r.kind = 4 := by
      rw [show (4 : Byte) = BitVec.ofNat 8 4 from rfl, kind_eq_iff _ (by decide), ← hcode]; cases k <;> simp [RecKind.code]
    have hstop : k = .stop ↔ r.kind = 3 := by
      rw [show (3 : Byte) = BitVec.ofNat 8 3 from rfl, kind_eq_iff _ (by decide), ← hcode]; cases k <;> simp [RecKind.code]
    simp only [recordReason, hk, if_neg hle, toInt_eq_min_iff, ne_eq, toInt_eq_zero_iff, hmoves, hend, hstop, Box.holds,
      Bool.not_eq_true', decide_eq_false_iff_not, decide_eq_true_eq, Nat.not_lt]
    by_cases hlate : d.declared ≤ t.index
    · simp only [hlate, if_true]
    · have hbefore : t.index + 1 < d.declared ↔ t.index < d.declared - 1 := by omega
      have hlast : t.index + 1 = d.declared ↔ t.index = d.declared - 1 := by omega
      have hblocks : d.blocks ≤ t.stops + 1 ↔ d.blocks - 1 < t.stops + 1 := by omega
      simp only [hbefore, hlast, hblocks]

theorem Trial.advance_eq (t : Trial) (r : RawRecord) :
    t.advance r = ⟨t.x + r.dx.toInt, t.y + r.dy.toInt, if r.kind = 3 then t.stops + 1 else t.stops, t.index + 1⟩ := by
  have hkind : r.kind = 3 ↔ r.kind.toNat = 3 := kind_eq_iff r.kind (by decide)
  simp only [Trial.advance, hkind]
  split <;> rfl

/-- R8: the first failing record gives the offset and the reason. -/
theorem blockReason_append (d : Design) (passed failing : List RawRecord) (r : RawRecord) (reason : Nat) :
    ∀ (t : Trial) (offset : Nat),
      (∀ (j : Nat) (q : RawRecord), passed[j]? = some q → recordReason d ((passed.take j).foldl Trial.advance t) q = none) →
      recordReason d (passed.foldl Trial.advance t) r = some reason →
      blockReason d t offset (passed ++ r :: failing) = some (offset + passed.length, reason) := by
  induction passed with
  | nil =>
    intro t offset _ hr
    simp only [List.foldl_nil] at hr
    simp [blockReason, hr]
  | cons p passed ih =>
    intro t offset hpass hr
    have hfirst : recordReason d t p = none := hpass 0 p rfl
    rw [List.cons_append, blockReason, hfirst]
    simp only []
    rw [ih (t.advance p) (offset + 1) (fun j q hq => hpass (j + 1) q hq) hr, List.length_cons]
    congr 2
    omega

/-- Settles O11. -/
theorem dsnBlockRefusals : Obligations.DsnBlockRefusals := by
  refine ⟨fun s design block count records hready => ?_, fun d t r => ⟨rfl, t.advance_eq r⟩, recordReason_eq⟩
  intro answer
  have refused {p : List Byte} (hlen : count = records.length)
      (hs : s.takingOn.serveDsnBlock design block count records = (s.takingOn, p)) : answer = .next (s.replied 0x91 p) :=
    exec_unchanged hready rfl (decide_eq_true hlen) hs
  refine ⟨fun hlen => ?_, fun hlen hbad => refused hlen (if_pos hbad), fun hlen hpos hmost => ?_⟩
  · exact s.request_miscounted (.dsnBlock design block count records) hready (decide_eq_false hlen)
  have hcount : ¬(count = 0 ∨ 64 < count) := by omega
  refine ⟨fun hnone => refused hlen ?_, fun d hd => ⟨fun hstate => refused hlen ?_, fun hstate horder => refused hlen ?_,
    fun hstate hblock hmax => ?_⟩⟩
  · simp only [State.serveDsnBlock, if_neg hcount, State.takingOn_store, hnone]
    rfl
  · simp only [State.serveDsnBlock, if_neg hcount, State.takingOn_store, hd]
    exact if_pos hstate
  · simp only [State.serveDsnBlock, if_neg hcount, State.takingOn_store, hd, hstate, ne_eq, not_true, if_false]
    exact if_pos (by simpa [Design.outOfOrder] using horder)
  intro passes
  have horder : ¬d.outOfOrder block = true := by simp [Design.outOfOrder, hblock]; omega
  refine ⟨fun passed failing r reason hrecords hpass hreason => refused hlen ?_, fun hpass hfree hpage => refused hlen ?_⟩
  · simp only [State.serveDsnBlock, if_neg hcount, State.takingOn_store, hd, hstate, ne_eq, not_true, if_false, horder,
      hrecords, blockReason_append d passed failing r reason d.trial 0 hpass hreason, Nat.zero_add]
    rfl
  · have hneeds : d.needsPage records.length = true := by simpa [Design.needsPage, ← hlen] using hpage
    simp only [State.serveDsnBlock, if_neg hcount, State.takingOn_store, hd, hstate, ne_eq, not_true, if_false, horder,
      (blockReason_eq_none d records d.trial 0).2 hpass, hneeds, hfree]
    rfl

/-! ### DSN_DROP (R2, R13) -/

/-- R2: the free list after a drop is the ascending list of its pages. -/
theorem freePages_eq {chain : List ChainPage} {free free' : List Nat} (hfree : free.Pairwise (· < ·))
    (hfree' : free'.Pairwise (· < ·)) (hperm : free'.Perm (free ++ chain.map ChainPage.page)) :
    freePages chain free = free' := by
  have hsame : (freePages chain free).Perm free' := (freePages_perm chain free).trans hperm.symm
  have hsorted : (freePages chain free).Pairwise (· < ·) :=
    pairwise_lt_of_le_of_nodup (freePages_sorted (hfree.imp Nat.le_of_lt)) (hsame.nodup_iff.2 (hfree'.imp Nat.ne_of_lt))
  exact hsame.eq_of_pairwise (fun a b _ _ hab hba => absurd hab (Nat.lt_asymm hba)) hsorted hfree'

/-- Settles O16. -/
theorem dsnDropFreesItsPages : Obligations.DsnDropFreesItsPages := by
  intro s design hready
  refine ⟨fun hnone => exec_unchanged hready rfl rfl ?_, fun d hd => ⟨fun hpin => exec_unchanged hready rfl rfl ?_, ?_⟩⟩
  · simp only [State.serve, State.serveDsnDrop, State.takingOn_store, hnone]
    rfl
  · simp only [State.serve, State.serveDsnDrop, State.takingOn_store, hd]
    exact if_pos (by simpa using hpin)
  · intro harmed hrepair hasc free hfree hperm
    have hdir : dropDesign design s.store.dir =
        s.store.dir.map fun (o : Option Design) => o.filter fun (x : Design) => decide (x.number ≠ design) := by
      have hother : (fun x : Design => x.number != design) = fun x => decide (x.number ≠ design) := by
        funext x
        rw [Bool.eq_iff_iff]
        simp
      rw [dropDesign, hother]
    refine exec_stored hready rfl rfl ?_ rfl rfl rfl rfl rfl
    simp only [State.serve, State.serveDsnDrop, State.takingOn_store, hd, harmed, hrepair, Bool.or_false, Bool.false_eq_true,
      if_false, State.modStore, hdir, freePages_eq hasc hfree hperm]
    rfl

/-! ### The prefetcher (R28, R55) -/

theorem PlayerState.prefetches_iff (p : PlayerState) :
    p.prefetches = true ↔ p = .armed ∨ p = .running ∨ p = .stopping ∨ p = .changing ∨ p = .returning ∨
      (∃ r : PauseReason, p = .paused r) ∨ p = .starved := by
  cases p <;> simp [PlayerState.prefetches]

/-- R28: the queue ends in END. -/
def endsInEnd (q : List QueueEntry) : Prop := ∃ e : QueueEntry, q.getLast? = some e ∧ e.kind = .endRec

theorem endsInEnd_append (q : List QueueEntry) (e : QueueEntry) : endsInEnd (q ++ [e]) ↔ e.kind = .endRec := by
  simp [endsInEnd]

/-- R28: the prefetcher may append in its states only, to a queue that is not full and does not end in END. -/
theorem State.nextEntry_eq_none {s : State}
    (h : s.player.state.prefetches = false ∨ 32 ≤ s.player.queue.length ∨ endsInEnd s.player.queue) :
    s.nextEntry = none := by
  refine if_neg fun hall => ?_
  simp only [Bool.and_eq_true, decide_eq_true_eq, Bool.not_eq_true'] at hall
  obtain ⟨⟨hworks, hroom⟩, hended⟩ := hall
  rcases h with h | h | ⟨e, he, hkind⟩
  · simp [h] at hworks
  · omega
  · simp [he, hkind] at hended

/-- R28, R55: the next record, as it joins the queue. -/
theorem State.nextEntry_eq {s : State} (hworks : s.player.state.prefetches = true) (hroom : s.player.queue.length < 32)
    (hopen : ¬endsInEnd s.player.queue) :
    s.nextEntry = (s.recordOf (s.player.cursor + s.player.queue.length)).map fun r =>
      queueEntry s.gov.active (s.player.cursor + s.player.queue.length)
        (s.blockOf (s.player.cursor + s.player.queue.length)) r := by
  refine if_pos ?_
  have hended : (s.player.queue.getLast?.map fun e => e.kind == .endRec).getD false = false := by
    cases hlast : s.player.queue.getLast? with
    | none => rfl
    | some e =>
      have : e.kind ≠ .endRec := fun hk => hopen ⟨e, hlast, hk⟩
      simp [this]
  simp [hworks, hroom, hended]

theorem State.prefetchN_of_none {s : State} (h : s.nextEntry = none) (n : Nat) : s.prefetchN n = s := by
  cases n with
  | zero => rfl
  | succ n => rw [State.prefetchN, h]

/-- R28: entry `e` is record `i` as it joins the queue. -/
def State.Joins (s : State) (i : Nat) (e : QueueEntry) : Prop :=
  ∃ r : Record, s.recordOf i = some r ∧ e = queueEntry s.gov.active i (s.blockOf i) r

/-- R28: what the prefetcher has appended when it stops. -/
structure State.Prefetched (s : State) (more : List QueueEntry) : Prop where
  joins : ∀ (j : Nat) (e : QueueEntry), more[j]? = some e →
    s.Joins (s.player.cursor + s.player.queue.length + j) e ∧ (j + 1 < more.length → e.kind ≠ .endRec)
  stops : s.player.queue.length + more.length = 32 ∨ endsInEnd more ∨
    s.recordOf (s.player.cursor + s.player.queue.length + more.length) = none

/-- The state with entries appended to the queue. -/
def State.queueMore (s : State) (more : List QueueEntry) : State :=
  s.modPlayer fun p => { p with queue := p.queue ++ more }

theorem State.queueMore_nil (s : State) : s.queueMore [] = s := by
  simp [State.queueMore, State.modPlayer]

theorem State.queueMore_queueMore (s : State) (l m : List QueueEntry) :
    (s.queueMore l).queueMore m = s.queueMore (l ++ m) := by
  simp [State.queueMore, State.modPlayer, List.append_assoc]

theorem State.prefetchN_prefetched (n : Nat) (s : State) (hworks : s.player.state.prefetches = true)
    (hlen : s.player.queue.length ≤ 32) (hn : 32 ≤ s.player.queue.length + n) (hopen : ¬endsInEnd s.player.queue) :
    ∃ more : List QueueEntry, s.prefetchN n = s.queueMore more ∧ s.Prefetched more := by
  induction n generalizing s with
  | zero => exact ⟨[], s.queueMore_nil.symm, by simp, Or.inl (by simp; omega)⟩
  | succ n ih =>
    by_cases hfull : s.player.queue.length = 32
    · refine ⟨[], ?_, by simp, Or.inl (by simpa using hfull)⟩
      rw [State.prefetchN_of_none (State.nextEntry_eq_none (Or.inr (Or.inl hfull.ge))), State.queueMore_nil]
    have hroom : s.player.queue.length < 32 := by omega
    have hnext := State.nextEntry_eq hworks hroom hopen
    cases hrec : s.recordOf (s.player.cursor + s.player.queue.length) with
    | none =>
      rw [hrec, Option.map_none] at hnext
      exact ⟨[], by rw [State.prefetchN_of_none hnext, State.queueMore_nil], by simp, Or.inr (Or.inr (by simpa using hrec))⟩
    | some r =>
      rw [hrec, Option.map_some] at hnext
      generalize he : queueEntry s.gov.active (s.player.cursor + s.player.queue.length)
        (s.blockOf (s.player.cursor + s.player.queue.length)) r = e at hnext
      have hstep : s.prefetchN (n + 1) = (s.queueMore [e]).prefetchN n := by rw [State.prefetchN, hnext]; rfl
      have hfirst : s.Joins (s.player.cursor + s.player.queue.length) e := ⟨r, hrec, he.symm⟩
      have hone : (s.queueMore [e]).player.queue.length = s.player.queue.length + 1 := by
        simp [State.queueMore, State.modPlayer]
      by_cases hend : e.kind = .endRec
      · have hclosed : endsInEnd (s.queueMore [e]).player.queue := (endsInEnd_append _ e).2 hend
        refine ⟨[e], ?_, fun j f hj => ?_, Or.inr (Or.inl ⟨e, rfl, hend⟩)⟩
        · rw [hstep, State.prefetchN_of_none (State.nextEntry_eq_none (Or.inr (Or.inr hclosed)))]
        · cases j with
          | zero => cases hj; exact ⟨hfirst, by simp⟩
          | succ j => simp at hj
      · have hstill : ¬endsInEnd (s.queueMore [e]).player.queue := fun h => hend ((endsInEnd_append _ e).1 h)
        obtain ⟨more, hmore, hjoins, hstops⟩ := ih (s.queueMore [e]) hworks (by omega) (by omega) hstill
        refine ⟨e :: more, ?_, fun j f hj => ?_, ?_⟩
        · rw [hstep, hmore, State.queueMore_queueMore]
          rfl
        · cases j with
          | zero => cases hj; exact ⟨hfirst, fun _ => hend⟩
          | succ j =>
            obtain ⟨hin, hkind⟩ := hjoins j f hj
            rw [hone, Nat.add_assoc, Nat.add_assoc, Nat.add_comm 1 j, ← Nat.add_assoc] at hin
            exact ⟨hin, fun hlt => hkind (by simpa using hlt)⟩
        · rcases hstops with h | ⟨f, hf, hkind⟩ | h
          · exact Or.inl (by rw [hone] at h; simp; omega)
          · refine Or.inr (Or.inl ⟨f, ?_, hkind⟩)
            rw [List.getLast?_cons, hf]
            rfl
          · rw [hone, Nat.add_assoc, Nat.add_assoc, Nat.add_comm 1 more.length, ← Nat.add_assoc] at h
            exact Or.inr (Or.inr h)

/-- R28: where the prefetcher works, to what it has appended; elsewhere it does nothing. -/
theorem State.prefetch_of_idle {s : State}
    (h : s.player.state.prefetches = false ∨ 32 ≤ s.player.queue.length ∨ endsInEnd s.player.queue) : s.prefetch = s :=
  State.prefetchN_of_none (State.nextEntry_eq_none h) 32

theorem State.prefetch_prefetched (s : State) (hworks : s.player.state.prefetches = true)
    (hlen : s.player.queue.length ≤ 32) (hopen : ¬endsInEnd s.player.queue) :
    ∃ more : List QueueEntry, s.prefetch = s.queueMore more ∧ s.Prefetched more :=
  State.prefetchN_prefetched 32 s hworks hlen (by omega) hopen

/-- Settles O18. -/
theorem prefetchFillsTheQueue : Obligations.PrefetchFillsTheQueue := by
  refine ⟨fun set nx ny => ?_, fun s => ?_⟩
  · exact ⟨rfl, by simp only [recordLimit, speedLimit, Nat.min_assoc], rfl, rfl, rfl⟩
  intro works
  have hworks : s.player.state.prefetches = true ↔ works := s.player.state.prefetches_iff
  refine ⟨fun h => State.prefetch_of_idle (Or.inl (by simpa [← hworks] using h)),
    fun h => State.prefetch_of_idle (Or.inr (Or.inl h)), fun h => State.prefetch_of_idle (Or.inr (Or.inr h)),
    fun h hlen hopen => ?_⟩
  obtain ⟨more, hmore, hjoins, hstops⟩ := s.prefetch_prefetched (hworks.2 h) hlen fun ⟨e, he, hkind⟩ => hopen e he hkind
  refine ⟨more, hmore, fun j e hj => ?_, hstops⟩
  obtain ⟨⟨r, hr, rfl⟩, hkind⟩ := hjoins j e hj
  exact ⟨r, hr, rfl, rfl, rfl, rfl, rfl, rfl, rfl, rfl, hkind⟩

end Sys2Proof.Machine
end

section
/-! PROOF. The stored records: every record of a block reads back (O13), and the positions and colour blocks that the page
summaries give (O14). -/

namespace Sys2Proof.Machine

/-! ### Records and their sums (R4, R17) -/

@[simp] theorem moveSum_nil : moveSum [] = (0, 0) := rfl

theorem moveSum_append (l m : List Record) : moveSum (l ++ m) = moveSum l + moveSum m := by
  simp [moveSum]

theorem moveSum_singleton (r : Record) : moveSum [r] = (r.dx, r.dy) := by simp [moveSum]

@[simp] theorem stopCount_nil : stopCount [] = 0 := rfl

theorem stopCount_append (l m : List Record) : stopCount (l ++ m) = stopCount l + stopCount m := List.countP_append

theorem stopCount_singleton (r : Record) : stopCount [r] = if r.kind = .stop then 1 else 0 := by
  simp [stopCount, List.countP_cons]

/-- R4: three bytes spell a STOP record when their kind is 3. -/
theorem rawRecord_stop_iff (r : RawRecord) : (RawRecord.record r).kind = .stop ↔ r.kind.toNat = 3 := by
  unfold RawRecord.record
  cases hk : RecKind.ofCode r.kind.toNat with
  | none =>
    have := (RecKind.ofCode_eq_none_iff _).1 hk
    simp; omega
  | some k =>
    rw [← RecKind.code_ofCode hk]
    cases k <;> simp [RecKind.code]

/-- The records of a design rest on the serial RAM alone. -/
theorem Store.recordsOf_congr {st st' : Store} (h : st.ram = st'.ram) (d : Design) : st.recordsOf d = st'.recordsOf d := by
  have : st.record d = st'.record d := by
    funext i
    simp only [Store.record, h]
  rw [Store.recordsOf, this, Store.recordsOf]

/-- R17: a design whose chain fits has a page for every stored record. -/
theorem Design.Chained.exists_page {d : Design} (h : d.Chained) {i : Nat} (hi : i < d.stored) :
    ∃ c : ChainPage, d.chain[i / 256]? = some c := by
  have hlen := h.length
  exact ⟨_, List.getElem?_eq_getElem (by omega)⟩

theorem Store.record_eq {st : Store} {d : Design} {i : Nat} {c : ChainPage} (hi : i < d.stored)
    (hc : d.chain[i / 256]? = some c) : st.record d i = some (readRecord st.ram c.page (i % 256)) := by
  simp [Store.record, hi, hc]

/-- R17: the records of a design whose chain fits stand at their indices. -/
theorem Store.recordsOf_getElem? {st : Store} {d : Design} (h : d.Chained) (i : Nat) :
    (st.recordsOf d)[i]? = st.record d i := by
  have hsome : ∀ j ∈ List.range d.stored, ∃ r, st.record d j = some r := by
    intro j hj
    obtain ⟨c, hc⟩ := h.exists_page (List.mem_range.1 hj)
    exact ⟨_, Store.record_eq (List.mem_range.1 hj) hc⟩
  have hmap : (st.recordsOf d).map some = (List.range d.stored).map (st.record d) := by
    rw [Store.recordsOf]
    generalize List.range d.stored = l at hsome
    induction l with
    | nil => rfl
    | cons j l ih =>
      obtain ⟨⟨r, hr⟩, hrest⟩ := List.forall_mem_cons.1 hsome
      simp [hr, ih hrest]
  have hget := congrArg (fun l => l[i]?) hmap
  simp only [List.getElem?_map] at hget
  by_cases hi : i < d.stored
  · rw [List.getElem?_range hi, Option.map_some] at hget
    cases hrec : (st.recordsOf d)[i]? with
    | none => simp [hrec] at hget
    | some r => simpa [hrec] using hget
  · have hnone : (List.range d.stored)[i]? = none := List.getElem?_eq_none (by simpa using hi)
    rw [hnone, Option.map_none, Option.map_eq_none_iff] at hget
    rw [hget, Store.record, if_neg hi]

theorem Store.recordsOf_length {st : Store} {d : Design} (h : d.Chained) : (st.recordsOf d).length = d.stored := by
  refine le_antisymm ?_ ?_
  · exact (List.length_filterMap_le _ _).trans (by simp)
  · by_contra hlt
    obtain ⟨c, hc⟩ := h.exists_page (show (st.recordsOf d).length < d.stored by omega)
    have := Store.recordsOf_getElem? (st := st) h (st.recordsOf d).length
    rw [Store.record_eq (by omega) hc] at this
    simp at this

/-! ### Writing one record (R9) -/

/-- R17: a record that was written reads back, and every other slot as it was. -/
theorem readRecord_writeRecord {ram : List Host.Cell} (hram : memWf ram = true) (page slot : Nat) (r : RawRecord)
    {q u : Nat} (hslot : slot < 256) (hu : u < 256) :
    readRecord (writeRecord ram page slot r) q u =
      if q = page ∧ u = slot then RawRecord.record r else readRecord ram q u := by
  by_cases hsame : q = page ∧ u = slot
  · obtain ⟨rfl, rfl⟩ := hsame
    simp [readRecord, memRead_writeRecord _ _ _ _ _ hram, RawRecord.record]
  · have hother : ∀ k < 3, ∀ l < 3, slotAddress q u + k ≠ slotAddress page slot + l := by
      intro k hk l hl
      unfold slotAddress
      omega
    have hread (k : Nat) (hk : k < 3) : memRead (writeRecord ram page slot r) (slotAddress q u + k) =
        memRead ram (slotAddress q u + k) := by
      rw [memRead_writeRecord _ _ _ _ _ hram, if_neg (hother k hk 2 (by decide)), if_neg (hother k hk 1 (by decide))]
      exact if_neg (hother k hk 0 (by decide))
    rw [if_neg hsame]
    simp only [readRecord, hread 1 (by decide), hread 2 (by decide)]
    rw [show memRead (writeRecord ram page slot r) (slotAddress q u) = memRead ram (slotAddress q u) from hread 0 (by decide)]

/-- The page in which the next record is stored. -/
def slotPage (d : Design) (free : List Nat) : Nat := ((takeSlot d free).1.getLast?.map ChainPage.page).getD 0

/-- R3, R9: a page of the chain after one more record: an old one, or the page that the record has opened with its summary. -/
theorem takeSlot_getElem? {d : Design} {free : List Nat} (hd : d.Chained) (hroom : d.stored % 256 = 0 → free ≠ []) (k : Nat) :
    (∀ c, d.chain[k]? = some c → ∃ c', (takeSlot d free).1[k]? = some c' ∧ c'.page = c.page ∧
      (c'.startX, c'.startY, c'.startBlock) = (c.startX, c.startY, c.startBlock)) ∧
    (d.chain[k]? = none → ∀ c', (takeSlot d free).1[k]? = some c' →
      d.stored = 256 * k ∧ (c'.startX, c'.startY, c'.startBlock) = (d.runX, d.runY, d.stops)) := by
  have hlen := hd.length
  by_cases h0 : d.stored % 256 = 0
  · obtain ⟨p, rest, rfl⟩ := List.exists_cons_of_ne_nil (hroom h0)
    rw [takeSlot_first h0]
    refine ⟨fun c hc => ⟨c, ?_, rfl, rfl⟩, fun hnone c' hc' => ?_⟩
    · rw [List.getElem?_append_left (List.getElem?_eq_some_iff.1 hc).1, hc]
    · have hk : d.chain.length ≤ k := List.getElem?_eq_none_iff.1 hnone
      have hlt := (List.getElem?_eq_some_iff.1 hc').1
      simp only [List.length_append, List.length_singleton] at hlt
      obtain rfl : k = d.chain.length := by omega
      rw [List.getElem?_concat_length] at hc'
      cases hc'
      exact ⟨by omega, rfl⟩
  · rw [takeSlot_more h0, holdOneMore]
    simp only [updAt_getElem?]
    refine ⟨fun c hc => ?_, fun hnone c' hc' => ?_⟩
    · rw [hc]
      split
      · exact ⟨_, rfl, rfl, rfl⟩
      · exact ⟨_, rfl, rfl, rfl⟩
    · rw [hnone] at hc'
      split at hc' <;> cases hc'

/-- R9: the page of the next record: it was free or is the chain's last; no stored record stands in its slot. -/
theorem slotPage_spec {d : Design} {free : List Nat} (hd : d.Chained) (hroom : d.stored % 256 = 0 → free ≠ [])
    (hnodup : (free ++ d.pages).Nodup) :
    slotPage d free ∈ free ++ d.pages ∧
      (∃ c, (takeSlot d free).1[d.stored / 256]? = some c ∧ c.page = slotPage d free) ∧
      ∀ (i : Nat) (c : ChainPage), i < d.stored → d.chain[i / 256]? = some c → c.page = slotPage d free →
        i % 256 ≠ d.stored % 256 := by
  have hlen := hd.length
  by_cases h0 : d.stored % 256 = 0
  · obtain ⟨p, rest, rfl⟩ := List.exists_cons_of_ne_nil (hroom h0)
    have hp : slotPage d (p :: rest) = p := by simp [slotPage, takeSlot_first h0]
    rw [hp, takeSlot_first h0]
    refine ⟨by simp, ⟨⟨p, d.runX, d.runY, d.stops, 1⟩, ?_, rfl⟩, fun i c hi hc hpage => ?_⟩
    · rw [show d.stored / 256 = d.chain.length by omega, List.getElem?_concat_length]
    · have hmem : p ∈ d.pages := hpage ▸ List.mem_map.2 ⟨c, List.mem_of_getElem? hc, rfl⟩
      simp [hmem] at hnodup
  · obtain ⟨c, hc⟩ := hd.exists_page (show d.stored - 1 < d.stored by omega)
    have hlast : (d.stored - 1) / 256 = d.chain.length - 1 := by omega
    have hidx : d.stored / 256 = d.chain.length - 1 := by omega
    rw [hlast] at hc
    have hcnew : (takeSlot d free).1[d.chain.length - 1]? = some { c with held := c.held + 1 } := by
      rw [takeSlot_more h0, holdOneMore, updAt_getElem?, if_pos rfl, hc]
      rfl
    have hp : slotPage d free = c.page := by
      have hnewlen : (takeSlot d free).1.length = d.chain.length := by rw [takeSlot_more h0, holdOneMore, updAt_length]
      simp [slotPage, List.getLast?_eq_getElem?, hnewlen, hcnew]
    refine ⟨?_, ⟨{ c with held := c.held + 1 }, by rw [hidx, hcnew], hp.symm⟩, fun i e hi he hpage => ?_⟩
    · rw [hp]
      exact List.mem_append_right _ (List.mem_map.2 ⟨c, List.mem_of_getElem? hc, rfl⟩)
    · have hpages : d.pages.Nodup := (List.nodup_append.1 hnodup).2.1
      have hi' : d.pages[i / 256]? = some (slotPage d free) := by simp [Design.pages, he, hpage]
      have hc' : d.pages[d.chain.length - 1]? = some (slotPage d free) := by simp [Design.pages, hc, hp]
      have hlt : i / 256 < d.pages.length := (List.getElem?_eq_some_iff.1 hi').1
      have hsame := (List.getElem?_inj hlt hpages).1 (hi'.trans hc'.symm)
      omega

/-! ### Storing a run of records (R9) -/

/-- The store as the storing of a block sees it. -/
def accStore (acc : Design × List Nat × List Host.Cell) : Store := { dir := [], free := acc.2.1, ram := acc.2.2 }

/-- What storing keeps besides: every page stands once, in the free list or the chain. -/
def Paged (acc : Design × List Nat × List Host.Cell) : Prop := (acc.2.1 ++ acc.1.pages).Nodup

theorem storeOne_ram (acc : Design × List Nat × List Host.Cell) (r : RawRecord) :
    (storeOne acc r).2.2 = writeRecord acc.2.2 (slotPage acc.1 acc.2.1) (acc.1.stored % 256) r := rfl

theorem storeOne_chain (acc : Design × List Nat × List Host.Cell) (r : RawRecord) :
    (storeOne acc r).1.chain = (takeSlot acc.1 acc.2.1).1 := rfl

section
variable {acc : Design × List Nat × List Host.Cell} (h : Storable acc) (hpaged : Paged acc) (r : RawRecord)
  (hroom : acc.1.stored % 256 = 0 → acc.2.1 ≠ [])
include h hpaged hroom

theorem storeOne_paged : Paged (storeOne acc r) := by
  obtain ⟨-, -, -, hperm⟩ := storeOne_storable h r hroom
  exact hperm.nodup_iff.2 hpaged

/-- R9: a page that is neither free nor in the chain keeps its records. -/
theorem storeOne_read {q u : Nat} (hq : q ∉ acc.2.1 ++ acc.1.pages) (hu : u < 256) :
    readRecord (storeOne acc r).2.2 q u = readRecord acc.2.2 q u := by
  obtain ⟨hmem, -, -⟩ := slotPage_spec h.chained hroom hpaged
  rw [storeOne_ram, readRecord_writeRecord h.ram _ _ _ (Nat.mod_lt _ (by decide)) hu, if_neg]
  rintro ⟨rfl, -⟩
  exact hq hmem

/-- R9, R17: the record stored follows those that were. -/
theorem storeOne_records :
    (accStore (storeOne acc r)).recordsOf (storeOne acc r).1 =
      (accStore acc).recordsOf acc.1 ++ [RawRecord.record r] := by
  obtain ⟨hs, hstored, -, -⟩ := storeOne_storable h r hroom
  obtain ⟨-, ⟨cnew, hcnew, hpnew⟩, hslots⟩ := slotPage_spec h.chained hroom hpaged
  have hmod : acc.1.stored % 256 < 256 := Nat.mod_lt _ (by decide)
  have holdlen := Store.recordsOf_length (st := accStore acc) h.chained
  refine List.ext_getElem? fun i => ?_
  rw [Store.recordsOf_getElem? hs.chained]
  rcases Nat.lt_trichotomy i acc.1.stored with hi | rfl | hi
  · obtain ⟨c, hc⟩ := h.chained.exists_page hi
    obtain ⟨c', hc', hpage, -⟩ := (takeSlot_getElem? h.chained hroom (i / 256)).1 c hc
    rw [List.getElem?_append_left (by omega), Store.recordsOf_getElem? h.chained, Store.record_eq hi hc,
      Store.record_eq (by omega) hc']
    show some (readRecord (storeOne acc r).2.2 _ _) = some (readRecord acc.2.2 _ _)
    rw [hpage, storeOne_ram, readRecord_writeRecord h.ram _ _ _ hmod (Nat.mod_lt _ (by decide)), if_neg]
    rintro ⟨hp, hmodeq⟩
    exact hslots i c hi hc hp hmodeq
  · rw [List.getElem?_append_right (by omega), holdlen, Nat.sub_self, Store.record_eq (by omega) hcnew]
    show some (readRecord (storeOne acc r).2.2 _ _) = some (RawRecord.record r)
    rw [hpnew, storeOne_ram, readRecord_writeRecord h.ram _ _ _ hmod hmod, if_pos ⟨rfl, rfl⟩]
  · rw [List.getElem?_eq_none (by simp; omega), Store.record, if_neg (by omega)]

/-- R3, R9: sound sums and summaries stay sound. -/
theorem storeOne_summed (hsum : (accStore acc).Summed acc.1) : (accStore (storeOne acc r)).Summed (storeOne acc r).1 := by
  obtain ⟨hrun, hstops, hstarts⟩ := hsum
  have hrecords := storeOne_records h hpaged r hroom
  have holdlen := Store.recordsOf_length (st := accStore acc) h.chained
  refine ⟨?_, ?_, fun k c' hc' => ?_⟩
  · rw [hrecords, moveSum_append, ← hrun, moveSum_singleton]
    rfl
  · rw [hrecords, stopCount_append, ← hstops, stopCount_singleton]
    simp only [rawRecord_stop_iff]
    rfl
  · obtain ⟨hold, hnew⟩ := takeSlot_getElem? h.chained hroom k
    rw [hrecords]
    cases hk : acc.1.chain[k]? with
    | some c =>
      obtain ⟨e, he, -, hstart⟩ := hold c hk
      obtain rfl : e = c' := Option.some.inj (he.symm.trans hc')
      simp only [Prod.mk.injEq] at hstart
      obtain ⟨hx, hy, hb⟩ := hstart
      have hlt : k < acc.1.chain.length := (List.getElem?_eq_some_iff.1 hk).1
      have hlen := h.chained.length
      rw [List.take_append_of_le_length (by omega), hx, hy, hb]
      exact hstarts k c hk
    | none =>
      obtain ⟨hat, hstart⟩ := hnew hk c' hc'
      simp only [Prod.mk.injEq] at hstart
      obtain ⟨hx, hy, hb⟩ := hstart
      rw [List.take_append_of_le_length (by omega), List.take_of_length_le (by omega), hx, hy, hb]
      exact ⟨hrun, hstops⟩

end

/-- R9: a record that needs a new page finds one, and the records after it find theirs. -/
theorem Design.newPages_succ {acc : Design × List Nat × List Host.Cell} (h : Storable acc) (r : RawRecord) {n : Nat}
    (hroom : acc.1.newPages (n + 1) ≤ acc.2.1.length) :
    (acc.1.stored % 256 = 0 → acc.2.1 ≠ []) ∧ (storeOne acc r).1.newPages n ≤ (storeOne acc r).2.1.length := by
  have hone : acc.1.stored % 256 = 0 → acc.2.1 ≠ [] := by
    intro h0 hnil
    rw [hnil] at hroom
    simp [Design.newPages] at hroom
    omega
  obtain ⟨-, hstored, hfree, -⟩ := storeOne_storable h r hone
  simp only [Design.newPages, hstored] at *
  exact ⟨hone, by omega⟩

/-- R9, R17: a run of records is stored behind the old ones; sound sums stay sound, and other pages keep their records. -/
theorem foldl_storeOne_records (rs : List RawRecord) (acc : Design × List Nat × List Host.Cell) (h : Storable acc)
    (hpaged : Paged acc) (hroom : acc.1.newPages rs.length ≤ acc.2.1.length) :
    (accStore (rs.foldl storeOne acc)).recordsOf (rs.foldl storeOne acc).1 =
        (accStore acc).recordsOf acc.1 ++ rs.map RawRecord.record ∧
      ((accStore acc).Summed acc.1 → (accStore (rs.foldl storeOne acc)).Summed (rs.foldl storeOne acc).1) ∧
      ∀ q u : Nat, q ∉ acc.2.1 ++ acc.1.pages → u < 256 →
        readRecord (rs.foldl storeOne acc).2.2 q u = readRecord acc.2.2 q u := by
  induction rs generalizing acc with
  | nil => exact ⟨by simp, id, fun _ _ _ _ => rfl⟩
  | cons r rs ih =>
    obtain ⟨hone, hrest⟩ := Design.newPages_succ h r hroom
    obtain ⟨hs, -, -, hperm⟩ := storeOne_storable h r hone
    obtain ⟨hrecords, hsummed, hread⟩ := ih (storeOne acc r) hs (storeOne_paged h hpaged r hone) hrest
    refine ⟨?_, fun hsum => hsummed (storeOne_summed h hpaged r hone hsum), fun q u hq hu => ?_⟩
    · rw [List.foldl_cons, hrecords, storeOne_records h hpaged r hone, List.map_cons, List.append_assoc]
      rfl
    · rw [List.foldl_cons, hread q u (fun hmem => hq (hperm.mem_iff.1 hmem)) hu, storeOne_read h hpaged r hone hq hu]

/-- R9, R10: the sums and the check register after a run of records; nothing else of the entry changes. -/
theorem foldl_storeOne_entry (rs : List RawRecord) (acc : Design × List Nat × List Host.Cell) :
    let e := (rs.foldl storeOne acc).1
    (e.runX, e.runY) = (acc.1.runX, acc.1.runY) + moveSum (rs.map RawRecord.record) ∧
      e.stops = acc.1.stops + stopCount (rs.map RawRecord.record) ∧
      e.crc = (rs.flatMap RawRecord.bytes).foldl crcByte acc.1.crc ∧
      e = { acc.1 with stored := e.stored, chain := e.chain, runX := e.runX, runY := e.runY, crc := e.crc, stops := e.stops } := by
  induction rs generalizing acc with
  | nil => exact ⟨by simp, by simp, rfl, rfl⟩
  | cons r rs ih =>
    obtain ⟨hrun, hstops, hcrc, hrest⟩ := ih (storeOne acc r)
    refine ⟨?_, ?_, ?_, hrest⟩
    · rw [List.foldl_cons, hrun, List.map_cons, ← List.singleton_append, moveSum_append, moveSum_singleton, ← add_assoc]
      rfl
    · rw [List.foldl_cons, hstops, List.map_cons, ← List.singleton_append, stopCount_append, stopCount_singleton, ← add_assoc]
      simp only [rawRecord_stop_iff]
      rfl
    · rw [List.foldl_cons, hcrc, List.flatMap_cons, List.foldl_append]
      rfl

/-- R1: with distinct numbers a design of the directory is found under its number. -/
theorem Store.find_of_mem {st : Store} {d : Design} (hn : (st.designs.map Design.number).Nodup) (hd : d ∈ st.designs) :
    st.find d.number = some d := by
  obtain ⟨l₁, l₂, hsplit⟩ := List.append_of_mem hd
  have hfind : st.find d.number = st.designs.find? fun e => e.number == d.number := rfl
  rw [hsplit] at hn
  rw [hfind, hsplit, List.find?_append, List.find?_eq_none.2 ?_]
  · simp
  · intro e he
    simp only [List.map_append, List.map_cons, List.nodup_append, List.mem_map, List.mem_cons] at hn
    obtain ⟨-, -, hbefore⟩ := hn
    simpa using hbefore _ ⟨e, he, rfl⟩ _ (Or.inl rfl)

/-- Settles O13. -/
theorem storedBlockReadsBack : Obligations.StoredBlockReadsBack := by
  intro st d rs hsound hfind hlen _ hneeds
  obtain ⟨hd, -⟩ := Store.find_some hfind
  obtain ⟨l₁, l₂, hsplit⟩ := List.append_of_mem hd
  have hchained : st.chained = l₁.flatMap Design.pages ++ (d.pages ++ l₂.flatMap Design.pages) := by
    rw [Store.chained_eq_pages, hsplit, List.flatMap_append, List.flatMap_cons]
  have hpages : (st.free ++ (l₁.flatMap Design.pages ++ (d.pages ++ l₂.flatMap Design.pages))).Nodup :=
    hchained ▸ hsound.pages.nodup_iff.2 List.nodup_range
  have hpaged : Paged (d, st.free, st.ram) := by
    refine hpages.sublist ?_
    exact (List.Sublist.refl _).append ((List.sublist_append_left _ _).trans (List.sublist_append_right _ _))
  have hstorable : Storable (d, st.free, st.ram) := ⟨hsound.chains d hd, hsound.ascending, hsound.ram⟩
  have hroom : d.newPages rs.length ≤ st.free.length := by
    by_cases hpage : d.needsPage rs.length = true
    · have := List.length_pos_of_ne_nil (hneeds hpage)
      unfold Design.newPages
      omega
    · simp only [Design.needsPage, Bool.or_eq_true, beq_iff_eq, decide_eq_true_eq, not_or] at hpage
      unfold Design.newPages
      omega
  have hsound' := hsound.storeBlock hd rs hroom
  have hdesigns := Store.designs_storeBlock rs hsplit hsound.numbers
  obtain ⟨hstored, hstored', -, -⟩ := foldl_storeOne_storable rs (d, st.free, st.ram) hstorable hroom
  obtain ⟨hrecords, hsummed, hread⟩ := foldl_storeOne_records rs (d, st.free, st.ram) hstorable hpaged hroom
  obtain ⟨hrun, hstops, hcrc, hrest⟩ := foldl_storeOne_entry rs (d, st.free, st.ram)
  refine ⟨st.blockEntry d rs, ?find, hstored', rfl, hrun, hstops, hcrc, ?rest, ?summed, hrecords, fun e he hne => ⟨?mem, ?others⟩⟩
  case find =>
    have := Store.find_of_mem hsound'.numbers (d := st.blockEntry d rs) (by rw [hdesigns]; simp)
    rwa [Store.blockEntry_number] at this
  case rest => exact congrArg (fun x : Design => { x with nextBlock := d.nextBlock + 1 }) hrest
  case summed =>
    intro hsum
    obtain ⟨h1, h2, h3⟩ := hsummed ⟨hsum.run, hsum.stops, hsum.starts⟩
    exact ⟨h1, h2, h3⟩
  case mem =>
    rw [hsplit] at he
    rw [hdesigns]
    simp only [List.mem_append, List.mem_cons] at he ⊢
    rcases he with he | rfl | he
    · exact Or.inl he
    · exact absurd rfl hne
    · exact Or.inr (Or.inr he)
  case others =>
    have hapart : ∀ c ∈ e.chain, c.page ∉ st.free ++ d.pages := by
      intro c hc hmem
      have hin : c.page ∈ l₁.flatMap Design.pages ∨ c.page ∈ l₂.flatMap Design.pages := by
        have hpage : c.page ∈ e.pages := List.mem_map.2 ⟨c, hc, rfl⟩
        rw [hsplit] at he
        simp only [List.mem_append, List.mem_cons] at he
        rcases he with he | rfl | he
        · exact Or.inl (List.mem_flatMap.2 ⟨e, he, hpage⟩)
        · exact absurd rfl hne
        · exact Or.inr (List.mem_flatMap.2 ⟨e, he, hpage⟩)
      obtain ⟨-, hrest, hfree⟩ := List.nodup_append.1 hpages
      obtain ⟨-, htail, hbefore⟩ := List.nodup_append.1 hrest
      obtain ⟨-, -, hafter⟩ := List.nodup_append.1 htail
      rcases List.mem_append.1 hmem with hmem | hmem
      · refine hfree _ hmem _ ?_ rfl
        simp only [List.mem_append]
        exact hin.imp_right Or.inr
      · rcases hin with hin | hin
        · exact hbefore _ hin _ (List.mem_append_left _ hmem) rfl
        · exact hafter _ hmem _ hin rfl
    have hrecord : (st.storeBlock d rs).record e = st.record e := by
      funext i
      unfold Store.record
      split
      · cases hc : e.chain[i / 256]? with
        | none => rfl
        | some c =>
          exact congrArg some (hread c.page (i % 256) (hapart c (List.mem_of_getElem? hc)) (Nat.mod_lt _ (by decide)))
      · rfl
    rw [Store.recordsOf, hrecord, Store.recordsOf]

/-! ### Positions and colour blocks (R18, R19) -/

section
variable {st : Store} {d : Design} (hchained : d.Chained)
include hchained

/-- R4, R18: the sums over the first records of a page are those of the stored records that follow its start. -/
theorem Store.pageSum_eq {k n : Nat} {c : ChainPage} (hc : d.chain[k]? = some c) (hn : n ≤ 256)
    (hin : 256 * k + n ≤ d.stored) :
    moveSum ((st.recordsOf d).take (256 * k + n)) =
        moveSum ((st.recordsOf d).take (256 * k)) + pageSum st.ram c.page n ∧
      stopCount ((st.recordsOf d).take (256 * k + n)) =
        stopCount ((st.recordsOf d).take (256 * k)) + pageStops st.ram c.page n := by
  induction n with
  | zero => exact ⟨by simp [pageSum], by simp [pageStops]⟩
  | succ n ih =>
    obtain ⟨hsum, hstops⟩ := ih (by omega) (by omega)
    have hrec : (st.recordsOf d)[256 * k + n]? = some (readRecord st.ram c.page n) := by
      have hdiv : (256 * k + n) / 256 = k := by omega
      have hmod : (256 * k + n) % 256 = n := by omega
      rw [Store.recordsOf_getElem? hchained, Store.record_eq (c := c) (by omega) (by rw [hdiv, hc]), hmod]
    have htake : (st.recordsOf d).take (256 * k + (n + 1)) =
        (st.recordsOf d).take (256 * k + n) ++ [readRecord st.ram c.page n] := by
      rw [← Nat.add_assoc, List.take_add_one, hrec]
      rfl
    refine ⟨?_, ?_⟩
    · rw [htake, moveSum_append, hsum, moveSum_singleton, pageSum, add_assoc]
      rfl
    · rw [htake, stopCount_append, hstops, stopCount_singleton, pageStops, Nat.add_assoc]

/-- R18, R19: position and colour block of a record, and of the record that would follow the last. -/
theorem Store.position_block_eq (hsum : st.Summed d) {i : Nat} (hi : i ≤ d.stored) :
    st.position d i = moveSum ((st.recordsOf d).take i) ∧ st.block d i = stopCount ((st.recordsOf d).take i) := by
  have hlen := Store.recordsOf_length (st := st) hchained
  by_cases hlt : i < d.stored
  · obtain ⟨c, hc⟩ := hchained.exists_page hlt
    obtain ⟨hstart, hblock⟩ := hsum.starts _ c hc
    have hi' : 256 * (i / 256) + i % 256 = i := Nat.div_add_mod i 256
    obtain ⟨hmove, hstop⟩ := Store.pageSum_eq (st := st) hchained hc (n := i % 256) (by omega) (by omega)
    rw [hi'] at hmove hstop
    rw [hmove, hstop, ← hstart, ← hblock]
    simp only [Store.position, Store.block, hlt, hc, if_true]
    exact ⟨rfl, trivial⟩
  · obtain rfl : i = d.stored := by omega
    rw [List.take_of_length_le (by omega), ← hsum.run, ← hsum.stops]
    simp [Store.position, Store.block]

end

/-- R19: the scan of a page finds the STOP that it counts to. -/
theorem scanStop_eq (ram : List Host.Cell) (page n slot k : Nat) (hk : 1 ≤ k)
    (hfound : pageStops ram page slot + k ≤ pageStops ram page (slot + n)) :
    ∃ m : Nat, scanStop ram page n slot k = some (m + 1) ∧ m < slot + n ∧ (readRecord ram page m).kind = .stop ∧
      pageStops ram page m + 1 = pageStops ram page slot + k := by
  induction n generalizing slot k with
  | zero => simp at hfound; omega
  | succ n ih =>
    have hnext : pageStops ram page (slot + 1) =
        pageStops ram page slot + if (readRecord ram page slot).kind = .stop then 1 else 0 := rfl
    rw [show slot + (n + 1) = slot + 1 + n by omega] at hfound
    by_cases hstop : (readRecord ram page slot).kind = .stop
    · rw [if_pos hstop] at hnext
      by_cases hlast : k ≤ 1
      · exact ⟨slot, by rw [scanStop, if_pos hstop, if_pos hlast], by omega, hstop, by omega⟩
      · obtain ⟨m, hm, hlt, hkind, hcount⟩ := ih (slot + 1) (k - 1) (by omega) (by omega)
        exact ⟨m, by rw [scanStop, if_pos hstop, if_neg hlast, hm], by omega, hkind, by omega⟩
    · rw [if_neg hstop] at hnext
      obtain ⟨m, hm, hlt, hkind, hcount⟩ := ih (slot + 1) k hk (by omega)
      exact ⟨m, by rw [scanStop, if_neg hstop, hm], by omega, hkind, by omega⟩

/-- What a test picks from a list in which it holds of a first run only. -/
theorem filter_eq_prefix_of_pairwise {α : Type} (p : α → Bool) (l : List α)
    (h : l.Pairwise fun a b => p b = true → p a = true) :
    ∃ after : List α, l = l.filter p ++ after ∧ ∀ a ∈ after, p a = false := by
  induction l with
  | nil => exact ⟨[], rfl, by simp⟩
  | cons a l ih =>
    obtain ⟨hfirst, hrest⟩ := List.pairwise_cons.1 h
    by_cases ha : p a = true
    · obtain ⟨after, hl, hafter⟩ := ih hrest
      exact ⟨after, by rw [List.filter_cons_of_pos ha, List.cons_append, ← hl], hafter⟩
    · have hnone : ∀ b ∈ l, p b = false := fun b hb => Bool.eq_false_iff.2 fun hpb => ha (hfirst b hb hpb)
      refine ⟨a :: l, ?_, List.forall_mem_cons.2 ⟨Bool.eq_false_iff.2 ha, hnone⟩⟩
      rw [List.filter_cons_of_neg ha, List.filter_eq_nil_iff.2 fun b hb => by simp [hnone b hb]]
      rfl

theorem stopCount_take_le (l : List Record) {m n : Nat} (h : m ≤ n) : stopCount (l.take m) ≤ stopCount (l.take n) :=
  (List.take_sublist_take_left h).countP_le

/-- R3: the blocks in which the pages start do not fall. -/
theorem Store.Summed.startBlocks_rise {st : Store} {d : Design} (h : st.Summed d) (b : Nat) :
    d.chain.Pairwise fun c e => decide (e.startBlock < b) = true → decide (c.startBlock < b) = true := by
  refine List.pairwise_iff_getElem.2 fun i j hi hj hij => ?_
  obtain ⟨-, hc⟩ := h.starts i _ (List.getElem?_eq_getElem hi)
  obtain ⟨-, he⟩ := h.starts j _ (List.getElem?_eq_getElem hj)
  have := stopCount_take_le (st.recordsOf d) (show 256 * i ≤ 256 * j by omega)
  simp only [decide_eq_true_eq, hc, he]
  omega

/-- R19: the record after the b-th STOP opens colour block b. -/
theorem Store.firstOfBlock_eq {st : Store} {d : Design} (hchained : d.Chained) (hsum : st.Summed d) {b : Nat} (hb : 0 < b)
    (hstops : b ≤ d.stops) :
    ∃ i : Nat, st.firstOfBlock d b = some (i + 1) ∧ (st.record d i).map Record.kind = some .stop ∧
      stopCount ((st.recordsOf d).take i) + 1 = b := by
  have hlen := hchained.length
  have hreclen := Store.recordsOf_length (st := st) hchained
  obtain ⟨after, hsplit, hafter⟩ := filter_eq_prefix_of_pairwise _ d.chain (hsum.startBlocks_rise b)
  have hpositive : 0 < d.stored := by
    by_contra h0
    have hempty : st.recordsOf d = [] := List.eq_nil_of_length_eq_zero (by omega)
    have hcount := hsum.stops
    rw [hempty, stopCount_nil] at hcount
    omega
  have hbefore : d.chain.filter (fun c => decide (c.startBlock < b)) ≠ [] := by
    obtain ⟨c, hc⟩ := hchained.exists_page hpositive
    obtain ⟨-, hstart⟩ := hsum.starts _ c hc
    simp only [Nat.zero_div, Nat.mul_zero, List.take_zero, stopCount_nil] at hstart
    exact List.ne_nil_of_mem (List.mem_filter.2 ⟨List.mem_of_getElem? hc, by simp [hstart, hb]⟩)
  generalize hbef : d.chain.filter (fun c => decide (c.startBlock < b)) = before at hsplit hbefore
  obtain ⟨c, hc⟩ : ∃ c, before.getLast? = some c := ⟨_, List.getLast?_eq_some_getLast hbefore⟩
  have hmpos : 0 < before.length := List.length_pos_of_ne_nil hbefore
  have hchain : d.chain[before.length - 1]? = some c := by
    rw [hsplit, List.getElem?_append_left (by omega), ← List.getLast?_eq_getElem?, hc]
  have hlow : c.startBlock < b := by
    have hmem : c ∈ d.chain.filter fun c => decide (c.startBlock < b) := hbef ▸ List.mem_of_getLast? hc
    simpa using (List.mem_filter.1 hmem).2
  obtain ⟨-, hstart⟩ := hsum.starts _ c hchain
  have hheld := hchained.held _ c hchain
  have hidx : before.length - 1 < d.chain.length := (List.getElem?_eq_some_iff.1 hchain).1
  have hhigh : b ≤ stopCount ((st.recordsOf d).take (256 * (before.length - 1) + c.held)) := by
    cases hafterl : after with
    | nil =>
      have hwhole : 256 * (before.length - 1) + c.held = d.stored := by
        rw [hafterl, List.append_nil] at hsplit
        rw [hsplit] at hlen
        omega
      rw [hwhole, List.take_of_length_le (by omega), ← hsum.stops]
      exact hstops
    | cons e rest =>
      have he : d.chain[before.length]? = some e := by
        rw [hsplit, hafterl, List.getElem?_append_right (Nat.le_refl _), Nat.sub_self]
        rfl
      obtain ⟨-, hestart⟩ := hsum.starts _ e he
      have hlt := (List.getElem?_eq_some_iff.1 he).1
      have hfull : 256 * (before.length - 1) + c.held = 256 * before.length := by omega
      have hnot : ¬e.startBlock < b := by simpa using hafter e (by rw [hafterl]; simp)
      rw [hfull, ← hestart]
      omega
  have hwithin : 256 * (before.length - 1) + c.held ≤ d.stored := by omega
  obtain ⟨-, hstopsIn⟩ := Store.pageSum_eq (st := st) hchained hchain (n := c.held) (by omega) hwithin
  have hzero : pageStops st.ram c.page 0 = 0 := rfl
  obtain ⟨m, hscan, hm, hkind, hcount⟩ := scanStop_eq st.ram c.page c.held 0 (b - c.startBlock) (by omega)
    (by rw [Nat.zero_add]; omega)
  obtain ⟨-, hstopsAt⟩ := Store.pageSum_eq (st := st) hchained hchain (n := m) (by omega) (by omega)
  refine ⟨256 * (before.length - 1) + m, ?_, ?_, ?_⟩
  · simp only [Store.firstOfBlock, hbef, hc, hscan, if_neg (show ¬b = 0 by omega), if_neg (Nat.not_lt.2 hstops)]
    rfl
  · have hdiv : (256 * (before.length - 1) + m) / 256 = before.length - 1 := by omega
    have hmod : (256 * (before.length - 1) + m) % 256 = m := by omega
    rw [Store.record_eq (c := c) (by omega) (by rw [hdiv, hchain]), hmod, Option.map_some, hkind]
  · rw [hstopsAt]
    omega

/-- Settles O14. -/
theorem positionAndBlockOfRecord : Obligations.PositionAndBlockOfRecord := by
  intro st d hchained hsum
  refine ⟨fun i hi => Store.position_block_eq hchained hsum hi, rfl,
    fun b hb hstops => Store.firstOfBlock_eq hchained hsum hb hstops, fun b hb => ?_⟩
  rw [Store.firstOfBlock, if_neg (by omega), if_pos hb]

end Sys2Proof.Machine
end

section
/-! PROOF. What each shared operation changes and what it leaves alone: latching, the ending of moves, the shaft unit's requests,
the prefetcher, planned stops, and the entries to the player's states at rest. -/

namespace Sys2Proof.Machine

/-! ### What an operation leaves alone -/

@[simp] theorem State.latch_link (s : State) (e : Event) (detail : List Byte) :
    (s.latch e detail).link.taking = s.link.taking ∧ (s.latch e detail).link.reply = s.link.reply ∧
      (s.latch e detail).link.requests = s.link.requests ∧ (s.latch e detail).link.receiver = s.link.receiver := by
  have hchoose (l : Link) : l.choose.taking = l.taking ∧ l.choose.reply = l.reply ∧ l.choose.requests = l.requests ∧
      l.choose.receiver = l.receiver := by
    unfold Link.choose
    (repeat' split) <;> simp
  have hoffer (n : Notice) (l : Link) : (Link.offer n l).taking = l.taking ∧ (Link.offer n l).reply = l.reply ∧
      (Link.offer n l).requests = l.requests ∧ (Link.offer n l).receiver = l.receiver := by
    unfold Link.offer
    simp only []
    (repeat' split) <;> simp [hchoose]
  rw [s.latch_eq]
  simp only []
  split
  · exact hoffer _ _
  · simp

@[simp] theorem State.latch_keeps (s : State) (e : Event) (detail : List Byte) :
    (s.latch e detail).pending = s.pending ∧ (s.latch e detail).straps = s.straps ∧
      (s.latch e detail).resetHeld = s.resetHeld ∧ (s.latch e detail).choices = s.choices ∧
      (s.latch e detail).store = s.store ∧ (s.latch e detail).player = s.player ∧ (s.latch e detail).gov = s.gov ∧
      (s.latch e detail).shaft = s.shaft ∧ (s.latch e detail).outs = s.outs ∧ (s.latch e detail).frame = s.frame ∧
      (s.latch e detail).nc = s.nc ∧ (s.latch e detail).thread = s.thread ∧ (s.latch e detail).heads = s.heads := by
  rw [s.latch_eq]
  simp

@[simp] theorem State.reportPlayer_keeps (s : State) :
    s.reportPlayer.pending = s.pending ∧ s.reportPlayer.straps = s.straps ∧ s.reportPlayer.resetHeld = s.resetHeld ∧
      s.reportPlayer.choices = s.choices ∧ s.reportPlayer.store = s.store ∧ s.reportPlayer.player = s.player ∧
      s.reportPlayer.gov = s.gov ∧ s.reportPlayer.shaft = s.shaft ∧ s.reportPlayer.outs = s.outs ∧
      s.reportPlayer.frame = s.frame ∧ s.reportPlayer.nc = s.nc ∧ s.reportPlayer.thread = s.thread ∧
      s.reportPlayer.heads = s.heads := by
  simp [State.reportPlayer]

@[simp] theorem State.lend_keeps (s : State) :
    s.lend.pending = s.pending ∧ s.lend.straps = s.straps ∧ s.lend.resetHeld = s.resetHeld ∧ s.lend.choices = s.choices ∧
      s.lend.store = s.store ∧ s.lend.player = s.player ∧ s.lend.gov = s.gov ∧ s.lend.shaft = s.shaft ∧
      s.lend.outs = s.outs ∧ s.lend.nc = s.nc ∧ s.lend.thread = s.thread ∧ s.lend.heads = s.heads ∧ s.lend.ev = s.ev ∧
      s.lend.link = s.link := by
  unfold State.lend
  (repeat' split) <;> simp

@[simp] theorem State.release_keeps (s : State) :
    s.release.pending = s.pending ∧ s.release.straps = s.straps ∧ s.release.resetHeld = s.resetHeld ∧
      s.release.choices = s.choices ∧ s.release.store = s.store ∧ s.release.player = s.player ∧ s.release.gov = s.gov ∧
      s.release.shaft = s.shaft ∧ s.release.outs = s.outs ∧ s.release.nc = s.nc ∧ s.release.thread = s.thread ∧
      s.release.heads = s.heads ∧ s.release.ev = s.ev ∧ s.release.link = s.link := by
  unfold State.release
  (repeat' split) <;> simp

@[simp] theorem State.abandonSewing_keeps (s : State) :
    s.abandonSewing.pending = s.pending ∧ s.abandonSewing.straps = s.straps ∧ s.abandonSewing.resetHeld = s.resetHeld ∧
      s.abandonSewing.choices = s.choices ∧ s.abandonSewing.store = s.store ∧ s.abandonSewing.player = s.player ∧
      s.abandonSewing.shaft = s.shaft ∧ s.abandonSewing.outs = s.outs ∧ s.abandonSewing.nc = s.nc ∧
      s.abandonSewing.thread = s.thread ∧ s.abandonSewing.heads = s.heads ∧ s.abandonSewing.ev = s.ev ∧
      s.abandonSewing.link = s.link := by
  unfold State.abandonSewing
  split <;> simp

@[simp] theorem State.finishMove_keeps (s : State) (abort : Option AbortCause) :
    (s.finishMove abort).pending = s.pending ∧ (s.finishMove abort).straps = s.straps ∧
      (s.finishMove abort).resetHeld = s.resetHeld ∧ (s.finishMove abort).choices = s.choices ∧
      (s.finishMove abort).store = s.store ∧ (s.finishMove abort).player = s.player ∧ (s.finishMove abort).gov = s.gov ∧
      (s.finishMove abort).shaft = s.shaft ∧ (s.finishMove abort).outs = s.outs ∧ (s.finishMove abort).nc = s.nc ∧
      (s.finishMove abort).thread = s.thread ∧ (s.finishMove abort).heads = s.heads := by
  unfold State.finishMove
  split <;> simp

@[simp] theorem State.slowMove_keeps (s : State) (cause : AbortCause) :
    (s.slowMove cause).pending = s.pending ∧ (s.slowMove cause).straps = s.straps ∧
      (s.slowMove cause).resetHeld = s.resetHeld ∧ (s.slowMove cause).choices = s.choices ∧
      (s.slowMove cause).store = s.store ∧ (s.slowMove cause).player = s.player ∧ (s.slowMove cause).gov = s.gov ∧
      (s.slowMove cause).shaft = s.shaft ∧ (s.slowMove cause).outs = s.outs ∧ (s.slowMove cause).nc = s.nc ∧
      (s.slowMove cause).thread = s.thread ∧ (s.slowMove cause).heads = s.heads := by
  unfold State.slowMove
  (repeat' split) <;> simp

@[simp] theorem State.slowPositioner_keeps (s : State) (cause : AbortCause) :
    (s.slowPositioner cause).pending = s.pending ∧ (s.slowPositioner cause).straps = s.straps ∧
      (s.slowPositioner cause).resetHeld = s.resetHeld ∧ (s.slowPositioner cause).choices = s.choices ∧
      (s.slowPositioner cause).store = s.store ∧ (s.slowPositioner cause).player = s.player ∧
      (s.slowPositioner cause).gov = s.gov ∧ (s.slowPositioner cause).shaft = s.shaft ∧
      (s.slowPositioner cause).outs = s.outs ∧ (s.slowPositioner cause).nc = s.nc ∧
      (s.slowPositioner cause).thread = s.thread ∧ (s.slowPositioner cause).heads = s.heads := by
  unfold State.slowPositioner
  split <;> simp

@[simp] theorem State.stopFrame_keeps (s : State) (cause : AbortCause) :
    (s.stopFrame cause).pending = s.pending ∧ (s.stopFrame cause).straps = s.straps ∧
      (s.stopFrame cause).resetHeld = s.resetHeld ∧ (s.stopFrame cause).choices = s.choices ∧
      (s.stopFrame cause).store = s.store ∧ (s.stopFrame cause).player = s.player ∧ (s.stopFrame cause).shaft = s.shaft ∧
      (s.stopFrame cause).outs = s.outs ∧ (s.stopFrame cause).nc = s.nc ∧ (s.stopFrame cause).thread = s.thread ∧
      (s.stopFrame cause).heads = s.heads := by
  simp [State.stopFrame]

@[simp] theorem State.disengage_keeps (s : State) :
    s.disengage.pending = s.pending ∧ s.disengage.straps = s.straps ∧ s.disengage.resetHeld = s.resetHeld ∧
      s.disengage.choices = s.choices ∧ s.disengage.store = s.store ∧ s.disengage.player = s.player ∧
      s.disengage.gov = s.gov ∧ s.disengage.shaft = s.shaft ∧ s.disengage.outs = s.outs ∧ s.disengage.frame = s.frame ∧
      s.disengage.nc = s.nc ∧ s.disengage.thread = s.thread ∧ s.disengage.ev = s.ev ∧ s.disengage.link = s.link := by
  simp [State.disengage]

@[simp] theorem State.endRevolution_keeps (s : State) (completed : Bool) :
    (s.endRevolution completed).pending = s.pending ∧ (s.endRevolution completed).straps = s.straps ∧
      (s.endRevolution completed).resetHeld = s.resetHeld ∧ (s.endRevolution completed).choices = s.choices ∧
      (s.endRevolution completed).store = s.store ∧ (s.endRevolution completed).gov = s.gov ∧
      (s.endRevolution completed).shaft = s.shaft ∧ (s.endRevolution completed).frame = s.frame ∧
      (s.endRevolution completed).nc = s.nc ∧ (s.endRevolution completed).ev = s.ev ∧
      (s.endRevolution completed).link = s.link := by
  unfold State.endRevolution
  simp only []
  (repeat' split) <;> simp

@[simp] theorem State.enterOff_keeps (s : State) :
    s.enterOff.pending = s.pending ∧ s.enterOff.straps = s.straps ∧ s.enterOff.resetHeld = s.resetHeld ∧
      s.enterOff.choices = s.choices ∧ s.enterOff.store = s.store ∧ s.enterOff.player = s.player ∧
      s.enterOff.frame = s.frame ∧ s.enterOff.nc = s.nc ∧ s.enterOff.thread = s.thread ∧ s.enterOff.heads = s.heads ∧
      s.enterOff.ev = s.ev ∧ s.enterOff.link = s.link := by
  simp [State.enterOff]

@[simp] theorem State.enterBraking_keeps (s : State) :
    s.enterBraking.pending = s.pending ∧ s.enterBraking.straps = s.straps ∧ s.enterBraking.resetHeld = s.resetHeld ∧
      s.enterBraking.choices = s.choices ∧ s.enterBraking.store = s.store ∧ s.enterBraking.player = s.player ∧
      s.enterBraking.frame = s.frame ∧ s.enterBraking.nc = s.nc ∧ s.enterBraking.thread = s.thread ∧
      s.enterBraking.heads = s.heads ∧ s.enterBraking.ev = s.ev ∧ s.enterBraking.link = s.link := by
  unfold State.enterBraking
  simp only []
  (repeat' split) <;> simp

@[simp] theorem State.brakeRequest_keeps (s : State) :
    s.brakeRequest.pending = s.pending ∧ s.brakeRequest.straps = s.straps ∧ s.brakeRequest.resetHeld = s.resetHeld ∧
      s.brakeRequest.choices = s.choices ∧ s.brakeRequest.store = s.store ∧ s.brakeRequest.player = s.player ∧
      s.brakeRequest.frame = s.frame ∧ s.brakeRequest.thread = s.thread ∧ s.brakeRequest.heads = s.heads ∧
      s.brakeRequest.ev = s.ev ∧ s.brakeRequest.link = s.link := by
  unfold State.brakeRequest
  simp only []
  (repeat' split) <;> simp

@[simp] theorem State.enterHalted_keeps (s : State) (c : HaltCause) :
    (s.enterHalted c).pending = s.pending ∧ (s.enterHalted c).straps = s.straps ∧
      (s.enterHalted c).resetHeld = s.resetHeld ∧ (s.enterHalted c).choices = s.choices ∧
      (s.enterHalted c).store = s.store := by
  unfold State.enterHalted
  simp only []
  (repeat' split) <;> simp

@[simp] theorem State.haltAgain_keeps (s : State) (kept c : HaltCause) :
    (s.haltAgain kept c).pending = s.pending ∧ (s.haltAgain kept c).straps = s.straps ∧
      (s.haltAgain kept c).resetHeld = s.resetHeld ∧ (s.haltAgain kept c).choices = s.choices ∧
      (s.haltAgain kept c).store = s.store ∧ (s.haltAgain kept c).thread = s.thread ∧
      (s.haltAgain kept c).heads = s.heads ∧ (s.haltAgain kept c).ev = s.ev ∧ (s.haltAgain kept c).link = s.link := by
  unfold State.haltAgain
  simp only []
  (repeat' split) <;> simp

@[simp] theorem State.reportFault_keeps (s : State) (c : HaltCause) :
    (s.reportFault c).pending = s.pending ∧ (s.reportFault c).straps = s.straps ∧
      (s.reportFault c).resetHeld = s.resetHeld ∧ (s.reportFault c).choices = s.choices ∧
      (s.reportFault c).store = s.store := by
  unfold State.reportFault
  split <;> simp

@[simp] theorem State.shaftFault_keeps (s : State) (c : ShaftCause) :
    (s.shaftFault c).pending = s.pending ∧ (s.shaftFault c).straps = s.straps ∧ (s.shaftFault c).resetHeld = s.resetHeld ∧
      (s.shaftFault c).choices = s.choices ∧ (s.shaftFault c).store = s.store := by
  unfold State.shaftFault
  simp only []
  (repeat' split) <;> simp

@[simp] theorem State.axisFault_keeps (s : State) (c : AxisCause) :
    (s.axisFault c).pending = s.pending ∧ (s.axisFault c).straps = s.straps ∧ (s.axisFault c).resetHeld = s.resetHeld ∧
      (s.axisFault c).choices = s.choices ∧ (s.axisFault c).store = s.store := by
  unfold State.axisFault
  simp only []
  (repeat' split) <;> simp

@[simp] theorem State.caseFault_keeps (s : State) (c : CaseCause) :
    (s.caseFault c).pending = s.pending ∧ (s.caseFault c).straps = s.straps ∧ (s.caseFault c).resetHeld = s.resetHeld ∧
      (s.caseFault c).choices = s.choices ∧ (s.caseFault c).store = s.store := by
  simp [State.caseFault]


/-! ### The frame unit's endings (R62, R93, R94, R96) -/

@[simp] theorem Frame.settleOwner_keeps (f : Frame) :
    f.settleOwner.x = f.x ∧ f.settleOwner.y = f.y ∧ f.settleOwner.known = f.known ∧ f.settleOwner.move = f.move ∧
      f.settleOwner.hoops = f.hoops ∧ f.settleOwner.hoop = f.hoop ∧ f.settleOwner.settings = f.settings ∧
      f.settleOwner.readyX = f.readyX ∧ f.settleOwner.readyY = f.readyY := by
  unfold Frame.settleOwner
  (repeat' split) <;> simp

/-- R96, R97: the end of a move, as one change of the frame unit and one latching. -/
theorem State.finishMove_eq {s : State} {m : FrameMove} (h : s.frame.move = some m) (abort : Option AbortCause) :
    s.finishMove abort = { s with frame := { s.frame with move := none }.settleOwner }.latch .frameDone
      (b1 m.op.code ++ bFlag abort.isSome ++ o1 (abort.map AbortCause.code) ++ sBytes4 s.frame.x ++ sBytes4 s.frame.y) := by
  simp only [State.finishMove, h, State.modFrame, Frame.settleOwner_keeps]

@[simp] theorem State.finishMove_of_none {s : State} (h : s.frame.move = none) (abort : Option AbortCause) :
    s.finishMove abort = s := by
  simp only [State.finishMove, h]

@[simp] theorem State.slowMove_of_none {s : State} (h : s.frame.move = none) (cause : AbortCause) : s.slowMove cause = s := by
  simp only [State.slowMove, h]

theorem State.slowPositioner_of_ne {s : State} (h : s.frame.owner ≠ .positioner) (cause : AbortCause) :
    s.slowPositioner cause = s := if_neg h

theorem State.abandonSewing_of_none {s : State} (h : s.gov.move = none) : s.abandonSewing = s := by
  simp only [State.abandonSewing, h]

theorem State.abandonSewing_of_some {s : State} (h : s.gov.move.isSome = true) :
    s.abandonSewing = { s with
      gov := { s.gov with move := none }
      frame := if s.frame.move.isNone then s.frame.settleOwner else s.frame } := by
  obtain ⟨v, hv⟩ := Option.isSome_iff_exists.1 h
  simp only [State.abandonSewing, hv, State.modGov, State.modFrame]
  rfl

/-- R62: no sewing move is in flight once it has been abandoned; the rest of the governor stays. -/
theorem State.abandonSewing_gov (s : State) : s.abandonSewing.gov = { s.gov with move := none } := by
  unfold State.abandonSewing
  split
  · rfl
  · rename_i h
    rw [← h]

theorem State.finishMove_frame (s : State) (abort : Option AbortCause) :
    (s.finishMove abort).frame = if s.frame.move.isSome then { s.frame with move := none }.settleOwner else s.frame := by
  cases h : s.frame.move with
  | none => simp [h]
  | some m => simp [State.finishMove_eq h]

/-- R93: what a move that is told to slow down becomes. -/
def Frame.slow (f : Frame) (cause : AbortCause) : Frame :=
  match f.move with
  | some (.legs op leg rest none) =>
      if leg.rateSq ≤ 4000000 then { f with move := none }.settleOwner
      else { f with move := some (.legs op leg rest (some cause)) }
  | some (.legs _ _ _ (some _)) => f
  | some (.homing _ _) => { f with move := none }.settleOwner
  | none => f

theorem State.slowMove_frame (s : State) (cause : AbortCause) : (s.slowMove cause).frame = s.frame.slow cause := by
  unfold State.slowMove Frame.slow
  rcases h : s.frame.move with _ | ⟨op, leg, rest, _ | _⟩ | ⟨axis, stage⟩
  · rfl
  · simp only []
    split
    · simp [State.finishMove_eq h]
    · rfl
  · rfl
  · simp [State.finishMove_eq h]

/-- R94: the frame as the player lends it. -/
def Frame.lendBy (f : Frame) (sewing : Bool) : Frame :=
  if f.owner = .player then (if f.move.isSome || sewing then { f with after := .lend } else { f with lent := true }) else f

theorem State.lend_eq (s : State) : s.lend = { s with frame := s.frame.lendBy s.gov.move.isSome } := by
  unfold State.lend Frame.lendBy State.playerMoveInFlight
  split
  · rename_i h
    rw [if_pos h, beq_iff_eq.2 h, Bool.true_and]
    split <;> rfl
  · rename_i h
    rw [if_neg (by simp [h])]
  · rename_i h
    rw [if_neg (by simp [h])]

/-- R62, R94: the frame once a sewing move in flight has been abandoned. -/
def Frame.unsewn (f : Frame) (sewing : Bool) : Frame := if sewing && f.move.isNone then f.settleOwner else f

theorem State.abandonSewing_frame (s : State) : s.abandonSewing.frame = s.frame.unsewn s.gov.move.isSome := by
  unfold State.abandonSewing Frame.unsewn
  cases s.gov.move <;> rfl

/-! ### The brake request (R69, R74) -/

/-- R69: the state that a brake request leads to. -/
def ShaftState.braked (h : ShaftState) (still : Bool) : ShaftState :=
  match h with
  | .turning => if still then .off else .braking
  | .positioning => if still then .off else .braking
  | .held => .off
  | .offPosition => .off
  | .off => .off
  | .braking => .braking
  | .fault => .fault

theorem State.brakeRequest_shaft_state (s : State) : s.brakeRequest.shaft.state = s.shaft.state.braked s.shaft.still := by
  unfold State.brakeRequest State.enterBraking State.enterOff ShaftState.braked
  cases h : s.shaft.state <;> cases hs : s.shaft.still <;> simp [Shaft.dropKept, Shaft.noDemand, h, hs]

@[simp] theorem State.enterOff_gov_move (s : State) : s.enterOff.gov.move = s.gov.move := rfl

@[simp] theorem State.enterBraking_gov_move (s : State) : s.enterBraking.gov.move = s.gov.move := by
  unfold State.enterBraking
  simp only []
  split <;> simp

@[simp] theorem State.brakeRequest_gov_move (s : State) : s.brakeRequest.gov.move = s.gov.move := by
  unfold State.brakeRequest
  simp only []
  split <;> simp

/-- R83: a report of OFF may clear the kill latch of a RESTART, and never sets it. -/
theorem State.enterOff_kill {s : State} (h : s.outs.kill = false) : s.enterOff.outs.kill = false := by
  show (if s.outs.killUntilOff then s.outs.clearKill else s.outs).kill = false
  cases s.outs.killUntilOff
  · exact h
  · rfl

theorem State.enterBraking_kill {s : State} (h : s.outs.kill = false) : s.enterBraking.outs.kill = false := by
  unfold State.enterBraking
  simp only []
  split
  · exact State.enterOff_kill h
  · exact h

theorem State.brakeRequest_kill {s : State} (h : s.outs.kill = false) : s.brakeRequest.outs.kill = false := by
  unfold State.brakeRequest
  simp only []
  split
  · exact State.enterBraking_kill h
  · exact State.enterBraking_kill h
  · exact State.enterOff_kill h
  · exact State.enterOff_kill h
  all_goals exact h

@[simp] theorem NeedleCase.abandon_abandon (c : NeedleCase) : c.abandon.abandon = c.abandon := by
  cases h : c.state <;> simp [NeedleCase.abandon, NeedleCase.endMove, NeedleCase.complete, h]

theorem State.brakeRequest_nc_abandon (s : State) : s.brakeRequest.nc.abandon = s.nc.abandon := by
  unfold State.brakeRequest
  simp only []
  split <;> simp

@[simp] theorem NeedleCase.abandon_kept (c : NeedleCase) : c.abandon.kept = none := rfl

theorem NeedleCase.abandon_at_rest (c : NeedleCase) : c.abandon.state ≠ .moving ∧ c.abandon.state ≠ .settling := by
  cases h : c.state <;> simp [NeedleCase.abandon, NeedleCase.endMove, NeedleCase.complete, h]

/-! ### The entry to HALTED (R41) -/

/-- R41: the player and the heads as an entry to HALTED leaves them, before the machine is stopped. -/
def State.haltPlayer (s : State) (c : HaltCause) : State :=
  let s2 := ((s.endRevolution false).disengage).modPlayer fun _ => s.player.halt c
  if s.player.stopReason == some .repair || s.player.entryTrim != .none then
    s2.modHeads fun hs => hs.dropEntry s.player.entryTrim
  else s2

/-- R62, R69, R111: the sewing move, the shaft and the case as an entry to HALTED stops them. -/
def State.haltMachine (s : State) (c : HaltCause) : State :=
  (if c = .overrun then s else s.abandonSewing).brakeRequest.modCase NeedleCase.abandon

/-- R93: the frame move that an entry to HALTED slows down. -/
def State.haltFrame (s : State) (c : HaltCause) : State :=
  match c.abort with
  | some a => s.slowMove a
  | none => s

/-- R83: the kill latch at an entry to HALTED. -/
def State.haltKill (s : State) (c : HaltCause) : State := if c.kills then s.modOuts Outputs.setKill else s

theorem State.enterHalted_eq (s : State) (c : HaltCause) :
    s.enterHalted c = ((((s.haltPlayer c).haltMachine c).haltFrame c).haltKill c).lend.reportPlayer := rfl


@[simp] theorem State.haltPlayer_keeps (s : State) (c : HaltCause) :
    (s.haltPlayer c).pending = s.pending ∧ (s.haltPlayer c).straps = s.straps ∧ (s.haltPlayer c).resetHeld = s.resetHeld ∧
      (s.haltPlayer c).choices = s.choices ∧ (s.haltPlayer c).store = s.store ∧ (s.haltPlayer c).gov = s.gov ∧
      (s.haltPlayer c).shaft = s.shaft ∧ (s.haltPlayer c).frame = s.frame ∧ (s.haltPlayer c).nc = s.nc ∧
      (s.haltPlayer c).ev = s.ev ∧ (s.haltPlayer c).link = s.link := by
  unfold State.haltPlayer
  simp only []
  (repeat' split) <;> simp

@[simp] theorem State.haltMachine_keeps (s : State) (c : HaltCause) :
    (s.haltMachine c).pending = s.pending ∧ (s.haltMachine c).straps = s.straps ∧
      (s.haltMachine c).resetHeld = s.resetHeld ∧ (s.haltMachine c).choices = s.choices ∧
      (s.haltMachine c).store = s.store ∧ (s.haltMachine c).player = s.player ∧ (s.haltMachine c).thread = s.thread ∧
      (s.haltMachine c).heads = s.heads ∧ (s.haltMachine c).ev = s.ev ∧ (s.haltMachine c).link = s.link := by
  unfold State.haltMachine
  split <;> simp

@[simp] theorem State.haltFrame_keeps (s : State) (c : HaltCause) :
    (s.haltFrame c).pending = s.pending ∧ (s.haltFrame c).straps = s.straps ∧ (s.haltFrame c).resetHeld = s.resetHeld ∧
      (s.haltFrame c).choices = s.choices ∧ (s.haltFrame c).store = s.store ∧ (s.haltFrame c).player = s.player ∧
      (s.haltFrame c).gov = s.gov ∧ (s.haltFrame c).shaft = s.shaft ∧ (s.haltFrame c).outs = s.outs ∧
      (s.haltFrame c).nc = s.nc ∧ (s.haltFrame c).thread = s.thread ∧ (s.haltFrame c).heads = s.heads := by
  unfold State.haltFrame
  split <;> simp

@[simp] theorem State.haltKill_keeps (s : State) (c : HaltCause) :
    (s.haltKill c).pending = s.pending ∧ (s.haltKill c).straps = s.straps ∧ (s.haltKill c).resetHeld = s.resetHeld ∧
      (s.haltKill c).choices = s.choices ∧ (s.haltKill c).store = s.store ∧ (s.haltKill c).player = s.player ∧
      (s.haltKill c).gov = s.gov ∧ (s.haltKill c).shaft = s.shaft ∧ (s.haltKill c).frame = s.frame ∧
      (s.haltKill c).nc = s.nc ∧ (s.haltKill c).thread = s.thread ∧ (s.haltKill c).heads = s.heads ∧
      (s.haltKill c).ev = s.ev ∧ (s.haltKill c).link = s.link := by
  unfold State.haltKill
  split <;> simp

@[simp] theorem State.haltPlayer_player (s : State) (c : HaltCause) : (s.haltPlayer c).player = s.player.halt c := by
  unfold State.haltPlayer
  simp only []
  split <;> rfl

theorem State.haltPlayer_disengaged (s : State) (c : HaltCause) : ∀ h ∈ (s.haltPlayer c).heads.table, h.engaged = false := by
  unfold State.haltPlayer
  simp only []
  split <;> simp [State.disengage, Heads.disengage, Heads.dropEntry, Heads.abandonEntry]

theorem State.endRevolution_kill (s : State) (completed : Bool) : (s.endRevolution completed).outs.kill = s.outs.kill := by
  unfold State.endRevolution
  simp only []
  (repeat' split) <;> simp [Outputs.oweHolder]

theorem State.haltPlayer_kill (s : State) (c : HaltCause) : (s.haltPlayer c).outs.kill = s.outs.kill := by
  unfold State.haltPlayer
  simp only []
  split <;> simp [State.endRevolution_kill]

theorem State.haltMachine_nc (s : State) (c : HaltCause) : (s.haltMachine c).nc = s.nc.abandon := by
  unfold State.haltMachine
  split <;> simp [State.brakeRequest_nc_abandon]

theorem State.haltMachine_shaft_state (s : State) (c : HaltCause) :
    (s.haltMachine c).shaft.state = s.shaft.state.braked s.shaft.still := by
  unfold State.haltMachine
  split <;> simp [State.brakeRequest_shaft_state]

theorem State.haltMachine_gov_move (s : State) (c : HaltCause) :
    (s.haltMachine c).gov.move = if c = .overrun then s.gov.move else none := by
  unfold State.haltMachine
  split <;> simp [State.abandonSewing_gov]

theorem State.haltMachine_frame (s : State) (c : HaltCause) :
    (s.haltMachine c).frame = if c = .overrun then s.frame else s.frame.unsewn s.gov.move.isSome := by
  unfold State.haltMachine
  split <;> simp [State.abandonSewing_frame]

theorem State.haltMachine_kill {s : State} (c : HaltCause) (h : s.outs.kill = false) : (s.haltMachine c).outs.kill = false := by
  unfold State.haltMachine
  split
  · exact State.brakeRequest_kill h
  · exact State.brakeRequest_kill (by simpa using h)

/-- R93: the frame as an entry to HALTED slows it down. -/
def Frame.haltBy (f : Frame) (c : HaltCause) : Frame :=
  match c.abort with
  | some a => f.slow a
  | none => f

theorem State.haltFrame_frame (s : State) (c : HaltCause) : (s.haltFrame c).frame = s.frame.haltBy c := by
  cases c <;> first | rfl | exact s.slowMove_frame _

section
variable (s : State) (c : HaltCause)

theorem State.enterHalted_player : (s.enterHalted c).player = s.player.halt c := by
  simp [State.enterHalted_eq]

theorem State.enterHalted_nc : (s.enterHalted c).nc = s.nc.abandon := by
  simp [State.enterHalted_eq, State.haltMachine_nc]

/-- R41: every head is disengaged. -/
theorem State.enterHalted_disengaged : ∀ h ∈ (s.enterHalted c).heads.table, h.engaged = false := by
  simpa [State.enterHalted_eq] using s.haltPlayer_disengaged c

/-- R42, R62: owed steps stay owed after an overrun only. -/
theorem State.enterHalted_gov_move : (s.enterHalted c).gov.move = if c = .overrun then s.gov.move else none := by
  simp [State.enterHalted_eq, State.haltMachine_gov_move]

theorem State.enterHalted_shaft_state : (s.enterHalted c).shaft.state = s.shaft.state.braked s.shaft.still := by
  simp [State.enterHalted_eq, State.haltMachine_shaft_state]

/-- R41, R62, R93, R94: the frame after an entry to HALTED. -/
theorem State.enterHalted_frame : (s.enterHalted c).frame =
    (Frame.haltBy (if c = .overrun then s.frame else s.frame.unsewn s.gov.move.isSome) c).lendBy
      ((if c = .overrun then s.gov.move else none : Option SewMove).isSome) := by
  simp [State.enterHalted_eq, State.lend_eq, State.haltFrame_frame, State.haltMachine_frame, State.haltMachine_gov_move]

/-- R83: which causes set the kill latch. -/
theorem State.enterHalted_kill_of_kills (h : c.kills = true) : (s.enterHalted c).outs.kill = true := by
  simp [State.enterHalted_eq, State.haltKill, h, Outputs.setKill]

theorem State.enterHalted_kill_of_not (h : c.kills = false) (hk : s.outs.kill = false) : (s.enterHalted c).outs.kill = false := by
  have := State.haltMachine_kill c ((s.haltPlayer_kill c).trans hk)
  simpa [State.enterHalted_eq, State.haltKill, h] using this

/-- R22: PLAYER_STATE latches, and nothing that was latched is lost. -/
theorem State.latch_flags (e : Event) (detail : List Byte) : (s.latch e detail).ev = { s.ev with flags := s.ev.flags ||| e.bit } := by
  rw [s.latch_eq]

end

/-! ### Requests to the shaft unit (R68 to R71) -/

section
variable {s : State}

/-- R71: an entry to POSITIONING with the drive ready and no positioner operation. -/
theorem State.enterPositioning_eq (hready : s.shaft.driveReady = true) (howner : s.frame.owner ≠ .positioner) :
    s.enterPositioning = { s with
      shaft := { s.shaft.setDemand s.gov.active.motion.sStop s.gov.active.motion.sStop with
        state := .positioning, phase := .creep, retry := 0, extra := 0, cause := none, faultStill := false, toOff := false
        keptHold := false }
      nc := if s.shaft.state = .held then s.nc.endMove else s.nc
      outs := s.outs.allAuto } := by
  unfold State.enterPositioning
  simp only []
  by_cases hheld : s.shaft.state = .held
  · rw [if_pos hheld, if_pos hheld, State.slowPositioner_of_ne (by simpa using howner)]
    exact if_pos hready
  · rw [if_neg hheld, if_neg hheld, State.slowPositioner_of_ne (by simpa using howner)]
    exact if_pos hready

/-- R70: an entry to TURNING with the drive ready and no positioner operation. -/
theorem State.enterTurning_eq (hready : s.shaft.driveReady = true) (howner : s.frame.owner ≠ .positioner) :
    s.enterTurning = { s with
      shaft := { s.shaft.setDemand s.gov.active.motion.sStop (min s.gov.active.motion.sStart s.gov.sCmd) with
        state := .turning, runUp := true }
      nc := s.nc.endMove
      outs := s.outs.allAuto } := by
  unfold State.enterTurning
  simp only []
  rw [State.slowPositioner_of_ne (by simpa using howner)]
  exact if_pos hready

theorem State.turnRequest_of_held (h : s.shaft.state = .held) : s.turnRequest = s.enterTurning := by
  simp only [State.turnRequest, h]

/-- R68: a turn request from a shaft that is not held positions it first. -/
theorem State.turnRequest_of_off (h : s.shaft.state = .off ∨ s.shaft.state = .offPosition) :
    s.turnRequest = (s.modShaft fun h => { h with keptTurn := true }).enterPositioning := by
  rcases h with h | h <;> simp only [State.turnRequest, h]

theorem State.holdRequest_of_off (h : s.shaft.state = .off ∨ s.shaft.state = .offPosition) :
    s.holdRequest = s.enterPositioning := by
  rcases h with h | h <;> simp only [State.holdRequest, h]

end

/-- Settles O21: the hold request by the shaft's state. -/
theorem holdRequestByShaftState : Obligations.HoldRequestByShaftState := by
  intro s
  refine ⟨fun hstate hready howner => ?_, fun h => ?_, fun h => ?_, fun h => ?_⟩
  · have hentered : s.holdRequest = s.enterPositioning := by
      rcases hstate with h | h | ⟨h, hstill⟩
      · exact State.holdRequest_of_off (Or.inl h)
      · exact State.holdRequest_of_off (Or.inr h)
      · simp only [State.holdRequest, h, hstill, if_true]
    have hnot : s.shaft.state ≠ .held := by
      rcases hstate with h | h | ⟨h, -⟩ <;> simp [h]
    rw [hentered, State.enterPositioning_eq hready howner, if_neg hnot]
    rfl
  · simp only [State.holdRequest, h, Governor.force, Governor.rest, State.modGov]
    cases hp : s.gov.pendingFlag <;> simp [hp]
  · have hkept : s.holdRequest = s.modShaft fun h => { h with keptHold := true } := by
      rcases h with h | ⟨h, hstill⟩
      · simp only [State.holdRequest, h]
      · simp only [State.holdRequest, h, hstill, Bool.false_eq_true, if_false]
    exact hkept
  · rcases h with h | h <;> simp only [State.holdRequest, h]

/-! ### The prefetcher (R28, R29) -/

section
variable (s : State)

/-- R28: the prefetcher changes the queue alone. -/
theorem State.prefetchN_queue (n : Nat) : ∃ q : List QueueEntry, s.prefetchN n = s.modPlayer fun p => { p with queue := q } := by
  induction n generalizing s with
  | zero => exact ⟨s.player.queue, rfl⟩
  | succ n ih =>
    cases h : s.nextEntry with
    | none => exact ⟨s.player.queue, State.prefetchN_of_none h _⟩
    | some e =>
      obtain ⟨q, hq⟩ := ih (s.modPlayer fun p => { p with queue := p.queue ++ [e] })
      exact ⟨q, by rw [State.prefetchN, h]; exact hq⟩

theorem State.prefetch_queue : ∃ q : List QueueEntry, s.prefetch = s.modPlayer fun p => { p with queue := q } :=
  s.prefetchN_queue 32

theorem State.prefetch_player : s.prefetch.player = { s.player with queue := s.prefetch.player.queue } := by
  obtain ⟨q, hq⟩ := s.prefetch_queue
  rw [hq]
  rfl

/-- R28: what the prefetcher reads is the player, the store and the active set; all else may change around it. -/
theorem State.prefetchN_congr (n : Nat) {t : State} (hplayer : t.player = s.player) (hstore : t.store = s.store)
    (hset : t.gov.active = s.gov.active) : t.prefetchN n = { t with player := (s.prefetchN n).player } := by
  induction n generalizing s t with
  | zero => rw [State.prefetchN, State.prefetchN, ← hplayer]
  | succ n ih =>
    have hnext : t.nextEntry = s.nextEntry := by
      simp only [State.nextEntry, State.recordOf, State.blockOf, State.armedDesign, hplayer, hstore, hset]
    rw [State.prefetchN, State.prefetchN, hnext]
    cases s.nextEntry with
    | none => simp only [← hplayer]
    | some e =>
      refine (ih (s.modPlayer fun p => { p with queue := p.queue ++ [e] }) ?_ ?_ ?_).trans ?_
      · simp [hplayer]
      · simp [hstore]
      · simp [hset]
      · rfl

theorem State.prefetch_congr {t : State} (hplayer : t.player = s.player) (hstore : t.store = s.store)
    (hset : t.gov.active = s.gov.active) : t.prefetch = { t with player := s.prefetch.player } :=
  State.prefetchN_congr s 32 hplayer hstore hset

end

@[simp] theorem State.prefetch_keeps (s : State) :
    s.prefetch.pending = s.pending ∧ s.prefetch.straps = s.straps ∧ s.prefetch.resetHeld = s.resetHeld ∧
      s.prefetch.choices = s.choices ∧ s.prefetch.store = s.store ∧ s.prefetch.gov = s.gov ∧ s.prefetch.shaft = s.shaft ∧
      s.prefetch.outs = s.outs ∧ s.prefetch.frame = s.frame ∧ s.prefetch.nc = s.nc ∧ s.prefetch.thread = s.thread ∧
      s.prefetch.heads = s.heads ∧ s.prefetch.ev = s.ev ∧ s.prefetch.link = s.link := by
  obtain ⟨q, hq⟩ := s.prefetch_queue
  simp [hq]

@[simp] theorem State.refill_keeps (s : State) :
    s.refill.pending = s.pending ∧ s.refill.straps = s.straps ∧ s.refill.resetHeld = s.resetHeld ∧
      s.refill.choices = s.choices ∧ s.refill.store = s.store ∧ s.refill.gov = s.gov ∧ s.refill.shaft = s.shaft ∧
      s.refill.outs = s.outs ∧ s.refill.frame = s.frame ∧ s.refill.nc = s.nc ∧ s.refill.thread = s.thread ∧
      s.refill.heads = s.heads ∧ s.refill.ev = s.ev ∧ s.refill.link = s.link := by
  simp [State.refill]


theorem State.prefetch_quiet (s : State) : s.prefetch.quiet = s.quiet :=
  State.quiet_congr _ _ (by simp) (by simp) (by rw [s.prefetch_player]) (by simp) (by simp)


end Sys2Proof.Machine
end

section
/-! PROOF. The requests of the stitch player: ARM, DISARM, START, RESUME, STOP and RECOVER (O19, O20, O22, O23, O25, O27). -/

namespace Sys2Proof.Machine

/-! ### How a request is answered -/

theorem State.linkFree_of_ready {s : State} (h : s.ready = true) : s.linkFree = true := (s.ready_iff.1 h).1

/-- A request whose block answers with `t`, the mark of being taken in it, and leaves nothing waiting. -/
theorem exec_answered {s t : State} {i : Instr} {p : List Byte} (h : s.ready = true) (hi : isRequest i = true)
    (hc : i.counted = true) (hs : s.takingOn.serve i = (t, p)) (hq : t.quiet = true) :
    exec i s = .next (t.replied ((frameOf i).ty + 0x80) p) := by
  rw [exec_of_isRequest s i hi]
  exact s.request_served t i p (State.linkFree_of_ready h) hc hs hq

/-- A request that makes something possible, which is begun after its reply is placed (R176). -/
theorem exec_settled {s t : State} {i : Instr} {p : List Byte} (h : s.ready = true) (hi : isRequest i = true)
    (hc : i.counted = true) (hs : s.takingOn.serve i = (t, p)) :
    exec i s = .next ((t.replied ((frameOf i).ty + 0x80) p).settle) := by
  rw [exec_of_isRequest s i hi, s.request_free i (State.linkFree_of_ready h) hc, hs]

/-- A request that its block refuses changes nothing. -/
theorem exec_refused {s : State} {i : Instr} {st : Status} (h : s.ready = true) (hi : isRequest i = true)
    (hc : i.counted = true) (hs : s.takingOn.serve i = refuse s.takingOn st) :
    exec i s = .next (s.replied ((frameOf i).ty + 0x80) (replyOf st [])) := exec_unchanged h hi hc hs

/-- With no chain of operations, a state in which nothing waits stays one while case and shaft stay. -/
theorem State.quiet_of_no_errand {s t : State} (hq : s.quiet = true) (hnc : t.nc = s.nc)
    (hshaft : t.shaft.state = s.shaft.state) (he : t.player.errand = .none) : t.quiet = true := by
  unfold State.quiet State.settleOne at *
  cases hk : s.nc.kept with
  | none => simp [hnc, hk, he]
  | some j =>
    rw [hk] at hq
    simp only [hnc, hk]
    simpa [State.beginKept, State.isHeld, hnc, hshaft, hk] using hq

theorem State.quiet_of_no_kept {t : State} (hk : t.nc.kept = none) (he : t.player.errand = .none) : t.quiet = true := by
  simp [State.quiet, State.settleOne, hk, he]

theorem State.prefetch_takingOn (s : State) : s.takingOn.prefetch = s.prefetch.takingOn := by
  rw [State.prefetch_congr (s := s) (t := s.takingOn) rfl rfl rfl]
  obtain ⟨q, hq⟩ := s.prefetch_queue
  rw [hq]
  rfl

/-- R167: the E-STOP line as the requests look at it. -/
theorem State.estop_iff {s : State} (h : s.ready = true) : s.estop = true ↔ s.ev.estop = some false := by
  rw [State.estop_of_running (State.ready_parts h).1, decide_eq_true_iff]

/-! ### ARM (R25, R26) -/

theorem PlayerState.armable_iff (p : PlayerState) : p.armable = true ↔ p = .idle ∨ p = .armed ∨ p = .finished := by
  cases p <;> simp [PlayerState.armable]

/-- R25: the checks of ARM in their order. -/
theorem State.armRefusal_eq (s : State) (design hoop : Nat) :
    s.armRefusal design hoop =
      if s.player.state.armable = false then some .wrongState
      else if 7 < hoop then some .badValue
      else match s.store.find design with
        | none => some .notFound
        | some d =>
          if d.state = .failed then some .wrongState
          else if s.heads.repairs ≠ [] then some .inUse
          else if s.frame.known = false then some .notHomed
          else if s.frame.owner = .positioner then some .busy
          else if boxFits (s.frame.hoops.getD hoop fullTravel) d.box s.frame.x s.frame.y = false then some .outOfField
          else none := by
  simp [State.armRefusal, State.positionerBusy] <;> rfl

/-- Settles O19. -/
theorem armChecksAndSetsThePlayerRecord : Obligations.ArmChecksAndSetsThePlayerRecord := by
  refine ⟨fun s design hoop hready => ?refusals, fun s design hoop d hready hmay hhoop hfind hstate hrepairs hknown howner hfits => ?armed⟩
  case refusals =>
    intro answer refused mayArm
    have hmay : s.player.state.armable = true ↔ mayArm := s.player.state.armable_iff
    have refuse {st : Status} (h : s.armRefusal design hoop = some st) : answer = .next (s.replied 0xA0 (replyOf st [])) :=
      exec_refused hready rfl rfl (by
        have : s.takingOn.armRefusal design hoop = some st := h
        simp only [State.serve, State.serveArm, this])
    rw [State.armRefusal_eq] at refuse
    refine ⟨fun h => refuse (st := .wrongState) ?_, fun h hh => refuse (st := .badValue) ?_,
      fun h hh hnone => refuse (st := .notFound) ?_, fun d h hh hd => ?_⟩
    · rw [if_pos (by simpa [← hmay] using h)]
    · rw [if_neg (by simpa [← hmay] using h), if_pos hh]
    · rw [if_neg (by simpa [← hmay] using h), if_neg (by omega), hnone]
    · rw [if_neg (by simpa [← hmay] using h), if_neg (by omega), hd] at refuse
      simp only [] at refuse
      refine ⟨fun h1 => refuse (st := .wrongState) (if_pos h1), fun h1 h2 => refuse (st := .inUse) ?_,
        fun h1 h2 h3 => refuse (st := .notHomed) ?_, fun h1 h2 h3 h4 => refuse (st := .busy) ?_, fun h1 h2 h3 h4 => ?_⟩
      · rw [if_neg h1, if_pos h2]
      · rw [if_neg h1, if_neg (by simpa using h2), if_pos h3]
      · rw [if_neg h1, if_neg (by simpa using h2), if_neg (by simp [h3]), if_pos h4]
      · intro field houtside
        refine refuse (st := .outOfField) ?_
        rw [if_neg h1, if_neg (by simpa using h2), if_neg (by simp [h3]), if_neg h4, if_pos]
        refine decide_eq_false fun hfit => ?_
        simp only [field] at houtside
        omega
  case armed =>
    have haccepted : s.takingOn.armRefusal design hoop = none := by
      show s.armRefusal design hoop = none
      rw [State.armRefusal_eq, if_neg (by simpa [← PlayerState.armable_iff] using hmay), if_neg (by omega), hfind]
      simp only [hstate, hrepairs, hknown, howner, hfits, ne_eq, not_true_eq_false, Bool.true_eq_false, if_false]
    refine exec_served hready rfl rfl ?_ ?_
    · simp only [State.serve, State.serveArm, haccepted, State.armNow, ← State.prefetch_takingOn]
      rfl
    · rw [State.prefetch_quiet]
      exact State.quiet_of_no_errand (State.quiet_of_ready hready) rfl rfl rfl

/-! ### DISARM (R27, R69) -/

/-- R27, R145: with every record removed each head is OK and no design of the store is pinned for a repair. -/
theorem removeRepairs_all (rs : List RepairRecord) : removeRepairs (fun _ => true) rs = [] := by simp [removeRepairs]

theorem mapFrom_const {α β : Type} (f : α → β) (n : Nat) (xs : List α) : mapFrom n (fun _ => f) xs = xs.map f := by
  induction xs generalizing n with
  | nil => rfl
  | cons x xs ih => rw [mapFrom, ih, List.map_cons]

/-- R94: the frame that a DISARM leaves. -/
def Frame.released (f : Frame) (sewing : Bool) : Frame :=
  match f.owner with
  | .positioner => { f with lent := false }
  | .none => f
  | .player => if f.move.isSome ∨ sewing then { f with after := .release } else { f with owner := .none, lent := false }

theorem Frame.released_eq (f : Frame) (sewing : Bool) : f.released sewing =
    if f.owner = .player then
      (if f.move.isSome || sewing then { f with after := .release } else { f with owner := .none, lent := false })
    else if f.owner = .positioner then { f with lent := false } else f := by
  obtain ⟨x, y, known, owner⟩ := f
  cases owner <;> simp [Frame.released]

theorem State.release_eq (s : State) : s.release = { s with frame := s.frame.released s.gov.move.isSome } := by
  rw [Frame.released_eq]
  unfold State.release State.playerMoveInFlight
  split
  · rename_i h
    rw [if_pos h, beq_iff_eq.2 h, Bool.true_and]
    split <;> rfl
  · rename_i h
    rw [if_neg (by simp [h]), if_pos h]
    rfl
  · rename_i h
    rw [if_neg (by simp [h]), if_neg (by simp [h])]

/-- R27, R157: the heads that a DISARM leaves. -/
def Head.disarmed (h : Head) : Head := { h with condition := .ok, role := .none, start := none }

/-- R27: what a DISARM leaves before it releases what a HALTED player has stopped. -/
def State.disarmed (s : State) : State :=
  { s with
    store := { s.store with
      dir := s.store.dir.map fun (o : Option Design) => o.map fun (d : Design) =>
        { d with armedPin := false, repairPin := if s.player.armed = some d.number then false else d.repairPin } }
    player := s.player.disarm
    heads := { s.heads with
      table := s.heads.table.map Head.disarmed, repairs := [], selection := none, passEnd := none, passStart := none
      lastKind := none, leftPass := false }
    thread := s.thread.disarm
    outs := { s.outs with holderCount := 0 }
    frame := s.frame.released s.gov.move.isSome }

/-- R27, R157: the pins and the heads after the removal of every record and the end of the pass. -/
theorem State.disarmNow_eq (s : State) : s.disarmNow =
    match s.player.state with
    | .halted _ => s.disarmed.releaseHalted
    | _ => s.disarmed := by
  have hdir : (s.store.dir.map fun (o : Option Design) => o.map fun (x : Design) =>
      if s.player.armed = some x.number then
        { x with repairPin := decide (∃ r ∈ ([] : List RepairRecord), r.design = x.number) }
      else x).map (fun o => o.map fun d => { d with armedPin := false }) =
      s.store.dir.map fun (o : Option Design) => o.map fun (d : Design) =>
        { d with armedPin := false, repairPin := if s.player.armed = some d.number then false else d.repairPin } := by
    rw [List.map_map]
    refine List.map_congr_left fun o _ => ?_
    cases o with
    | none => rfl
    | some d => by_cases hd : s.player.armed = some d.number <;> simp [hd]
  have htable : ((mapFrom 1 (fun n h =>
      if (fun _ => true) n && (h.condition != .ok) then { h with condition := .ok, role := .none, start := none } else h)
        s.heads.table).map fun h => { h with role := .none, start := none }) = s.heads.table.map Head.disarmed := by
    simp only [Bool.true_and]
    rw [mapFrom_const (fun h : Head =>
      if (h.condition != .ok) = true then { h with condition := .ok, role := .none, start := none } else h), List.map_map]
    refine List.map_congr_left fun h _ => ?_
    by_cases hc : h.condition = .ok <;> simp [hc, Head.disarmed]
  unfold State.disarmNow
  rw [State.removeRecords_eq]
  simp only [State.release_eq, State.modStore, State.modPlayer, State.modHeads, State.modThread, State.modOuts,
    Heads.abandonEntry, removeRepairs_all, hdir, htable]
  cases s.player.state <;> rfl

/-- R27, R69: the refusal of DISARM where something may be armed. -/
theorem State.disarmRefusal_of_not {s : State}
    (h : s.player.state = .idle ∨ s.player.state = .running ∨ s.player.state = .stopping ∨ s.player.state = .changing ∨
      s.player.state = .returning ∨ s.player.state = .starved) : s.disarmRefusal = some .wrongState := by
  obtain h | h | h | h | h | h := h <;> simp [State.disarmRefusal, h]

/-- R69, R112: what a DISARM taken in HALTED clears besides. -/
theorem State.releaseHalted_eq (s : State) : s.releaseHalted = { s with
    outs := { s.outs with kill := false, killUntilOff := false }
    nc := s.nc.clearFault s.straps.needles
    shaft := if s.shaft.state = .fault ∧ s.shaft.still = true then { s.shaft with
        demand := 0, stall := none, state := .off, phase := .creep, cause := none, faultStill := false, toOff := false }
      else if s.shaft.state = ShaftState.fault then { s.shaft with toOff := true } else s.shaft
    gov := if s.shaft.state = .fault ∧ s.shaft.still = true then { s.gov with cPrev := 0 } else s.gov } := by
  unfold State.releaseHalted
  by_cases hf : s.shaft.state = .fault
  · by_cases hstill : s.shaft.still = true
    · refine (if_pos hf).trans ((if_pos hstill).trans ?_)
      rw [if_pos (And.intro hf hstill), if_pos (And.intro hf hstill)]
      rfl
    · refine (if_pos hf).trans ((if_neg hstill).trans ?_)
      rw [if_neg (not_and_of_not_right _ hstill), if_neg (not_and_of_not_right _ hstill), if_pos hf]
      rfl
  · refine (if_neg hf).trans ?_
    rw [if_neg (not_and_of_not_left _ hf), if_neg (not_and_of_not_left _ hf), if_neg hf]
    rfl

theorem NeedleCase.clearFault_eq (c : NeedleCase) (needles : Nat) : c.clearFault needles =
    if c.state = .fault then { c with state := .idle, cause := none, pos := casePosition needles c.code } else c := by
  unfold NeedleCase.clearFault
  cases c.state <;> rfl

/-- Settles O20. -/
theorem disarmLeavesNothingArmed : Obligations.DisarmLeavesNothingArmed := by
  intro s hready left
  have refuse {st : Status} (h : s.disarmRefusal = some st) : exec .disarm s = .next (s.replied 0xA1 (replyOf st [])) :=
    exec_refused hready rfl rfl (by
      have : s.takingOn.disarmRefusal = some st := h
      simp only [State.serve, State.serveDisarm, this])
  have hleft : left = s.disarmed := rfl
  have take {t : State} (h : s.disarmRefusal = none) (ht : s.takingOn.disarmNow = t.takingOn) (hq : t.quiet = true) :
      exec .disarm s = .next (t.replied 0xA1 [0]) :=
    exec_served hready rfl rfl (by
      have : s.takingOn.disarmRefusal = none := h
      simp only [State.serve, State.serveDisarm, this, ht]
      rfl) hq
  have hquiet := State.quiet_of_ready hready
  refine ⟨fun h => refuse (State.disarmRefusal_of_not h), fun h => take ?_ ?_ ?_, fun c hc => ⟨fun hr => ?_, fun hr he => ?_, fun hr he hk => ?_⟩⟩
  · obtain h | h | ⟨r, h⟩ := h <;> simp [State.disarmRefusal, h]
  · rw [State.disarmNow_eq]
    obtain h | h | ⟨r, h⟩ := h <;> simp only [State.takingOn_player, h] <;> rfl
  · exact State.quiet_of_no_errand hquiet rfl rfl rfl
  · exact refuse (st := .busy) (by simp [State.disarmRefusal, hc, hr])
  · exact refuse (st := .wrongState) (by simp [State.disarmRefusal, hc, hr, (State.estop_iff hready).2 he])
  · intro off
    refine take ?_ ?_ ?_
    · have hline : s.estop = false := by
        rw [← Bool.not_eq_true, State.estop_iff hready]
        exact he
      simp [State.disarmRefusal, hc, hr, hline]
    · rw [State.disarmNow_eq]
      simp only [State.takingOn_player, hc, State.releaseHalted_eq, NeedleCase.clearFault_eq]
      rfl
    · exact State.quiet_of_no_kept (by show (if _ then _ else _ : NeedleCase).kept = none; split <;> exact hk) rfl

/-! ### START and RESUME (R31, R32, R156) -/

/-- R31, R75: what keeps the main shaft from a request. -/
theorem State.stopped_iff {s : State} (h : s.ready = true) : (s.estop || s.shaftStopped) = true ↔
    s.ev.estop = some false ∨ s.shaft.state = .fault ∨ s.shaft.state = .braking := by
  rw [Bool.or_eq_true, State.estop_iff h, State.shaftStopped, Bool.or_eq_true, beq_iff_eq, beq_iff_eq]

theorem State.positionerBusy_iff (s : State) : s.positionerBusy = true ↔ s.frame.owner = .positioner := by
  simp [State.positionerBusy]

/-- Settles O22. -/
theorem startBeginsItsChain : Obligations.StartBeginsItsChain := by
  intro s hready
  have refuse {st : Status} (h : s.startRefusal = some st) : exec .start s = .next (s.replied 0xA2 (replyOf st [])) :=
    exec_refused hready rfl rfl (by
      have : s.takingOn.startRefusal = some st := h
      simp only [State.serve, State.serveStart, this])
  have hstopped := State.stopped_iff hready
  refine ⟨fun h => refuse (if_pos h), fun harmed h => refuse (st := .wrongState) ?_, fun harmed hestop hfault hbraking hcase => ?_⟩
  · rw [State.startRefusal, if_neg (by simpa using harmed), if_pos]
    rw [Bool.or_eq_true, hstopped, beq_iff_eq]
    tauto
  · have hpast : s.startRefusal =
        if !s.frame.known then some .notHomed else if s.positionerBusy then some .busy else none := by
      rw [State.startRefusal, if_neg (by simpa using harmed), if_neg]
      rw [Bool.or_eq_true, hstopped, beq_iff_eq]
      tauto
    refine ⟨fun h => refuse (st := .notHomed) ?_, fun h ho => refuse (st := .busy) ?_, fun h ho => ?_⟩
    · rw [hpast, if_pos (by simpa using h)]
    · rw [hpast, if_neg (by simp [h]), if_pos (s.positionerBusy_iff.2 ho)]
    · refine exec_settled hready rfl rfl ?_
      have : s.takingOn.startRefusal = none := hpast.trans (by
        rw [if_neg (by simp [h]), if_neg (by simpa [State.positionerBusy_iff] using ho)])
      simp only [State.serve, State.serveStart, this]
      rfl

/-- R154: some head has a role in the pass. -/
theorem Heads.inPass_iff (hs : Heads) : hs.inPass = true ↔ ∃ h ∈ hs.table, h.role ≠ .none := by
  simp [Heads.inPass]

/-- R156: what RESUME takes from a pass that a REPAIR_END has left. -/
theorem State.returnToPass_eq (s : State) : s.returnToPass = { s with
    player := { s.player with cursor := if s.heads.leftPass then s.player.resume else s.player.cursor }
    heads := { s.heads with leftPass := false } } := by
  unfold State.returnToPass
  obtain ⟨_, _, _, _, _, _, _, _, _, _, _, _, ⟨_, _, _, _, _, _, left, _, _⟩, _, _⟩ := s
  cases left <;> rfl

/-- Settles O23. -/
theorem resumeBeginsItsChain : Obligations.ResumeBeginsItsChain := by
  intro s hready
  have refuse {st : Status} (h : s.resumeRefusal = some st) : exec .resume s = .next (s.replied 0xA4 (replyOf st [])) :=
    exec_refused hready rfl rfl (by
      have : s.takingOn.resumeRefusal = some st := h
      simp only [State.serve, State.serveResume, this])
  have hstopped := State.stopped_iff hready
  refine ⟨fun h => refuse (st := .wrongState) ?_, fun r hr => ⟨fun h => refuse (st := .wrongState) ?_, fun hestop hfault hbraking => ?_⟩⟩
  · rw [State.resumeRefusal, if_pos]
    have hnot : ¬s.player.state.isPaused = true := by
      rw [PlayerState.isPaused_iff]
      rintro ⟨r, hr⟩
      exact h r hr
    simpa using hnot
  all_goals
    have hpaused : ¬(!s.player.state.isPaused) = true := by simp [PlayerState.isPaused, hr]
  · rw [State.resumeRefusal, if_neg hpaused, if_pos (hstopped.2 h)]
  · have hgo : ¬(s.estop || s.shaftStopped) = true := by
      rw [hstopped]
      tauto
    refine ⟨fun hmode hroles => refuse (st := .wrongState) ?_, fun hheads => ?_⟩
    · rw [State.resumeRefusal, if_neg hpaused, if_neg hgo, if_pos]
      have : ¬s.heads.inPass = true := by
        rw [Heads.inPass_iff]
        rintro ⟨h, hmem, hrole⟩
        exact hrole (hroles h hmem)
      simp [hmode, this]
    · have hpast : s.resumeRefusal =
          if !s.frame.known then some .notHomed else if s.positionerBusy then some .busy else none := by
        rw [State.resumeRefusal, if_neg hpaused, if_neg hgo, if_neg]
        rw [← Heads.inPass_iff] at hheads
        obtain h | h := hheads <;> simp [h]
      refine ⟨fun h => refuse (st := .notHomed) ?_, fun h ho => refuse (st := .busy) ?_, fun h ho => ?_⟩
      · rw [hpast, if_pos (by simpa using h)]
      · rw [hpast, if_neg (by simp [h]), if_pos (s.positionerBusy_iff.2 ho)]
      · refine exec_settled hready rfl rfl ?_
        have : s.takingOn.resumeRefusal = none := hpast.trans (by
          rw [if_neg (by simp [h]), if_neg (by simpa [State.positionerBusy_iff] using ho)])
        simp only [State.serve, State.serveResume, this, State.resumeNow, State.returnToPass_eq]
        rfl

/-! ### STOP (R36) -/

theorem StopReason.combine_of_ne {held : Option StopReason} {r : StopReason} (h : r ≠ .design) :
    StopReason.combine held r = some (held.getD r) := by
  cases held <;> simp [StopReason.combine, h]

/-- R35: a planned stop as soon as possible, with a reason that is not DESIGN. -/
theorem Player.combineStop_soon {p : Player} {r : StopReason} (h : r ≠ .design) :
    p.combineStop r none = { p with stopReason := some (p.stopReason.getD r), soonStop := true } := by
  simp [Player.combineStop, StopReason.combine_of_ne h]

/-- R37: an entry to PAUSED by a player that owns the frame while nothing moves. -/
theorem State.enterPaused_of_still {s : State} {r : PauseReason} (howner : s.frame.owner = .player)
    (hmove : s.frame.move = none) (hsewing : s.gov.move = none) :
    s.enterPaused r = { s with
      player := { s.player with
        state := .paused r, stopReason := none, stopIndex := none, soonStop := false, positionAsked := false
        errand := .none, entryTrim := .none }
      frame := { s.frame with lent := true } }.latch .playerState (6 :: b1 r.code ++ b4 s.player.cursor) := by
  have hlent : s.frame.lendBy s.gov.move.isSome = { s.frame with lent := true } := by
    rw [Frame.lendBy, if_pos howner, if_neg (by simp [hmove, hsewing])]
  rw [← hlent, State.enterPaused, State.lend_eq]
  rfl

/-- Settles O25. -/
theorem stopAsksForAPlannedStop : Obligations.StopAsksForAPlannedStop := by
  intro s hready
  have taken {t : State} (h : s.takingOn.askStop .hostStop = some t) : s.takingOn.serve .stop = okWith t [] := by
    simp only [State.serve, State.serveStop, h]
  refine ⟨fun h => ?sewing, fun h => ?changing, fun h howner hmove hsewing => ?starved, fun h => ?atRest⟩
  case sewing =>
    refine exec_stored hready rfl rfl (taken ?_) rfl rfl rfl rfl rfl
    obtain h | h := h <;>
      simp only [State.askStop, State.plannedStop, State.takingOn_player, h, State.dropSelection, reduceCtorEq, and_false,
        if_false, State.modPlayer, Player.combineStop_soon (p := s.player) (r := .hostStop) nofun] <;> rfl
  case changing =>
    refine exec_stored hready rfl rfl (taken ?_) rfl rfl rfl rfl rfl
    obtain h | h := h <;>
      simp only [State.askStop, State.plannedStop, State.takingOn_player, h,
        State.modPlayer, StopReason.combine_of_ne (r := .hostStop) nofun] <;> rfl
  case starved =>
    refine exec_answered hready rfl rfl (taken ?_) ?_
    · simp only [State.askStop, State.plannedStop, State.takingOn_player, h, State.takeReason, reduceCtorEq, if_false]
      rw [State.enterPaused_of_still (s := s.takingOn) howner hmove hsewing]
      rfl
    · exact State.quiet_of_no_errand (State.quiet_of_ready hready) (by simp) (by simp) (by simp)
  case atRest =>
    refine exec_refused hready rfl rfl (st := .wrongState) ?_
    have : s.takingOn.askStop .hostStop = none := by
      obtain h | h | h | ⟨r, h⟩ | ⟨c, h⟩ := h <;> simp only [State.askStop, State.takingOn_player, h]
    simp only [State.serve, State.serveStop, this]

/-! ### RECOVER (R44) -/

/-- Settles O27. -/
theorem recoverBeginsAPositioningTurn : Obligations.RecoverBeginsAPositioningTurn := by
  intro s hready blocked
  have refuse {st : Status} (h : s.recoverRefusal = some st) : exec .recover s = .next (s.replied 0xA6 (replyOf st [])) :=
    exec_refused hready rfl rfl (by
      have : s.takingOn.recoverRefusal = some st := h
      simp only [State.serve, State.serveRecover, this])
  have hblocked : (s.estop || !s.shaft.driveReady || !s.frame.readyX || !s.frame.readyY || s.anyLimit
      || ((s.armedDesign.map Design.state) == some .failed)) = true ↔ blocked := by
    simp only [Bool.or_eq_true, State.estop_iff hready, Bool.not_eq_true', beq_iff_eq, Option.map_eq_some_iff, or_assoc, blocked]
  refine ⟨fun h => refuse (st := .wrongState) ?_, fun c hc => ?_⟩
  · unfold State.recoverRefusal
    split <;> first | rfl | exact absurd ‹_› (h _)
  · have hrefusal : s.recoverRefusal =
        if s.player.recovering || s.shaft.state == .braking then some .busy
        else if blocked then some .wrongState else none := by
      simp only [State.recoverRefusal, hc, hblocked]
    refine ⟨fun h => refuse (st := .busy) ?_, fun hr hb h => refuse (st := .wrongState) ?_, fun hr hb h => ?_⟩
    · rw [hrefusal, if_pos (by simpa using h)]
    · rw [hrefusal, if_neg (by simp [hr, hb]), if_pos h]
    · refine exec_settled hready rfl rfl ?_
      have : s.takingOn.recoverRefusal = none := hrefusal.trans (by rw [if_neg (by simp [hr, hb]), if_neg h])
      simp only [State.serve, State.serveRecover, this, State.recoverNow, NeedleCase.clearFault_eq]
      rfl

end Sys2Proof.Machine
end

section
/-! PROOF. HALT, in every player state (O26). -/

namespace Sys2Proof.Machine

/-! ### What a slowed move latches (R93, R97) -/

/-- R93: the move stops at once when it is told to slow down. -/
def FrameMove.stopsAtOnce (m : FrameMove) : Bool :=
  match m with
  | .legs _ leg _ none => decide (leg.rateSq ≤ 4000000)
  | .legs _ _ _ (some _) => false
  | .homing _ _ => true

/-- R93: whether FRAME_DONE latches at once as the frame is told to slow down. -/
def Frame.stopsAtOnce (f : Frame) : Bool :=
  match f.move with
  | some (.legs _ leg _ none) => decide (leg.rateSq ≤ 4000000)
  | some (.legs _ _ _ (some _)) => false
  | some (.homing _ _) => true
  | none => false

theorem State.slowMove_ev (s : State) (cause : AbortCause) : (s.slowMove cause).ev =
    { s.ev with flags := s.ev.flags ||| (if s.frame.stopsAtOnce then Event.frameDone.bit else 0) } := by
  have hkept : s.ev = { s.ev with flags := s.ev.flags ||| 0 } := by simp
  have hdone {m : FrameMove} (h : s.frame.move = some m) (a : Option AbortCause) :
      (s.finishMove a).ev = { s.ev with flags := s.ev.flags ||| Event.frameDone.bit } := by
    rw [State.finishMove_eq h, State.latch_flags]
  unfold State.slowMove Frame.stopsAtOnce
  rcases h : s.frame.move with _ | ⟨op, leg, rest, _ | _⟩ | ⟨axis, stage⟩
  · exact hkept
  · simp only [decide_eq_true_iff]
    split
    · exact hdone h _
    · exact hkept
  · exact hkept
  · exact hdone h _

/-- R41, R42: HALT is a report of the cause HALT, from any state but IDLE and HALTED an entry to HALTED. -/
theorem State.reportFault_enters {s : State} (hidle : s.player.state ≠ .idle)
    (hhalted : ∀ c : HaltCause, s.player.state ≠ .halted c) (c : HaltCause) : s.reportFault c = s.enterHalted c := by
  unfold State.reportFault
  split
  · exact absurd ‹_› hidle
  · exact absurd ‹_› (hhalted _)
  all_goals rfl

/-- R97, R22: what an entry to HALTED latches. -/
theorem State.enterHalted_ev (s : State) : (s.enterHalted .halt).ev = { s.ev with
    flags := s.ev.flags ||| Event.playerState.bit |||
      (if (s.frame.unsewn s.gov.move.isSome).stopsAtOnce then Event.frameDone.bit else 0) } := by
  rw [State.enterHalted_eq, State.reportPlayer, State.latch_flags]
  simp only [State.lend_keeps, State.haltKill_keeps, State.haltFrame, HaltCause.abort, State.slowMove_ev,
    State.haltMachine_frame, State.haltMachine_keeps, State.haltPlayer_keeps, reduceCtorEq, if_false]
  congr 1
  ac_rfl

theorem Frame.unsewn_of_move {f : Frame} {m : FrameMove} (h : f.move = some m) (sewing : Bool) : f.unsewn sewing = f := by
  simp [Frame.unsewn, h]

theorem Frame.unsewn_move (f : Frame) (sewing : Bool) : (f.unsewn sewing).move = f.move := by
  unfold Frame.unsewn
  split <;> simp

theorem Frame.unsewn_false (f : Frame) : f.unsewn false = f := rfl

theorem Frame.stopsAtOnce_congr {f g : Frame} (h : f.move = g.move) : f.stopsAtOnce = g.stopsAtOnce := by
  unfold Frame.stopsAtOnce
  rw [h]

theorem Frame.settleOwner_of_keep {f : Frame} (ho : f.owner = .player) (ha : f.after = .keep) : f.settleOwner = f := by
  simp only [Frame.settleOwner, ho, ha]

/-- R94: a frame that nothing moves is lent by its owner. -/
theorem Frame.lendBy_of_still {f : Frame} (h : f.move = none) :
    f.lendBy false = if f.owner = .player then { f with lent := true } else f := by
  simp [Frame.lendBy, h]

/-- R93, R94: a move that stops at once gives the frame to its owner, who lends it. -/
theorem Frame.lendBy_settleOwner {f : Frame} (h : f.after = .keep) :
    ({ f with move := none }.settleOwner).lendBy false = (match f.owner with
      | .player => { f with move := none, lent := true }
      | .positioner => { f with move := none, owner := if f.lent then .player else .none }
      | .none => { f with move := none }) := by
  obtain ⟨x, y, known, owner, lent, move, after⟩ := f
  obtain rfl : after = .keep := h
  cases owner <;> cases lent <;> rfl

theorem Frame.slow_of_stopsAtOnce {f : Frame} (h : f.stopsAtOnce = true) (cause : AbortCause) :
    f.slow cause = { f with move := none }.settleOwner := by
  unfold Frame.stopsAtOnce at h
  unfold Frame.slow
  rcases hm : f.move with _ | ⟨op, leg, rest, _ | _⟩ | ⟨axis, stage⟩ <;> simp_all

theorem State.serveHalt_of_halted {s : State} {c : HaltCause} (h : s.player.state = .halted c) :
    s.takingOn.serve .halt = okWith (s.takingOn.haltAgain c .halt) [] := by
  simp only [State.serve, State.serveHalt, State.reportFault, State.takingOn_player, h, reduceCtorEq, if_false]

theorem State.haltAgain_of_not {s : State} (h : s.player.recovering = false) (kept c : HaltCause) :
    s.takingOn.haltAgain kept c = s.takingOn.abandonSewing := if_neg (by simp [h])

/-- R44: a HALT taken during a recovery ends it. -/
theorem State.haltAgain_of_recovering {s : State} (h : s.player.recovering = true) (kept : HaltCause) :
    s.takingOn.haltAgain kept .halt =
      ((s.takingOn.abandonSewing.modPlayer fun p => { p with recovering := false, state := .halted .halt }).brakeRequest).modOuts
        Outputs.setKill := if_pos h

theorem State.serveHalt_of_idle {s : State} (h : s.player.state = .idle) :
    s.takingOn.serve .halt = okWith s.takingOn.haltIdle [] := congrArg (okWith · []) (if_pos h)

/-- R41: a HALT in IDLE with nothing sewn and no shaft that positions. -/
theorem State.haltIdle_of_still {s : State} (hsew : s.gov.move = none) (hp : s.shaft.state ≠ .positioning) :
    s.takingOn.haltIdle = (s.takingOn.slowPositioner .halt).modCase NeedleCase.abandon := by
  rw [State.haltIdle, State.abandonSewing_of_none (s := s.takingOn) hsew, if_neg (by simpa using hp)]

/-- R62: the steps owed by an overrun that a DISARM has left are abandoned. -/
theorem State.haltIdle_of_owed {s : State} (hsew : s.gov.move.isSome = true) (ho : s.frame.owner ≠ .positioner)
    (hp : s.shaft.state ≠ .positioning) :
    s.takingOn.haltIdle = { s.takingOn with
      nc := s.nc.abandon, gov := { s.gov with move := none }
      frame := if s.frame.move.isNone then s.frame.settleOwner else s.frame } := by
  have hkept : (if s.frame.move.isNone then s.frame.settleOwner else s.frame).owner ≠ .positioner := by
    split
    · unfold Frame.settleOwner
      split
      · exact absurd ‹_› ho
      · split <;> simp_all
      · simp_all
    · exact ho
  rw [State.haltIdle, State.abandonSewing_of_some (s := s.takingOn) hsew, State.slowPositioner_of_ne (by exact hkept)]
  exact if_neg hp

theorem State.haltIdle_of_positioning {s : State} (hsew : s.gov.move = none) (ho : s.frame.owner ≠ .positioner)
    (hp : s.shaft.state = .positioning) :
    s.takingOn.haltIdle = (s.takingOn.modCase NeedleCase.abandon).brakeRequest := by
  rw [State.haltIdle, State.abandonSewing_of_none (s := s.takingOn) hsew, State.slowPositioner_of_ne (s := s.takingOn) ho]
  exact if_pos hp

theorem State.quiet_of_not_held {t : State} (hs : t.shaft.state ≠ .held) (he : t.player.errand = .none) : t.quiet = true := by
  unfold State.quiet State.settleOne
  cases hk : t.nc.kept <;> simp [he, State.beginKept, State.isHeld, hs, hk]

theorem ShaftState.braked_ne_held (h : ShaftState) (still : Bool) : h.braked still ≠ .held := by
  cases h <;> cases still <;> simp [ShaftState.braked]

/-- R68: a brake request to a shaft that is not HELD leaves the case unit alone. -/
theorem State.brakeRequest_nc {s : State} (h : s.shaft.state ≠ .held) : s.brakeRequest.nc = s.nc := by
  unfold State.brakeRequest
  simp only []
  split <;> simp_all

/-- A latching and a change of the case unit are independent. -/
theorem State.modCase_latch (s : State) (e : Event) (detail : List Byte) (f : NeedleCase → NeedleCase) :
    (s.latch e detail).modCase f = (s.modCase f).latch e detail := by
  simp [State.latch_eq, State.modCase]

/-- Settles O26. -/
theorem haltAbandonsEverything : Obligations.HaltAbandonsEverything := by
  refine ⟨fun s hready hidle hhalted => ?enters, fun s hready =>
    ⟨fun c hc hr hsew => ?again, fun c hc hr he hsew ho ha hm => ?owed, fun c hc hr he => ?recovering,
      fun hi he ho hsew hp => ⟨fun op leg rest hm hfast => ?slows, fun mv hm hmv => ?stops⟩, fun hi he ho hsew hp => ?brakes,
      fun hi he ho hp => ⟨fun hsew => ?nothing, fun hsew hown ha hm => ?owedIdle⟩⟩⟩
  case enters =>
    have hserve : s.takingOn.serve .halt = okWith (s.takingOn.enterHalted .halt) [] := by
      rw [← State.reportFault_enters (s := s.takingOn) hidle hhalted]
      exact congrArg (okWith · []) (if_neg hidle)
    have hplayer := s.takingOn.enterHalted_player .halt
    have hnc := s.takingOn.enterHalted_nc .halt
    have hframe : (s.takingOn.enterHalted .halt).frame =
        ((s.frame.unsewn s.gov.move.isSome).slow .halt).lendBy false := s.takingOn.enterHalted_frame .halt
    refine ⟨_, exec_answered hready rfl rfl hserve (State.quiet_of_no_kept (by rw [hnc]; rfl) (by rw [hplayer]; rfl)), rfl, ?_⟩
    simp only [State.replied, hplayer, hnc, State.enterHalted_keeps, State.takingOn_player, State.takingOn_store,
      State.takingOn_straps, hframe, State.enterHalted_gov_move, State.enterHalted_shaft_state,
      State.enterHalted_kill_of_kills s.takingOn .halt rfl]
    refine ⟨rfl, rfl, rfl, rfl, rfl, rfl, rfl, rfl, rfl, ?_, rfl, trivial, s.takingOn.enterHalted_disengaged .halt, rfl,
      rfl, s.nc.abandon_at_rest.1, s.nc.abandon_at_rest.2, ?_, trivial, trivial, ?_, ?_⟩
    · cases ha : s.player.active with
      | none => simp [Player.halt, ha]
      | some a => cases hi : a.index <;> simp [Player.halt, ha, hi]
    · show s.shaft.state.braked s.shaft.still = _
      cases s.shaft.state <;> rfl
    · simp [State.lend_eq, State.slowMove_frame, State.abandonSewing_frame, State.abandonSewing_gov]
    · refine ⟨?_, fun hm ha hsew => ?_, fun op leg rest hm hfast => ?_, fun hatOnce ha => ?_⟩
      · rw [State.enterHalted_ev, Frame.stopsAtOnce_congr (Frame.unsewn_move _ _)]
        rfl
      · have hunsewn : s.frame.unsewn s.gov.move.isSome = s.frame := by
          rcases hsew with hsew | ho
          · rw [hsew]
            rfl
          · unfold Frame.unsewn
            split
            · exact Frame.settleOwner_of_keep ho ha
            · rfl
        have hslow : s.frame.slow .halt = s.frame := by simp [Frame.slow, hm]
        rw [hunsewn, hslow, Frame.lendBy_of_still hm]
      · rw [Frame.unsewn_of_move hm]
        have hslow : s.frame.slow .halt = { s.frame with move := some (.legs op leg rest (some .halt)) } := by
          simp [Frame.slow, hm, Nat.not_le.2 hfast]
        rw [hslow]
        by_cases ho : s.frame.owner = .player <;> simp [Frame.lendBy, ho]
      · have hatOnce : s.frame.stopsAtOnce = true := hatOnce
        obtain ⟨m, hm⟩ : ∃ m, s.frame.move = some m := by
          rcases h : s.frame.move with _ | m
          · simp [Frame.stopsAtOnce, h] at hatOnce
          · exact ⟨m, rfl⟩
        rw [Frame.unsewn_of_move hm, Frame.slow_of_stopsAtOnce hatOnce]
        exact Frame.lendBy_settleOwner ha
  case again =>
    refine exec_unchanged hready rfl rfl ?_
    rw [State.serveHalt_of_halted hc, State.haltAgain_of_not hr, State.abandonSewing_of_none (s := s.takingOn) hsew]
    rfl
  case owed =>
    refine exec_served hready rfl rfl (t := { s with
        gov := { s.gov with move := none }, frame := { s.frame with lent := true, after := .keep } }) ?_
      (State.quiet_of_no_errand (State.quiet_of_ready hready) rfl rfl he)
    rw [State.serveHalt_of_halted hc, State.haltAgain_of_not hr, State.abandonSewing_of_some (s := s.takingOn) hsew]
    have hframe : (if s.frame.move.isNone then s.frame.settleOwner else s.frame) =
        { s.frame with lent := true, after := .keep } := by
      rw [hm]
      simp [Frame.settleOwner, ho, ha]
    exact congrArg (fun f : Frame => okWith { s with gov := { s.gov with move := none }, frame := f }.takingOn []) hframe
  case recovering =>
    have hserve := State.serveHalt_of_halted hc
    refine ⟨_, exec_answered hready rfl rfl hserve ?_, rfl, ?_⟩
    · rw [State.haltAgain_of_recovering hr]
      refine State.quiet_of_not_held ?_ ?_
      · simp [State.brakeRequest_shaft_state, ShaftState.braked_ne_held]
      · simpa using he
    · rw [State.haltAgain_of_recovering hr]
      refine ⟨by simp [State.replied], by simp [State.replied], rfl, fun hsew => ?_⟩
      simp [State.replied, State.abandonSewing_of_none (s := s.takingOn) hsew]
  case slows =>
    refine exec_served hready rfl rfl (t := { s with
        nc := s.nc.abandon, frame := { s.frame with move := some (.legs op leg rest (some .halt)) } }) ?_
      (State.quiet_of_no_kept rfl he)
    rw [State.serveHalt_of_idle hi, State.haltIdle_of_still hsew hp]
    have hslow : (s.takingOn.slowPositioner .halt) =
        s.takingOn.modFrame fun f => { f with move := some (.legs op leg rest (some .halt)) } := by
      rw [State.slowPositioner, if_pos (by exact ho), State.slowMove]
      simp only [State.takingOn_frame, hm, if_neg (Nat.not_le.2 hfast)]
    rw [hslow]
    rfl
  case stops =>
    have hslow : s.takingOn.slowPositioner .halt = s.takingOn.finishMove (some .halt) := by
      rw [State.slowPositioner, if_pos (by exact ho), State.slowMove]
      obtain ⟨axis, stage, rfl⟩ | ⟨op, leg, rest, rfl, hslow⟩ := hmv
      · simp only [State.takingOn_frame, hm]
      · simp only [State.takingOn_frame, hm, if_pos hslow]
    refine exec_answered hready rfl rfl (p := [0]) ?_ (State.quiet_of_no_kept (by simp) (by simpa using he))
    rw [State.serveHalt_of_idle hi, State.haltIdle_of_still hsew hp, hslow, State.finishMove_eq (s := s.takingOn) hm]
    have hframe : { s.frame with move := none }.settleOwner =
        { s.frame with move := none, owner := if s.frame.lent then .player else .none, after := .keep } := by
      simp only [Frame.settleOwner, ho]
      split <;> rfl
    simp only [State.takingOn_frame, hframe, State.modCase_latch]
    rfl
  case brakes =>
    have hserve := State.serveHalt_of_idle hi
    rw [State.haltIdle_of_positioning hsew ho hp] at hserve
    refine ⟨_, exec_answered hready rfl rfl hserve (State.quiet_of_no_kept ?_ ?_), rfl, ?_⟩
    · rw [State.brakeRequest_nc (by simp [hp])]
      rfl
    · simpa using he
    · have hnc : (s.takingOn.modCase NeedleCase.abandon).brakeRequest.nc = s.nc.abandon := State.brakeRequest_nc (by simp [hp])
      have hstate : (s.takingOn.modCase NeedleCase.abandon).brakeRequest.shaft.state =
          if s.shaft.still then .off else .braking :=
        (State.brakeRequest_shaft_state _).trans (congrArg (ShaftState.braked · s.shaft.still) hp)
      exact ⟨by simp [State.replied], by simp [State.replied], hnc, by simp [State.replied], hstate⟩
  case nothing =>
    refine exec_served hready rfl rfl (t := { s with nc := s.nc.abandon }) ?_ (State.quiet_of_no_kept rfl he)
    rw [State.serveHalt_of_idle hi, State.haltIdle_of_still hsew hp, State.slowPositioner_of_ne (s := s.takingOn) ho]
    rfl
  case owedIdle =>
    refine exec_served hready rfl rfl (t := { s with
        nc := s.nc.abandon, gov := { s.gov with move := none }
        frame := { s.frame with owner := .none, lent := false, after := .keep } }) ?_ (State.quiet_of_no_kept rfl he)
    have hframe : (if s.frame.move.isNone then s.frame.settleOwner else s.frame) =
        { s.frame with owner := .none, lent := false, after := .keep } := by
      rw [hm]
      simp [Frame.settleOwner, hown, ha]
    rw [State.serveHalt_of_idle hi, State.haltIdle_of_owed hsew ho hp]
    exact congrArg (fun f : Frame =>
      okWith { s with nc := s.nc.abandon, gov := { s.gov with move := none }, frame := f }.takingOn []) hframe

end Sys2Proof.Machine
end

section
/-! PROOF. An accepted DSN_BLOCK, its reply, and the report to the player (O12). -/

namespace Sys2Proof.Machine

/-! ### What storing a block takes and leaves (R9) -/

theorem storeOne_free (acc : Design × List Nat × List Host.Cell) (r : RawRecord) :
    (storeOne acc r).2.1.length = acc.2.1.length - (if acc.1.stored % 256 = 0 then 1 else 0) := by
  show (takeSlot acc.1 acc.2.1).2.length = _
  unfold takeSlot
  split
  · split <;> simp_all
  · rfl

/-- R9: a run of records takes a free page for each multiple of 256 among their numbers, while there are any. -/
theorem foldl_storeOne_free (rs : List RawRecord) (acc : Design × List Nat × List Host.Cell) :
    (rs.foldl storeOne acc).2.1.length =
      acc.2.1.length - ((acc.1.stored + rs.length + 255) / 256 - (acc.1.stored + 255) / 256) := by
  induction rs generalizing acc with
  | nil => simp
  | cons r rs ih =>
    have hstored : (storeOne acc r).1.stored = acc.1.stored + 1 := rfl
    rw [List.foldl_cons, ih, storeOne_free, hstored, List.length_cons]
    split <;> omega

theorem foldl_storeOne_stored (rs : List RawRecord) (acc : Design × List Nat × List Host.Cell) :
    (rs.foldl storeOne acc).1.stored = acc.1.stored + rs.length ∧ (rs.foldl storeOne acc).1.declared = acc.1.declared := by
  induction rs generalizing acc with
  | nil => exact ⟨rfl, rfl⟩
  | cons r rs ih =>
    obtain ⟨hstored, hdeclared⟩ := ih (storeOne acc r)
    exact ⟨by rw [List.foldl_cons, hstored, List.length_cons, Nat.add_comm rs.length, ← Nat.add_assoc]; rfl,
      by rw [List.foldl_cons, hdeclared]; rfl⟩

/-- R1: a change of the entry that holds a number is found under that number. -/
theorem Store.find_modDesign (st : Store) (n : Nat) (f : Design → Design) (hf : ∀ d : Design, d.number = n → (f d).number = n) :
    (st.modDesign n f).find n = (st.find n).map f := by
  show (st.modDesign n f).designs.find? _ = (st.designs.find? _).map f
  rw [Store.designs_modDesign, List.find?_map]
  have hsame : ((fun d : Design => d.number == n) ∘ fun d => if d.number = n then f d else d) = fun d => d.number == n := by
    funext d
    by_cases hd : d.number = n <;> simp [hd, hf]
  rw [hsame]
  cases h : st.designs.find? fun d => d.number == n with
  | none => rfl
  | some d =>
    have hd : d.number = n := by simpa using List.find?_some h
    simp [hd]

/-- R9, R20: the entry of a stored block, as the player finds it. -/
theorem Store.find_storeBlock {st : Store} {d : Design} (h : st.find d.number = some d) (rs : List RawRecord) :
    (st.storeBlock d rs).find d.number = some (st.blockEntry d rs) := by
  have := st.find_modDesign d.number (fun _ => st.blockEntry d rs) fun _ _ => st.blockEntry_number d rs
  rw [h] at this
  exact this

/-! ### STARVED (R39) -/

theorem State.starvedMet_eq {s : State} {d : Design} (h : s.armedDesign = some d) :
    s.starvedMet = true ↔ s.player.starvedMark + 16 ≤ d.stored ∨ d.stored = d.declared := by
  simp [State.starvedMet, h, Design.endStored]

theorem Outputs.allAuto_allAuto (o : Outputs) : o.allAuto.allAuto = o.allAuto := by
  simp [Outputs.allAuto]

/-- R39, R70: from HELD the exit turns the shaft at the run-up speed. -/
theorem State.exitStarved_of_held {s : State} (h : s.shaft.state = .held) (hready : s.shaft.driveReady = true)
    (howner : s.frame.owner ≠ .positioner) : s.exitStarved = { s with
      player := { s.player with state := .running }
      shaft := { s.shaft.setDemand s.gov.active.motion.sStop (min s.gov.active.motion.sStart s.gov.sCmd) with
        state := .turning, runUp := true }
      nc := s.nc.endMove
      outs := s.outs.allAuto } := by
  rw [State.exitStarved, State.turnRequest_of_held (by exact h), State.enterTurning_eq (by exact hready) (by exact howner)]
  simp only [State.modPlayer, State.modOuts, Outputs.allAuto_allAuto]

/-- R39, R68: from OFF and OFF_POSITION the exit positions first, the turn request kept. -/
theorem State.exitStarved_of_off {s : State} (h : s.shaft.state = .off ∨ s.shaft.state = .offPosition)
    (hready : s.shaft.driveReady = true) (howner : s.frame.owner ≠ .positioner) : s.exitStarved = { s with
      player := { s.player with state := .running }
      shaft := { s.shaft.setDemand s.gov.active.motion.sStop s.gov.active.motion.sStop with
        state := .positioning, phase := .creep, retry := 0, extra := 0, cause := none, faultStill := false, toOff := false
        keptHold := false, keptTurn := true }
      outs := s.outs.allAuto } := by
  have hheld : s.shaft.state ≠ .held := by
    rcases h with h | h <;> simp [h]
  rw [State.exitStarved, State.turnRequest_of_off (by exact h), State.enterPositioning_eq (by exact hready) (by exact howner), if_neg (by exact hheld)]
  simp only [State.modPlayer, State.modOuts, State.modShaft, Outputs.allAuto_allAuto]
  rfl

theorem NeedleCase.endMove_kept (c : NeedleCase) : c.endMove.kept = c.kept := by
  unfold NeedleCase.endMove
  cases c.state <;> rfl

/-- R20: the report of a design to a player that is not STARVED. -/
theorem State.storeReport_of_ne {s : State} (h : s.player.state ≠ .starved) : s.storeReport = s.prefetch := by
  rw [State.storeReport]
  exact if_neg fun hst => h (by rw [← hst.1, s.prefetch_player])

theorem State.prefetch_armedDesign (s : State) : s.prefetch.armedDesign = s.armedDesign := by
  rw [State.armedDesign, s.prefetch_player]
  simp [State.armedDesign]

/-- R39: the report of a design to a STARVED player. -/
theorem State.storeReport_of_starved {s : State} {d : Design} (h : s.player.state = .starved) (hd : s.armedDesign = some d) :
    s.storeReport = if s.player.starvedMark + 16 ≤ d.stored ∨ d.stored = d.declared then s.prefetch.exitStarved else s.prefetch := by
  have hstate : s.prefetch.player.state = .starved := by rw [s.prefetch_player, ← h]
  have hmet := State.starvedMet_eq (s.prefetch_armedDesign.trans hd)
  have hmark : s.prefetch.player.starvedMark = s.player.starvedMark := by rw [s.prefetch_player]
  rw [hmark] at hmet
  by_cases hm : s.player.starvedMark + 16 ≤ d.stored ∨ d.stored = d.declared
  · rw [if_pos hm]
    exact if_pos ⟨hstate, hmet.2 hm⟩
  · rw [if_neg hm]
    exact if_neg fun hst => hm (hmet.1 hst.2)

/-- Settles O12. -/
theorem dsnBlockIsStoredWhole : Obligations.DsnBlockIsStoredWhole := by
  intro s design block count records d hready hlen hpos hmost hd hstate hblock hmax hpass pages hpages hroom answer detail stored
  obtain ⟨-, rfl⟩ := Store.find_some hd
  have hfree : (stored.store.free.length : Nat) = s.store.free.length - pages := by
    refine (foldl_storeOne_free records (d, s.store.free, s.store.ram)).trans ?_
    simp only [← hlen, hpages]
    split <;> omega
  have hnopage : ¬(d.needsPage records.length && s.store.free.isEmpty) = true := by
    simp only [Bool.and_eq_true, Design.needsPage, Bool.or_eq_true, beq_iff_eq, decide_eq_true_eq, List.isEmpty_iff_length_eq_zero]
    rintro ⟨hneeds, hempty⟩
    rw [← hlen] at hneeds
    rw [if_pos hneeds] at hpages
    omega
  have served {u : State} (hu : s.takingOn.blockStored d records = u) (hstore : u.store = stored.store) :
      s.takingOn.serve (.dsnBlock d.number block count records) = (u, detail) := by
    have hcount : ¬(count = 0 ∨ 64 < count) := by omega
    have horder : ¬d.outOfOrder block = true := by simp [Design.outOfOrder, hblock]; omega
    simp only [State.serve, State.serveDsnBlock, if_neg hcount, State.takingOn_store, hd, hstate, ne_eq, not_true, if_false,
      Bool.false_eq_true, horder, hpass, hu, hstore, hfree, okWith, detail]
    rw [if_neg hnopage, hlen]
    rfl
  have hquiet : stored.quiet = true :=
    (State.quiet_congr stored s rfl rfl rfl rfl rfl).trans (State.quiet_of_ready hready)
  have unchanged (h : s.takingOn.blockStored d records = stored.takingOn) : answer = .next (stored.replied 0x91 detail) :=
    exec_served hready rfl (decide_eq_true hlen) (served h rfl) hquiet
  have fetched (h : s.takingOn.blockStored d records = stored.prefetch.takingOn) :
      answer = .next (stored.prefetch.replied 0x91 detail) :=
    exec_served hready rfl (decide_eq_true hlen) (served h (by simp)) ((State.prefetch_quiet _).trans hquiet)
  have reported (h : d.armedPin = true) : s.takingOn.blockStored d records = stored.takingOn.storeReport := if_pos h
  refine ⟨fun hpin => unchanged ?_, fun hpin => ⟨fun h => fetched ?_, fun h => unchanged ?_⟩, fun hpin harmed hstarved herrand hkept => ?starved⟩
  · simp only [State.blockStored, hpin]
    rfl
  · rw [reported hpin, State.storeReport_of_ne, State.prefetch_takingOn]
    obtain h | h | h | h | h | ⟨r, h⟩ := h <;> simp [stored, h]
  · rw [reported hpin, State.storeReport_of_ne, State.prefetch_of_idle]
    · refine Or.inl ?_
      obtain h | h | ⟨c, h⟩ := h <;> simp [stored, h, PlayerState.prefetches]
    · obtain h | h | ⟨c, h⟩ := h <;> simp [stored, h]
  case starved =>
    have harmedDesign : stored.takingOn.armedDesign = some (s.store.blockEntry d records) := by
      show s.player.armed.bind _ = _
      rw [harmed]
      exact Store.find_storeBlock hd records
    obtain ⟨hcounted, hdeclared⟩ := foldl_storeOne_stored records (d, s.store.free, s.store.ram)
    have hreport := State.storeReport_of_starved (s := stored.takingOn) hstarved harmedDesign
    have hmeets : (stored.takingOn.player.starvedMark + 16 ≤ (s.store.blockEntry d records).stored ∨
        (s.store.blockEntry d records).stored = (s.store.blockEntry d records).declared) ↔
        (s.player.starvedMark + 16 ≤ d.stored + count ∨ d.stored + count = d.declared) := by
      simp only [Store.blockEntry, hcounted, hdeclared, hlen]
      rfl
    simp only [hmeets] at hreport
    intro enough
    obtain ⟨q, hq⟩ := State.prefetch_queue stored
    have hfetched : stored.takingOn.prefetch = (stored.modPlayer fun p => { p with queue := q }).takingOn := by
      rw [State.prefetch_takingOn, hq]
    refine ⟨fun h => fetched ?_, fun h hheld hdrive howner => ?_, fun h hoff hdrive howner => ?_⟩
    · rw [reported hpin, hreport, if_neg h, State.prefetch_takingOn]
    · rw [if_pos h, hfetched, State.exitStarved_of_held (by exact hheld) (by exact hdrive) (by exact howner)] at hreport
      refine ⟨_, exec_answered hready rfl (decide_eq_true hlen) (served ((reported hpin).trans hreport) rfl)
        (State.quiet_of_no_kept ?_ herrand), rfl, ?_⟩
      · exact (NeedleCase.endMove_kept s.nc).trans hkept
      · rw [hq]
        exact ⟨rfl, rfl, rfl, rfl, rfl, rfl, rfl, rfl, rfl, rfl, rfl⟩
    · rw [if_pos h, hfetched, State.exitStarved_of_off (by exact hoff.symm) (by exact hdrive) (by exact howner)] at hreport
      refine ⟨_, exec_answered hready rfl (decide_eq_true hlen) (served ((reported hpin).trans hreport) rfl)
        (State.quiet_of_no_kept hkept herrand), rfl, ?_⟩
      rw [hq]
      exact ⟨rfl, rfl, rfl, rfl, rfl, rfl, rfl, rfl, rfl, rfl, rfl⟩

end Sys2Proof.Machine
end

section
/-! PROOF. DSN_CLOSE, for a design that is not armed and for the armed one in every player state (O15). -/

namespace Sys2Proof.Machine

/-! ### Flags that stay latched (R174) -/

/-- A flag that was latched, whatever latches besides. -/
theorem BitVec.and_ne_zero_of_or {w : Nat} {x bit : BitVec w} (h : bit ≠ 0) (hx : ∃ y, x = y ||| bit) : x &&& bit ≠ 0 := by
  obtain ⟨y, rfl⟩ := hx
  have habsorb : (y ||| bit) &&& bit = bit := by
    ext i hi
    simp only [BitVec.getElem_and, BitVec.getElem_or]
    cases bit[i] <;> simp
  rw [habsorb]
  exact h

theorem Event.bit_ne_zero (e : Event) : e.bit ≠ 0 := by cases e <;> decide

/-- R93: what the frame latches as an entry to HALTED slows it down. -/
theorem State.haltFrame_flags (s : State) (c : HaltCause) : ∃ more, (s.haltFrame c).ev.flags = s.ev.flags ||| more := by
  unfold State.haltFrame
  split
  · exact ⟨_, by rw [State.slowMove_ev]⟩
  · exact ⟨0, by simp⟩

theorem State.enterHalted_flags (s : State) (c : HaltCause) :
    ∃ more, (s.enterHalted c).ev.flags = s.ev.flags ||| more ||| Event.playerState.bit := by
  obtain ⟨more, hmore⟩ := ((s.haltPlayer c).haltMachine c).haltFrame_flags c
  refine ⟨more, ?_⟩
  rw [State.enterHalted_eq, State.reportPlayer, State.latch_flags]
  simp only [State.lend_keeps, State.haltKill_keeps, hmore, State.haltMachine_keeps, State.haltPlayer_keeps]

/-! ### The armed design fails (R43) -/

/-- R35: DESIGN replaces any reason. -/
theorem StopReason.combine_design (held : Option StopReason) : StopReason.combine held .design = some .design := by
  cases held <;> rfl

theorem Player.combineStop_design (p : Player) :
    p.combineStop .design none = { p with stopReason := some .design, soonStop := true } := by
  simp [Player.combineStop, StopReason.combine_design]

/-- R43, R35: a planned stop with the reason DESIGN from RUNNING. -/
theorem State.designFailed_of_running {s : State} (h : s.player.state = .running) :
    s.designFailed = { s with player := { s.player with state := .stopping, stopReason := some .design, soonStop := true } } := by
  simp only [State.designFailed, State.plannedStop, h, State.modPlayer, Player.combineStop_design]

/-- R43, R35, R146: DESIGN replaces the reason of a stop under way, and a pass selection goes with a REPAIR reason. -/
theorem State.designFailed_of_stopping {s : State} (h : s.player.state = .stopping) :
    s.designFailed = { s with
      player := { s.player with stopReason := some .design, soonStop := true }
      heads := { s.heads with selection := if s.player.stopReason = some .repair then none else s.heads.selection } } := by
  have hstop : s.designFailed = (s.dropSelection .design).modPlayer fun p => p.combineStop .design none := by
    simp only [State.designFailed, State.plannedStop, h]
  rw [hstop, State.dropSelection]
  by_cases hrepair : s.player.stopReason = some .repair
  · rw [if_pos ⟨hrepair, rfl⟩, if_pos hrepair]
    simp only [State.modPlayer, Player.combineStop_design]
    rfl
  · rw [if_neg (not_and_of_not_left _ hrepair), if_neg hrepair]
    simp only [State.modPlayer, Player.combineStop_design]

/-- R43: remembered through a held-shaft operation. -/
theorem State.designFailed_of_moving {s : State} (h : s.player.state = .changing ∨ s.player.state = .returning) :
    s.designFailed = { s with player := { s.player with stopReason := some .design } } := by
  have hstop : s.designFailed = s.modPlayer fun p => { p with stopReason := StopReason.combine p.stopReason .design } := by
    rcases h with h | h <;> simp only [State.designFailed, State.plannedStop, h]
  rw [hstop]
  simp only [State.modPlayer, StopReason.combine_design]

theorem State.designFailed_of_rest {s : State} (h : s.player.state = .armed ∨ (∃ r : PauseReason, s.player.state = .paused r) ∨
    s.player.state = .starved ∨ s.player.state = .finished) : s.designFailed = s.enterHalted .design := by
  obtain h | ⟨r, h⟩ | h | h := h <;> simp only [State.designFailed, State.reportFault, h]

theorem State.designFailed_of_halted {s : State} {c : HaltCause} (h : s.player.state = .halted c) :
    s.designFailed = s.haltAgain c .design := by
  simp only [State.designFailed, State.reportFault, h]

/-- R44, R41: a recovery that a report ends. -/
theorem State.haltAgain_recovering {s : State} {c kept : HaltCause} (hr : s.player.recovering = true) (hc : c ≠ .halt) :
    (s.haltAgain kept c).player = { s.player with recovering := false, state := .halted kept } ∧
      (s.haltAgain kept c).shaft.state = s.shaft.state.braked s.shaft.still ∧
      (s.haltAgain kept c).gov.move = none ∧ (s.haltAgain kept c).frame = s.abandonSewing.frame := by
  unfold State.haltAgain
  rw [if_pos hr, if_neg hc]
  simp only []
  split <;> simp [State.brakeRequest_shaft_state, State.abandonSewing_gov]

/-! ### DSN_CLOSE (R11, R12, R43) -/

/-- R11, R12: the entry of the design with its outcome, latched. -/
def State.closedAs (s : State) (design : Nat) (outcome : DesignState) (e : Event) (detail : List Byte) : State :=
  { s with
    store := { s.store with
      dir := s.store.dir.map fun (o : Option Design) =>
        o.map fun (x : Design) => if x.number = design then { x with state := outcome } else x }
    link := { s.link with taking := true } }.latch e detail

theorem State.closedAs_quiet (s : State) (design : Nat) (outcome : DesignState) (e : Event) (detail : List Byte) :
    (s.closedAs design outcome e detail).quiet = s.quiet :=
  State.quiet_congr _ _ (by simp [State.closedAs]) (by simp [State.closedAs]) (by simp [State.closedAs])
    (by simp [State.closedAs]) (by simp [State.closedAs])

/-- R11, R12: the request as far as its outcome. -/
theorem State.serveDsnClose_of_whole {s : State} {design check : Nat} {d : Design} (hd : s.store.find design = some d)
    (hstate : d.state = .loading) (hwhole : d.declared ≤ d.stored) : s.takingOn.serve (.dsnClose design check) =
      if (checkValue d.crc).toNat ≠ check then
        (s.takingOn.closeFailed d 0, replyOf .mismatch (b1 0 ++ b4 (checkValue d.crc).toNat))
      else if d.stops + 1 ≠ d.blocks then (s.takingOn.closeFailed d 1, replyOf .mismatch (b1 1 ++ b1 d.stops))
      else okWith (s.takingOn.closeReady d) [] := by
  simp only [State.serve, State.serveDsnClose, State.takingOn_store, hd, hstate, ne_eq, not_true, if_false]
  rw [if_neg (Nat.not_lt.2 hwhole)]

theorem State.closeFailed_eq (s : State) (d : Design) (reason : Nat) : s.takingOn.closeFailed d reason =
    if d.armedPin then (s.closedAs d.number .failed .designFailed (b2 d.number ++ b1 reason)).designFailed
    else s.closedAs d.number .failed .designFailed (b2 d.number ++ b1 reason) := rfl

theorem State.closeReady_eq (s : State) (d : Design) : s.takingOn.closeReady d =
    if d.armedPin then (s.closedAs d.number .ready .designReady (b2 d.number)).storeReport
    else s.closedAs d.number .ready .designReady (b2 d.number) := rfl

/-- Settles O15. -/
theorem dsnCloseJudgesTheDesign : Obligations.DsnCloseJudgesTheDesign := by
  refine ⟨fun s design check hready => ?_, fun s design check d hready hd hstate hwhole hpin => ?armed⟩
  · intro answer
    have refused {p : List Byte} (hs : s.takingOn.serveDsnClose design check = (s.takingOn, p)) :
        answer = .next (s.replied 0x92 p) := exec_unchanged hready rfl rfl hs
    refine ⟨fun hnone => refused ?_, fun d hd => ?_⟩
    · simp only [State.serveDsnClose, State.takingOn_store, hnone]
      rfl
    obtain ⟨-, rfl⟩ := Store.find_some hd
    intro closed
    refine ⟨fun hstate => refused ?_, fun hstate hshort => refused ?_, fun hstate hwhole hpin => ?_⟩
    · simp only [State.serveDsnClose, State.takingOn_store, hd]
      exact if_pos hstate
    · simp only [State.serveDsnClose, State.takingOn_store, hd, hstate, ne_eq, not_true, if_false]
      exact if_pos hshort
    · have hserve := State.serveDsnClose_of_whole (check := check) hd hstate hwhole
      rw [State.closeFailed_eq, State.closeFailed_eq, State.closeReady_eq, hpin] at hserve
      have hquiet {outcome : DesignState} {e : Event} {detail : List Byte} : (closed outcome e detail).quiet = true :=
        (s.closedAs_quiet d.number outcome e detail).trans (State.quiet_of_ready hready)
      refine ⟨fun hcrc => ?_, fun hcrc hstops => ?_, fun hcrc hstops => ?_⟩
      · exact exec_answered hready rfl rfl (hserve.trans (if_pos hcrc)) hquiet
      · exact exec_answered hready rfl rfl (hserve.trans ((if_neg (not_not.2 hcrc)).trans (if_pos hstops))) hquiet
      · exact exec_answered hready rfl rfl (hserve.trans ((if_neg (not_not.2 hcrc)).trans (if_neg (not_not.2 hstops)))) hquiet
  case armed =>
    obtain ⟨-, rfl⟩ := Store.find_some hd
    intro answer crc closed
    have hserve := State.serveDsnClose_of_whole (check := check) hd hstate hwhole
    rw [State.closeFailed_eq, State.closeFailed_eq, State.closeReady_eq, if_pos hpin, if_pos hpin, if_pos hpin] at hserve
    have hquiet := State.quiet_of_ready hready
    refine ⟨fun why detail hwhy => ?failed, fun hcrc hstops => ?ready⟩
    case failed =>
      intro failed done
      have hfailed : s.takingOn.serve (.dsnClose d.number check) = (failed.designFailed, 12 :: why :: detail) := by
        obtain ⟨hcrc, rfl, rfl⟩ | ⟨hcrc, hstops, rfl, rfl⟩ := hwhy
        · exact hserve.trans (if_pos hcrc)
        · exact hserve.trans ((if_neg (not_not.2 hcrc)).trans (if_pos hstops))
      have hplayer : failed.player = s.player := by simp [failed, closed]
      have hheads : failed.heads = s.heads := by simp [failed, closed]
      have hgov : failed.gov = s.gov := by simp [failed, closed]
      have answered {u : State} (hu : failed.designFailed = u) (hq : u.quiet = true) : done u :=
        exec_answered hready rfl rfl (hu ▸ hfailed) hq
      have kept {u : State} (hu : failed.designFailed = u) (hnc : u.nc = failed.nc) (hshaft : u.shaft.state = failed.shaft.state)
          (he : u.player.errand = failed.player.errand) (hm : u.frame.move = failed.frame.move)
          (hsew : u.gov.move = failed.gov.move) : done u :=
        answered hu ((State.quiet_congr u failed hnc hshaft he (by rw [hm]) (by rw [hsew])).trans
          ((s.closedAs_quiet _ _ _ _).trans hquiet))
      refine ⟨fun h => ?_, fun h => ?_, fun h => ?_, fun h => ?_, fun c hc => ⟨fun hr hsew => ?_, fun hr hsew he hp => ?_⟩⟩
      · exact kept ((State.designFailed_of_running (by rw [hplayer]; exact h)).trans (by rw [hplayer])) rfl rfl
          (by rw [hplayer]) rfl rfl
      · refine kept ((State.designFailed_of_stopping (by rw [hplayer]; exact h)).trans ?_) rfl rfl (by rw [hplayer]) rfl rfl
        rw [hplayer, hheads]
      · exact kept ((State.designFailed_of_moving (by rw [hplayer]; exact h)).trans (by rw [hplayer])) rfl rfl
          (by rw [hplayer]) rfl rfl
      · have hentered := State.designFailed_of_rest (s := failed) (by rw [hplayer]; exact h)
        have hhalted := failed.enterHalted_player .design
        rw [hplayer] at hhalted
        refine ⟨_, answered hentered (State.quiet_of_no_kept (by rw [State.enterHalted_nc]; rfl) (by rw [hhalted]; rfl)), ?_⟩
        obtain ⟨more, hflags⟩ := failed.enterHalted_flags .design
        have hlatched : failed.ev.flags = s.ev.flags ||| Event.designFailed.bit := by
          simp only [failed, closed, State.latch_flags]
        rw [hhalted, hflags]
        refine ⟨rfl, rfl, rfl, rfl, rfl, by simp, by rw [State.enterHalted_gov_move]; rfl, fun hk => ?_, ?_, ?_⟩
        · exact State.enterHalted_kill_of_not failed .design rfl (by simpa [failed, closed] using hk)
        · exact BitVec.and_ne_zero_of_or (Event.bit_ne_zero _) ⟨s.ev.flags ||| more ||| Event.playerState.bit, by rw [hlatched]; ac_rfl⟩
        · exact BitVec.and_ne_zero_of_or (Event.bit_ne_zero _) ⟨_, rfl⟩
      · refine kept ((State.designFailed_of_halted (by rw [hplayer]; exact hc)).trans ?_) rfl rfl rfl rfl rfl
        rw [State.haltAgain, State.abandonSewing_of_none (by rw [hgov]; exact hsew)]
        exact if_neg (by simp [hplayer, hr])
      · have hagain := State.designFailed_of_halted (s := failed) (c := c) (by rw [hplayer]; exact hc)
        obtain ⟨hp', hshaft, -, hframe⟩ := failed.haltAgain_recovering (c := .design) (kept := c) (by rw [hplayer]; exact hr) nofun
        have hq : (failed.haltAgain c .design).quiet = true :=
          State.quiet_of_not_held (by rw [hshaft]; exact ShaftState.braked_ne_held _ _) (by rw [hp', hplayer]; exact he)
        refine ⟨_, answered hagain hq, ?_, by simp, by simp, ?_⟩
        · rw [hp', hplayer, ← hc]
        · have hpos : failed.shaft = s.shaft := by simp [failed, closed]
          rw [hshaft, hpos, hp]
          rfl
    case ready =>
      intro told
      have hready' : s.takingOn.serve (.dsnClose d.number check) =
          okWith (closed .ready .designReady (b2 d.number)).storeReport [] :=
        hserve.trans ((if_neg (not_not.2 hcrc)).trans (if_neg (not_not.2 hstops)))
      have hplayer : (closed .ready .designReady (b2 d.number)).player = s.player := by simp [closed]
      refine ⟨fun h => ?_, fun h harmed hall => ?_⟩
      · rw [State.storeReport_of_ne (by rw [hplayer]; exact h)] at hready'
        exact exec_answered hready rfl rfl hready' ((State.prefetch_quiet _).trans ((s.closedAs_quiet _ _ _ _).trans hquiet))
      · have hentry : (closed .ready .designReady (b2 d.number)).armedDesign = some { d with state := .ready } := by
          have hfound := s.store.find_modDesign d.number (fun e => { e with state := .ready }) fun _ he => he
          rw [hd] at hfound
          show ((closed .ready .designReady (b2 d.number)).player.armed).bind _ = _
          have hstore : (closed .ready .designReady (b2 d.number)).store =
              s.store.modDesign d.number fun e => { e with state := .ready } := by
            simp only [closed, State.latch_keeps]
            rfl
          rw [hplayer, harmed, hstore]
          exact hfound
        rw [State.storeReport_of_starved (by rw [hplayer]; exact h) hentry, if_pos (Or.inr hall)] at hready'
        refine (exec_settled hready rfl rfl hready').trans ?_
        have houts : told.outs = s.outs := by simp [told, closed]
        rw [← houts]
        rfl

end Sys2Proof.Machine
end

section
/-! PROOF. Resets and the held RESET line (O51, O52, O53). -/

namespace Sys2Proof.Machine

/-! ### The state after reset (O52) -/

/-- Settles O52. -/
theorem resetStateIsSound : Obligations.ResetStateIsSound := by
  refine ⟨Store.powerOn_sound (by decide), ?_, rfl, rfl, rfl, rfl, rfl⟩
  exact State.resetAll_inForm State.reset State.reset.straps .power

/-! ### While RESET is asserted (R182, R183) -/

theorem State.event_of_held {s : State} (h : s.resetHeld = true) (f : State → State) : s.event f = s := if_pos h

theorem updAt_eq_take_drop {α : Type} (f : α → α) {l : List α} {n : Nat} {a : α} (h : l[n]? = some a) :
    updAt n f l = l.take n ++ f a :: l.drop (n + 1) := by
  induction l generalizing n with
  | nil => cases h
  | cons b l ih =>
    cases n with
    | zero => cases h; rfl
    | succ n => exact congrArg (b :: ·) (ih h)

/-- The waiting commands and the straps, which the requests leave alone (R183). -/
def State.KeepsBase (s t : State) : Prop := t.pending = s.pending ∧ t.straps = s.straps

theorem State.keepsBase_of_base {s t u : State} (h : t.base = u.base) (hu : s.KeepsBase u) : s.KeepsBase t := by
  simp only [State.base, Prod.mk.injEq] at h
  exact ⟨h.1.trans hu.1, h.2.1.trans hu.2⟩

theorem State.keepsBase_serveStore {s t : State} (h : s.KeepsBase t) :
    (∀ (design declared blocks : Nat) (box : Box) (seqLen : Nat) (entries : List Byte),
      s.KeepsBase (t.serveDsnOpen design declared blocks box seqLen entries).1) ∧
    (∀ (design block count : Nat) (records : List RawRecord), s.KeepsBase (t.serveDsnBlock design block count records).1) ∧
    (∀ design check : Nat, s.KeepsBase (t.serveDsnClose design check).1) ∧
    (∀ design : Nat, s.KeepsBase (t.serveDsnDrop design).1) ∧
    ∀ (design first count : Nat) (entries : List Byte), s.KeepsBase (t.serveSeqEdit design first count entries).1 := by
  have hstore (f : Store → Store) : s.KeepsBase (t.modStore f) := h
  refine ⟨fun _ _ _ _ _ _ => ?_, fun _ _ _ _ => ?_, fun _ _ => ?_, fun _ => ?_, fun _ _ _ _ => ?_⟩
  · unfold State.serveDsnOpen
    simp only []
    (repeat' split) <;> exact h
  · unfold State.serveDsnBlock
    repeat' split
    case h_2.isFalse => exact State.keepsBase_of_base (State.blockStored_store_base t _ _) (hstore _)
    all_goals exact h
  · unfold State.serveDsnClose
    split
    · exact h
    split
    · exact h
    split
    · exact h
    split
    · exact State.keepsBase_of_base (t.closeFailed_base _ _) (hstore _)
    split
    · exact State.keepsBase_of_base (t.closeFailed_base _ _) (hstore _)
    · exact State.keepsBase_of_base (t.closeReady_base _) (hstore _)
  · unfold State.serveDsnDrop
    (repeat' split) <;> exact h
  · unfold State.serveSeqEdit
    (repeat' split) <;> exact h

theorem State.keepsBase_serve {s t : State} (h : s.KeepsBase t) (i : Instr) : s.KeepsBase (t.serve i).1 := by
  by_cases hc : changesStore i = true
  · obtain ⟨hopen, hblock, hclose, hdrop, hseq⟩ := State.keepsBase_serveStore h
    have hstore : s.KeepsBase (t.modStore Store.restart) := h
    cases i
    case restart => simpa only [State.serve, okWith] using State.keepsBase_of_base t.restartNow_base hstore
    case dsnOpen => simpa only [State.serve] using hopen ..
    case dsnBlock => simpa only [State.serve] using hblock ..
    case dsnClose => simpa only [State.serve] using hclose ..
    case dsnDrop => simpa only [State.serve] using hdrop _
    case seqEdit => simpa only [State.serve] using hseq ..
    all_goals cases hc
  · exact State.keepsBase_of_base (t.serve_base i (by simpa using hc)) h

theorem State.keepsBase_linkKept (s : State) : LinkKept s.KeepsBase where
  settle t h := State.keepsBase_of_base t.settle_base h
  serve _ i _ h := State.keepsBase_serve h i
  latch t e detail h := State.keepsBase_of_base (t.latch_base e detail) h
  link _ _ _ h := h
  choices _ _ h := h

/-- Settles O53. -/
theorem heldResetAndStrapsStand : Obligations.HeldResetAndStrapsStand := by
  refine ⟨fun c s h => ?held, fun c s t he => ?keeps⟩
  case held =>
    cases c
    case powerOnReset | resetAssert | resetRelease => trivial
    case inputLineChange line high =>
      intro hline i hi
      have hraw : s.rawLine line high = { s with
          ev := { s.ev with inputs := s.ev.inputs.take line ++ { i with raw := high } :: s.ev.inputs.drop (line + 1) } } := by
        rw [State.rawLine, if_neg (by omega), ← updAt_eq_take_drop (fun i : Input => { i with raw := high }) hi]
        rfl
      show Host.Outcome.next _ = _
      rw [hraw]
      exact congrArg _ (if_pos h)
    case axisDriveNotReady a | axisDriveReady a => cases a <;> exact congrArg _ (if_pos h)
    all_goals exact congrArg _ (if_pos h)
  case keeps =>
    have hkept : (∀ a b d, c ≠ .powerOnReset a b d) → c ≠ .resetAssert → c ≠ .resetRelease → s.KeepsBase t := by
      intro hpower hassert hrelease
      by_cases hlink : ofLink c = true
      · exact s.keepsBase_linkKept.exec hlink he ⟨rfl, rfl⟩
      · exact State.keepsBase_of_base (exec_base (by simpa using hlink) hpower hassert hrelease he) ⟨rfl, rfl⟩
    cases c
    case powerOnReset a b d =>
      cases he
      exact ⟨rfl, fun h => absurd rfl (h a b d)⟩
    case resetAssert | resetRelease =>
      cases he
      exact ⟨rfl, fun _ => rfl⟩
    all_goals
      obtain ⟨hpending, hstraps⟩ := hkept nofun nofun nofun
      exact ⟨hpending, fun _ => hstraps⟩

/-! ### The values of a reset (O51) -/

/-- R183: the head and needle counts from the four pins. -/
theorem Straps.sample_eq {headPins needlePins ratePins : Nat} (hneedles : needlePins < 16) (hrate : ratePins < 4) :
    Straps.sample headPins needlePins ratePins =
      { heads := if headPins = 0 ∨ 12 < headPins then 12 else headPins
        needles := if needlePins = 0 then 15 else needlePins
        baud := [460800, 921600, 1843200, 3000000].getD ratePins 0 } := by
  have hheads : headCountOf headPins = if headPins = 0 ∨ 12 < headPins then 12 else headPins := by
    unfold headCountOf
    split <;> split <;> omega
  have hneedle : needleCountOf needlePins = if needlePins = 0 then 15 else needlePins := by
    unfold needleCountOf
    split <;> split <;> omega
  have hbaud : baudOf ratePins = [460800, 921600, 1843200, 3000000].getD ratePins 0 := by
    interval_cases ratePins <;> rfl
  rw [Straps.sample, hheads, hneedle, hbaud]

/-- Settles O51. -/
theorem resetsGiveEveryBlockItsValues : Obligations.ResetsGiveEveryBlockItsValues := by
  intro s headPins needlePins ratePins _ hneedles hrate after
  refine ⟨?_, rfl, rfl⟩
  rw [← Straps.sample_eq hneedles hrate]
  rfl

end Sys2Proof.Machine
end

section
/-! PROOF. RESTART: what it leaves in every block and on the link (O54). -/

namespace Sys2Proof.Machine

/-! ### Latching while a request is being answered (R170, R176) -/

/-- The state with the parts that the latching of inputs changes. -/
def State.withNoticed (s : State) (inputs : List Input) (flags : BitVec 16) (table : List Head) (notices : List Notice) : State :=
  { s with
    ev := { s.ev with inputs := inputs, flags := flags }
    heads := { s.heads with table := table }
    link := { s.link with notices := notices } }

/-- While a request is being answered a latching may queue a notice, and changes nothing else of the link. -/
theorem State.latch_of_taking {s : State} (h : s.link.taking = true) (e : Event) (detail : List Byte) :
    ∃ notices, s.latch e detail = { s with
      ev := { s.ev with flags := s.ev.flags ||| e.bit }, link := { s.link with notices := notices } } := by
  rw [s.latch_eq]
  split
  · rw [Link.offer_of_busy _ (Or.inr h)]
    exact ⟨_, rfl⟩
  · exact ⟨s.link.notices, rfl⟩

/-! ### The latching of a level input, the player at rest (R163, R133) -/

/-- R133: the table with the bobbin-low flag of an input's head. -/
def bobbinTable (n : Nat) (table : List Head) : List Head :=
  if n < 12 then updAt n (fun h => { h with bobbinLow := true }) table else table

theorem bobbinTable_length (n : Nat) (table : List Head) : (bobbinTable n table).length = table.length := by
  unfold bobbinTable
  split
  · exact updAt_length _ _ _
  · rfl

theorem State.bobbinLatched_of_taking {s : State} (ht : s.link.taking = true) (hidle : s.player.state = .idle) {n : Nat}
    (hn : n < 12) : ∃ flags notices,
      s.bobbinLatched (n + 1) = s.withNoticed s.ev.inputs flags (bobbinTable n s.heads.table) notices := by
  unfold State.bobbinLatched bobbinTable
  rw [if_pos hn]
  cases hd : s.heads.head (n + 1) with
  | none =>
    have hnone : s.heads.table[n]? = none := by simpa [Heads.head] using hd
    have hsame : updAt n (fun h : Head => { h with bobbinLow := true }) s.heads.table = s.heads.table := by
      refine List.ext_getElem? fun k => ?_
      rw [updAt_getElem?]
      split
      · rename_i hk
        rw [hk, hnone]
        rfl
      · rfl
    rw [hsame]
    exact ⟨s.ev.flags, s.link.notices, rfl⟩
  | some d =>
    obtain ⟨notices, hlatch⟩ := State.latch_of_taking
      (s := s.modHeads fun hs => hs.modHead (n + 1) fun e => { e with bobbinLow := true }) ht .bobbinLow (b1 (n + 1))
    refine ⟨s.ev.flags ||| Event.bobbinLow.bit, notices, ?_⟩
    simp only [hlatch]
    split
    · simp only [State.plannedStop, State.modHeads_player, hidle]
      rfl
    · rfl

theorem State.latchInput_of_taking {s : State} (ht : s.link.taking = true) (hidle : s.player.state = .idle) (n : Nat) (i : Input) :
    ∃ flags notices, s.latchInput n i =
      s.withNoticed (updAt n (fun j => { j with latch := true, armed := false }) s.ev.inputs) flags
        (bobbinTable n s.heads.table) notices := by
  have hreport : ∃ flags notices, (if i.report then
      (s.modInput n fun j => { j with latch := true, armed := false }).latch .input (b1 n ++ bFlag i.levelNow)
      else s.modInput n fun j => { j with latch := true, armed := false }) =
      s.withNoticed (updAt n (fun j => { j with latch := true, armed := false }) s.ev.inputs) flags s.heads.table notices := by
    split
    · obtain ⟨notices, hlatch⟩ := State.latch_of_taking
        (s := s.modInput n fun j => { j with latch := true, armed := false }) ht .input (b1 n ++ bFlag i.levelNow)
      exact ⟨_, notices, hlatch⟩
    · exact ⟨s.ev.flags, s.link.notices, rfl⟩
  obtain ⟨flags, notices, hreported⟩ := hreport
  unfold State.latchInput
  simp only [hreported]
  split
  · rename_i hn
    exact State.bobbinLatched_of_taking (s := s.withNoticed _ flags s.heads.table notices) ht hidle hn
  · rename_i hn
    refine ⟨flags, notices, ?_⟩
    rw [bobbinTable, if_neg hn]

/-! ### The inputs that latch again (R163, R171) -/

/-- R163: the input stands active in a level mode. -/
def Input.standing (i : Input) : Bool := i.mode.isLevel && i.isActive

theorem Input.standing_iff (i : Input) : i.standing = true ↔
    (i.mode = .levelHigh ∧ i.level = some true) ∨ (i.mode = .levelLow ∧ i.level = some false) := by
  unfold Input.standing Input.isActive
  cases hm : i.mode <;> simp [InputMode.isLevel, InputMode.activeHigh]

theorem Input.standing_restart (i : Input) : i.restart.standing = i.standing := rfl

/-- R163: an input after its turn. -/
def Input.relatch (i : Input) : Input := if i.standing then { i with latch := true, armed := false } else i

/-- R163, R171: the state once the first `k` inputs have had their turn. -/
structure State.Relatched (s t : State) (k : Nat) : Prop where
  rest : ∃ inputs flags table notices, t = s.withNoticed inputs flags table notices
  inputs : ∀ n : Nat, t.ev.inputs[n]? = if n < k then s.ev.inputs[n]?.map Input.relatch else s.ev.inputs[n]?
  heads : ∀ n : Nat, t.heads.table[n]? = s.heads.table[n]? ∨
    (t.heads.table[n]? = s.heads.table[n]?.map (fun d => { d with bobbinLow := true }) ∧
      n < 12 ∧ ∃ i : Input, s.ev.inputs[n]? = some i ∧ i.standing = true)
  length : t.heads.table.length = s.heads.table.length
  silent : (∀ i ∈ s.ev.inputs, i.standing = false) → t = s

theorem State.Relatched.refl (s : State) : s.Relatched s 0 :=
  ⟨⟨s.ev.inputs, s.ev.flags, s.heads.table, s.link.notices, rfl⟩, fun _ => by simp, fun _ => Or.inl rfl, rfl, fun _ => rfl⟩

theorem State.Relatched.step {s t : State} {k : Nat} (h : s.Relatched t k) (ht : s.link.taking = true)
    (hidle : s.player.state = .idle) (hclear : ∀ i ∈ s.ev.inputs, i.latch = false) : s.Relatched (t.latchLevel k) (k + 1) := by
  obtain ⟨inputs, flags, table, notices, hrest⟩ := h.rest
  have hk : t.ev.inputs[k]? = s.ev.inputs[k]? := by rw [h.inputs, if_neg (Nat.lt_irrefl k)]
  have stays (hsame : s.ev.inputs[k]?.map Input.relatch = s.ev.inputs[k]?) : s.Relatched t (k + 1) := by
    refine ⟨h.rest, fun n => ?_, h.heads, h.length, h.silent⟩
    rw [h.inputs]
    rcases Nat.lt_trichotomy n k with hn | rfl | hn
    · rw [if_pos hn, if_pos (by omega)]
    · rw [if_neg (Nat.lt_irrefl _), if_pos (Nat.lt_succ_self _), hsame]
    · rw [if_neg (by omega), if_neg (by omega)]
  unfold State.latchLevel
  rw [hk]
  cases hi : s.ev.inputs[k]? with
  | none => exact stays (by rw [hi]; rfl)
  | some i =>
    have hlatch : i.latch = false := hclear i (List.mem_of_getElem? hi)
    simp only []
    by_cases hstanding : i.standing = true
    · rw [if_pos (by simpa [hlatch, Input.standing] using hstanding)]
      obtain ⟨flags', notices', hlatched⟩ := State.latchInput_of_taking (s := t) (by rw [hrest]; exact ht)
        (by rw [hrest]; exact hidle) k i
      rw [hlatched]
      refine ⟨⟨_, _, _, _, by rw [hrest]; rfl⟩, fun n => ?_, fun n => ?_, ?_, fun hno => ?_⟩
      · show (updAt k _ t.ev.inputs)[n]? = _
        rw [updAt_getElem?, h.inputs]
        rcases Nat.lt_trichotomy n k with hn | rfl | hn
        · rw [if_neg (by omega), if_pos hn, if_pos (by omega)]
        · rw [if_pos rfl, if_neg (Nat.lt_irrefl _), if_pos (Nat.lt_succ_self _), hi]
          simp [Input.relatch, hstanding]
        · rw [if_neg (by omega), if_neg (by omega), if_neg (by omega)]
      · show (bobbinTable k t.heads.table)[n]? = _ ∨ (bobbinTable k t.heads.table)[n]? = _ ∧ _
        unfold bobbinTable
        by_cases hkn : k < 12 ∧ n = k
        · obtain ⟨hk12, rfl⟩ := hkn
          refine Or.inr ⟨?_, hk12, i, hi, hstanding⟩
          rw [if_pos hk12, updAt_getElem?, if_pos rfl]
          obtain hsame | ⟨hset, -, -⟩ := h.heads n
          · rw [hsame]
          · rw [hset, Option.map_map]
            rfl
        · have hsame : (if k < 12 then updAt k (fun h : Head => { h with bobbinLow := true }) t.heads.table
              else t.heads.table)[n]? = t.heads.table[n]? := by
            split
            · rw [updAt_getElem?, if_neg (fun hn => hkn ⟨‹_›, hn⟩)]
            · rfl
          rw [hsame]
          exact h.heads n
      · exact (bobbinTable_length k _).trans h.length
      · rw [hno i (List.mem_of_getElem? hi)] at hstanding
        cases hstanding
    · rw [if_neg (by simpa [hlatch, Input.standing] using hstanding)]
      exact stays (by rw [hi]; simp [Input.relatch, hstanding])

/-- R163, R171: every input has had its turn. -/
theorem State.relatched_foldl {s : State} (ht : s.link.taking = true) (hidle : s.player.state = .idle)
    (hclear : ∀ i ∈ s.ev.inputs, i.latch = false) (k : Nat) : s.Relatched ((List.range k).foldl State.latchLevel s) k := by
  induction k with
  | zero => exact .refl s
  | succ k ih =>
    rw [List.range_succ, List.foldl_append]
    exact ih.step ht hidle hclear

/-! ### The blocks before the inputs latch again (R181) -/

/-- R94: whatever the owner becomes, it is replaced. -/
theorem Frame.settleOwner_replaced (f : Frame) (owner : Owner) (lent : Bool) (after : AfterStop) :
    { f.settleOwner with owner := owner, lent := lent, after := after } = { f with owner := owner, lent := lent, after := after } := by
  unfold Frame.settleOwner
  (repeat' split) <;> rfl

/-- R93, R104: every move is stopped and nobody owns the frame. -/
def Frame.restarted (f : Frame) (sewing : Bool) : Frame :=
  { f with
    known := f.known && !sewing && !(f.move.map FrameMove.losesSteps).getD false
    owner := .none, lent := false, move := none, after := .keep }

theorem Frame.unsewn_replaced (f : Frame) (sewing : Bool) (owner : Owner) (lent : Bool) (after : AfterStop) :
    { f.unsewn sewing with owner := owner, lent := lent, after := after } = { f with owner := owner, lent := lent, after := after } := by
  unfold Frame.unsewn
  split
  · exact Frame.settleOwner_replaced f owner lent after
  · rfl

theorem State.abandonSewing_eq (s : State) : s.abandonSewing = { s with
    gov := { s.gov with move := none }, frame := s.frame.unsewn s.gov.move.isSome } := by
  unfold State.abandonSewing Frame.unsewn
  cases h : s.gov.move with
  | some v => rfl
  | none =>
    show s = { s with gov := { s.gov with move := none } }
    rw [← h]

/-- R93, R97: the end of a move while a request is being answered. -/
theorem State.finishMove_of_taking {s : State} (ht : s.link.taking = true) (abort : Option AbortCause) : ∃ flags notices,
    s.finishMove abort = { s with
      frame := if s.frame.move.isSome then { s.frame with move := none }.settleOwner else s.frame
      ev := { s.ev with flags := flags }
      link := { s.link with notices := notices } } := by
  cases hm : s.frame.move with
  | none =>
    refine ⟨s.ev.flags, s.link.notices, ?_⟩
    rw [State.finishMove_of_none hm]
    rfl
  | some m =>
    rw [State.finishMove_eq hm]
    obtain ⟨notices, hlatch⟩ := State.latch_of_taking
      (s := { s with frame := { s.frame with move := none }.settleOwner }) ht .frameDone
      (b1 m.op.code ++ bFlag abort.isSome ++ o1 (abort.map AbortCause.code) ++ sBytes4 s.frame.x ++ sBytes4 s.frame.y)
    exact ⟨_, notices, hlatch⟩

theorem State.restartFrame_eq {s : State} (ht : s.link.taking = true) : ∃ flags notices, s.restartFrame = { s with
    gov := { s.gov with move := none }
    frame := s.frame.restarted s.gov.move.isSome
    ev := { s.ev with flags := flags }
    link := { s.link with notices := notices } } := by
  let stopped : Frame := { s.frame with
    known := s.frame.known && !(s.gov.move.isSome || (s.frame.move.map FrameMove.losesSteps).getD false) }
  obtain ⟨flags, notices, hend⟩ := State.finishMove_of_taking (s := { s with frame := stopped }) ht (some .restart)
  refine ⟨flags, notices, ?_⟩
  have hstop : s.stopFrame .restart = State.abandonSewing { s with
      frame := if s.frame.move.isSome then { stopped with move := none }.settleOwner else stopped
      ev := { s.ev with flags := flags }
      link := { s.link with notices := notices } } := congrArg State.abandonSewing hend
  rw [State.restartFrame, hstop, State.abandonSewing_eq]
  simp only [State.modFrame, Frame.unsewn_replaced]
  have hknown : stopped.known =
      (s.frame.known && !s.gov.move.isSome && !(s.frame.move.map FrameMove.losesSteps).getD false) := by
    simp only [stopped, Bool.not_or, Bool.and_assoc]
  have hframe : ({ (if s.frame.move.isSome then { stopped with move := none }.settleOwner else stopped) with
      owner := .none, lent := false, after := .keep } : Frame) = s.frame.restarted s.gov.move.isSome := by
    rw [Frame.restarted, ← hknown]
    cases hm : s.frame.move with
    | some m => exact Frame.settleOwner_replaced { stopped with move := none } .none false .keep
    | none =>
      show ({ stopped with owner := .none, lent := false, after := .keep } : Frame) = _
      simp only [stopped, hm]
  rw [hframe]

/-- R69, R111: what a brake request leaves of the case unit and of the governor. -/
theorem State.brakeRequest_nc_eq (s : State) : s.brakeRequest.nc = if s.shaft.state = .held then s.nc.abandon else s.nc := by
  unfold State.brakeRequest
  cases h : s.shaft.state <;> simp

theorem State.brakeRequest_gov (s : State) : s.brakeRequest.gov = { s.gov with cPrev := s.brakeRequest.gov.cPrev } := by
  unfold State.brakeRequest State.enterBraking
  simp only []
  (repeat' split) <;> rfl

/-- What a brake request and an OFF report leave of the outputs: all but the kill latch. -/
theorem State.enterOff_outs (s : State) : s.enterOff.outs.hold = s.outs.hold ∧ s.enterOff.outs.trim = s.outs.trim ∧
    s.enterOff.outs.holder = s.outs.holder := by
  show (if s.outs.killUntilOff then s.outs.clearKill else s.outs).hold = _ ∧
    (if s.outs.killUntilOff then s.outs.clearKill else s.outs).trim = _ ∧
    (if s.outs.killUntilOff then s.outs.clearKill else s.outs).holder = _
  split <;> exact ⟨rfl, rfl, rfl⟩

theorem State.brakeRequest_outs (s : State) : s.brakeRequest.outs.hold = s.outs.hold ∧
    s.brakeRequest.outs.trim = s.outs.trim ∧ s.brakeRequest.outs.holder = s.outs.holder := by
  unfold State.brakeRequest State.enterBraking
  simp only []
  (repeat' split) <;> first | exact ⟨rfl, rfl, rfl⟩ | exact State.enterOff_outs _

@[simp] theorem State.restartShaft_keeps (s : State) :
    s.restartShaft.pending = s.pending ∧ s.restartShaft.straps = s.straps ∧ s.restartShaft.store = s.store ∧
      s.restartShaft.player = s.player ∧ s.restartShaft.frame = s.frame ∧ s.restartShaft.thread = s.thread ∧
      s.restartShaft.heads = s.heads ∧ s.restartShaft.ev = s.ev ∧ s.restartShaft.link = s.link := by
  unfold State.restartShaft
  simp only []
  (repeat' split) <;> simp

theorem State.restartShaft_nc (s : State) : s.restartShaft.nc = if s.shaft.state = .held then s.nc.abandon else s.nc := by
  rw [← State.brakeRequest_nc_eq]
  unfold State.restartShaft
  simp only []
  (repeat' split) <;> simp

theorem State.restartShaft_gov (s : State) : s.restartShaft.gov = { s.gov with cPrev := s.restartShaft.gov.cPrev } := by
  unfold State.restartShaft
  simp only []
  split
  · split
    · show ({ s.brakeRequest.gov with cPrev := 0 } : Governor) = { s.gov with cPrev := 0 }
      rw [State.brakeRequest_gov]
    · exact s.brakeRequest_gov
  · exact s.brakeRequest_gov

theorem State.restartShaft_outs (s : State) : s.restartShaft.outs.hold = s.outs.hold ∧
    s.restartShaft.outs.trim = s.outs.trim ∧ s.restartShaft.outs.holder = s.outs.holder := by
  obtain ⟨hhold, htrim, hholder⟩ := s.brakeRequest_outs
  obtain ⟨hhold', htrim', hholder'⟩ := s.brakeRequest.enterOff_outs
  unfold State.restartShaft
  simp only []
  split
  · split
    · exact ⟨hhold'.trans hhold, htrim'.trans htrim, hholder'.trans hholder⟩
    · exact ⟨hhold, htrim, hholder⟩
  · exact ⟨hhold, htrim, hholder⟩

/-- R69: the state of the shaft after a RESTART's brake request. -/
def ShaftState.restarted (h : ShaftState) (still : Bool) : ShaftState :=
  match h with
  | .turning => if still then .off else .braking
  | .positioning => if still then .off else .braking
  | .held => .off
  | .offPosition => .off
  | .off => .off
  | .braking => .braking
  | .fault => if still then .off else .fault

/-- R69, R78: what a RESTART leaves of the shaft unit. -/
theorem State.restartShaft_shaft (s : State) :
    s.restartShaft.shaft.state = s.shaft.state.restarted s.shaft.still ∧
      s.restartShaft.shaft.angle = s.shaft.angle ∧ s.restartShaft.shaft.refValid = s.shaft.refValid ∧
      s.restartShaft.shaft.sMeas = s.shaft.sMeas ∧ s.restartShaft.shaft.still = s.shaft.still ∧
      s.restartShaft.shaft.driveReady = s.shaft.driveReady ∧ s.restartShaft.shaft.keptHold = false ∧
      s.restartShaft.shaft.keptTurn = false ∧
      (s.shaft.state ≠ .off → s.shaft.state ≠ .braking → s.shaft.state ≠ .fault →
        s.restartShaft.shaft.demand = 0 ∧ s.restartShaft.shaft.stall = none) ∧
      (s.shaft.state = .fault → s.shaft.still = false →
        s.restartShaft.shaft.toOff = true ∧ s.restartShaft.shaft.cause = s.shaft.cause) := by
  unfold State.restartShaft State.brakeRequest State.enterBraking
  cases h : s.shaft.state <;> cases hs : s.shaft.still <;>
    simp [State.enterOff, Shaft.dropKept, Shaft.noDemand, ShaftState.restarted, h, hs]

/-- R121, R112: the case unit after a RESTART. -/
def NeedleCase.restarted (c : NeedleCase) (needles : Nat) : NeedleCase := c.abandon.clearFault needles

theorem NeedleCase.restarted_abandon (c : NeedleCase) (needles : Nat) : (c.restarted needles).abandon = c.restarted needles := by
  unfold NeedleCase.restarted
  cases h : c.state <;> simp [NeedleCase.abandon, NeedleCase.endMove, NeedleCase.complete, NeedleCase.clearFault, h]

theorem NeedleCase.restarted_eq (c : NeedleCase) (needles : Nat) : c.restarted needles = (match c.state with
    | .idle => { c with kept := none }
    | .moving => { c with state := .idle, job := none, overshoot := 0, timer := 0, settle := 0, kept := none }
    | .settling => { c with state := .idle, job := none, overshoot := 0, timer := 0, settle := 0, kept := none }
    | .fault => { c with state := .idle, kept := none, cause := none, pos := casePosition needles c.code }) := by
  unfold NeedleCase.restarted
  cases h : c.state <;> simp [NeedleCase.abandon, NeedleCase.endMove, NeedleCase.complete, NeedleCase.clearFault, h]

theorem Governor.force_eq (g : Governor) :
    g.force = { g with active := if g.pendingFlag then g.pending else g.active, pendingFlag := false } := by
  unfold Governor.force
  cases h : g.pendingFlag with
  | true => rfl
  | false =>
    show g = { g with pendingFlag := false }
    rw [← h]

/-- R181: the blocks of a RESTART before its inputs latch again. -/
def State.restartedBlocks (s : State) : State :=
  let s1 := s.restartFrame.restartBlocks.restartShaft
  ((s1.modOuts fun o => o.restart (s1.shaft.state == .off)).modEv Events.restart).modLink fun l => { l with notices := [] }

section
variable {s : State} (ht : s.link.taking = true)
include ht

theorem State.restartedBlocks_keeps :
    s.restartedBlocks.pending = s.pending ∧ s.restartedBlocks.straps = s.straps ∧
      s.restartedBlocks.store = s.store.restart ∧ s.restartedBlocks.player = .powerOn s.player.keepFrame ∧
      s.restartedBlocks.frame = s.frame.restarted s.gov.move.isSome ∧ s.restartedBlocks.thread = s.thread.restart ∧
      s.restartedBlocks.heads = s.heads.restart ∧ s.restartedBlocks.ev = s.ev.restart ∧
      s.restartedBlocks.link = { s.link with notices := [] } := by
  obtain ⟨flags, notices, hframe⟩ := State.restartFrame_eq ht
  simp [State.restartedBlocks, State.restartBlocks, hframe, Events.restart]

theorem State.restartedBlocks_nc : s.restartedBlocks.nc = s.nc.restarted s.straps.needles := by
  obtain ⟨flags, notices, hframe⟩ := State.restartFrame_eq ht
  simp only [State.restartedBlocks, State.modLink_nc, State.modEv_nc, State.modOuts_nc]
  rw [State.restartShaft_nc, hframe]
  show (if _ then NeedleCase.abandon (s.nc.restarted _) else s.nc.restarted _) = _
  rw [NeedleCase.restarted_abandon, ite_self]

theorem State.restartedBlocks_gov : s.restartedBlocks.gov = { s.gov with
    active := if s.gov.pendingFlag then s.gov.pending else s.gov.active
    pendingFlag := false
    cPrev := s.restartedBlocks.gov.cPrev
    move := none } := by
  obtain ⟨flags, notices, hframe⟩ := State.restartFrame_eq ht
  have hgov : s.restartFrame.restartBlocks.gov = { s.gov with
      active := if s.gov.pendingFlag then s.gov.pending else s.gov.active, pendingFlag := false, move := none } := by
    rw [hframe]
    show ({ ({ s.gov with move := none } : Governor).force with move := none } : Governor) = _
    rw [Governor.force_eq]
  simp only [State.restartedBlocks, State.modLink_gov, State.modEv_gov, State.modOuts_gov]
  rw [State.restartShaft_gov, hgov]

theorem State.restartedBlocks_outs : s.restartedBlocks.outs =
    { hold := s.outs.hold.map fun o => { o with mode := .auto }
      trim := s.outs.trim.map fun o => { o with mode := .auto }
      holder := { s.outs.holder with mode := .auto }
      kill := decide (s.restartedBlocks.shaft.state ≠ .off)
      killUntilOff := decide (s.restartedBlocks.shaft.state ≠ .off)
      holderCount := 0
      holderArmed := false } := by
  obtain ⟨flags, notices, hframe⟩ := State.restartFrame_eq ht
  obtain ⟨hhold, htrim, hholder⟩ := s.restartFrame.restartBlocks.restartShaft_outs
  have houts : s.restartFrame.restartBlocks.outs = s.outs := by rw [hframe]; rfl
  rw [houts] at hhold htrim hholder
  have hoff : (!(s.restartedBlocks.shaft.state == .off)) = decide (s.restartedBlocks.shaft.state ≠ .off) := by
    rw [Bool.eq_iff_iff]
    simp
  rw [← hhold, ← htrim, ← hholder, ← hoff]
  rfl

theorem State.restartedBlocks_shaft :
    s.restartedBlocks.shaft.state = s.shaft.state.restarted s.shaft.still ∧
      s.restartedBlocks.shaft.angle = s.shaft.angle ∧ s.restartedBlocks.shaft.refValid = s.shaft.refValid ∧
      s.restartedBlocks.shaft.sMeas = s.shaft.sMeas ∧ s.restartedBlocks.shaft.still = s.shaft.still ∧
      s.restartedBlocks.shaft.driveReady = s.shaft.driveReady ∧ s.restartedBlocks.shaft.keptHold = false ∧
      s.restartedBlocks.shaft.keptTurn = false ∧
      (s.shaft.state ≠ .off → s.shaft.state ≠ .braking → s.shaft.state ≠ .fault →
        s.restartedBlocks.shaft.demand = 0 ∧ s.restartedBlocks.shaft.stall = none) ∧
      (s.shaft.state = .fault → s.shaft.still = false →
        s.restartedBlocks.shaft.toOff = true ∧ s.restartedBlocks.shaft.cause = s.shaft.cause) := by
  obtain ⟨flags, notices, hframe⟩ := State.restartFrame_eq ht
  have hshaft : s.restartFrame.restartBlocks.shaft = s.shaft := by rw [hframe]; rfl
  have hleft := s.restartFrame.restartBlocks.restartShaft_shaft
  rw [hshaft] at hleft
  simpa only [State.restartedBlocks, State.modLink_shaft, State.modEv_shaft, State.modOuts_shaft] using hleft

theorem State.restartNow_relatched : s.restartedBlocks.Relatched s.restartNow 32 := by
  obtain ⟨-, -, -, hplayer, -, -, -, hev, hlink⟩ := State.restartedBlocks_keeps ht
  refine State.relatched_foldl (by rw [hlink]; exact ht) (by rw [hplayer]; rfl) (fun i hi => ?_) 32
  rw [hev] at hi
  obtain ⟨j, -, rfl⟩ := List.mem_map.1 hi
  rfl

end

/-- R177, R181: a RESTART that is taken from the queue. -/
theorem State.takeFrame_restart (s : State) :
    s.takeFrame ⟨0x02, []⟩ = s.takingOn.restartNow.placeReply ⟨0x82, [0]⟩ := by
  have hdecode : decodeRequest 0x02 [] = .request .restart := rfl
  simp only [State.takeFrame, hdecode, State.answer, State.serve, okWith]
  rfl

/-- Settles O54. -/
theorem restartKeepsSettingsAndClearsTheRest : Obligations.RestartKeepsSettingsAndClearsTheRest := by
  refine ⟨fun s f later hheld hquiet hsent hqueue hnotices => ?taken, fun s hready hlength => ?blocks⟩
  case taken =>
    have hsettled := (frameSentChoosesTheNext s hheld hquiet).2.2.2.1 f ⟨0x02, []⟩ later hsent hqueue hnotices
    generalize hcleared : ({ s with link := { s.link with reply := none, transmitter := .idle, requests := later } } : State) = u
      at hsettled
    have hlinku : u.link = { s.link with reply := none, transmitter := .idle, requests := later } := by rw [← hcleared]
    have ht : u.takingOn.link.taking = true := rfl
    obtain ⟨-, -, -, hplayer, -, -, -, hev, hlink⟩ := State.restartedBlocks_keeps ht
    have hnc := State.restartedBlocks_nc ht
    obtain ⟨inputs, flags, table, notices, hnow⟩ := (State.restartNow_relatched ht).rest
    rw [State.takeFrame_restart] at hsettled
    generalize u.takingOn.restartNow = t at *
    generalize u.takingOn.restartedBlocks = r at *
    subst hnow
    have hquiet' : ((r.withNoticed inputs flags table notices).placeReply ⟨0x82, [0]⟩).quiet = true := by
      refine State.quiet_of_no_kept ?_ ?_
      · show r.nc.kept = none
        rw [hnc, NeedleCase.restarted_eq]
        split <;> rfl
      · show r.player.errand = .none
        rw [hplayer]
        rfl
    rw [State.settle_of_quiet _ hquiet'] at hsettled
    refine ⟨_, hsettled, ?_⟩
    have htaking : u.takingOn.link = { u.link with taking := true } := rfl
    rw [htaking, hlinku] at hlink
    simp only [State.placeReply, State.modLink, State.withNoticed, hlink, Link.choose, hplayer, hev]
    exact ⟨trivial, trivial, trivial, trivial, rfl, rfl⟩
  case blocks =>
    intro still
    have hstill (i : Input) : i.standing = true ↔ still i := i.standing_iff
    have ht : s.takingOn.link.taking = true := rfl
    obtain ⟨hpending, hstraps, hstore, hplayer, hframe, hthread, hheads, hev, hlink⟩ := State.restartedBlocks_keeps ht
    obtain ⟨hstate, hangle, href, hspeed, hstands, hdrive, hhold, hturn, hdemand, hfault⟩ := State.restartedBlocks_shaft ht
    have hlatched := State.restartNow_relatched ht
    have hnc := State.restartedBlocks_nc ht
    have hgov := State.restartedBlocks_gov ht
    have houts := State.restartedBlocks_outs ht
    have hserve : s.takingOn.serve .restart = okWith s.takingOn.restartNow [] := rfl
    generalize s.takingOn.restartedBlocks = r at *
    generalize s.takingOn.restartNow = t at *
    obtain ⟨⟨inputs, flags, table, notices, rfl⟩, hinputs, hbobbins, hlen, hsilent⟩ := hlatched
    have hkept : r.nc.kept = none := by
      rw [hnc, NeedleCase.restarted_eq]
      split <;> rfl
    have herrand : r.player.errand = .none := by rw [hplayer]; rfl
    have hrinputs : r.ev.inputs = s.ev.inputs.map Input.restart := by rw [hev]; rfl
    have hstanding (n : Nat) (i : Input) (hi : r.ev.inputs[n]? = some i) :
        ∃ j : Input, s.ev.inputs[n]? = some j ∧ i = j.restart := by
      rw [hrinputs, List.getElem?_map, Option.map_eq_some_iff] at hi
      obtain ⟨j, hj, rfl⟩ := hi
      exact ⟨j, hj, rfl⟩
    refine ⟨_, exec_answered hready rfl rfl hserve (State.quiet_of_no_kept hkept herrand), rfl, ?_⟩
    simp only [State.replied, State.withNoticed, hlink, hev, hstore, hplayer, hnc, hframe, hthread, houts]
    refine ⟨rfl, rfl, trivial, rfl, rfl, rfl, hgov, ?_, hangle, href, hspeed, hstands, hdrive, hhold, hturn, hdemand, hfault,
      rfl, ?_, s.nc.restarted_eq _, rfl, ?_, ?_, ?_, ?_, rfl, rfl, rfl, rfl, ?_, hstraps, hpending⟩
    · rw [hstate]
      show s.shaft.state.restarted s.shaft.still = _
      cases s.shaft.state <;> rfl
    · simp [Frame.restarted]
    · rw [hheads]
      rfl
    · exact hlen.trans (by rw [hheads]; simp [Heads.restart])
    · intro h d hd
      have hrestart : r.heads.table[h]? = some d.restart := by
        rw [hheads]
        show (s.heads.table.map Head.restart)[h]? = _
        rw [List.getElem?_map, hd]
        rfl
      obtain hsame | ⟨hset, h12, i, hi, hon⟩ := hbobbins h
      · exact ⟨d.restart, hsame.trans hrestart, rfl, nofun⟩
      · obtain ⟨j, hj, rfl⟩ := hstanding h i hi
        rw [hrestart] at hset
        exact ⟨{ d.restart with bobbinLow := true }, hset, rfl, fun _ => ⟨j, h12, hj, (hstill j).1 hon⟩⟩
    · intro n i hi
      have hn : n < 32 := by
        rw [← hlength]
        exact (List.getElem?_eq_some_iff.1 hi).1
      have hturned := hinputs n
      rw [if_pos hn, hrinputs, List.getElem?_map, hi] at hturned
      refine hturned.trans (congrArg some ?_)
      rw [Input.relatch, Input.standing_restart]
      by_cases hon : still i
      · rw [if_pos ((hstill i).2 hon), decide_eq_true hon, decide_eq_false (not_not.2 hon)]
        rfl
      · rw [if_neg (fun h => hon ((hstill i).1 h)), decide_eq_false hon, decide_eq_true hon]
        rfl
    · intro hno
      have hsame := hsilent fun i hi => by
        rw [hrinputs] at hi
        obtain ⟨j, hj, rfl⟩ := List.mem_map.1 hi
        rw [Input.standing_restart, ← Bool.not_eq_true]
        exact fun hon => hno j hj ((hstill j).1 hon)
      exact ⟨(congrArg (fun u : State => u.ev.flags) hsame).trans (by rw [hev]; rfl),
        (congrArg (fun u : State => u.link.notices) hsame).trans (by rw [hlink])⟩

end Sys2Proof.Machine
end

section
/-! PROOF. The repair records, a pass that is left, and REPAIR_END (O47). -/

namespace Sys2Proof.Machine

/-! ### The list of repair records (R143) -/

/-- R143: the records that a head holds. -/
def recordsOfHead (h : Nat) (l : List RepairRecord) : List RepairRecord := l.filter fun r => r.head == h

theorem insertRepair_filter (p : RepairRecord → Bool) (r : RepairRecord) (l : List RepairRecord) (h : p r = false) :
    (insertRepair r l).filter p = l.filter p := by
  induction l with
  | nil => simp [insertRepair, h]
  | cons q l ih =>
    unfold insertRepair
    split
    · rw [List.filter_cons_of_neg (by simp [h])]
    · simp [List.filter_cons, ih]

theorem insertRepair_length (r : RepairRecord) (l : List RepairRecord) : (insertRepair r l).length = l.length + 1 := by
  induction l with
  | nil => rfl
  | cons q l ih =>
    unfold insertRepair
    split
    · rfl
    · simp [ih]

theorem mem_insertRepair (x r : RepairRecord) (l : List RepairRecord) : x ∈ insertRepair r l ↔ x = r ∨ x ∈ l := by
  induction l with
  | nil => simp [insertRepair]
  | cons q l ih =>
    unfold insertRepair
    split
    · simp
    · simp only [List.mem_cons, ih]
      tauto

theorem mem_recordsOfHead {x : RepairRecord} {h : Nat} {l : List RepairRecord} : x ∈ recordsOfHead h l ↔ x ∈ l ∧ x.head = h := by
  simp [recordsOfHead]

theorem Heads.repairOf_eq (hs : Heads) (h : Nat) : hs.repairOf h = (recordsOfHead h hs.repairs).head? :=
  List.head?_filter.symm

theorem Heads.repairOf_head {hs : Heads} {h : Nat} {r : RepairRecord} (hr : hs.repairOf h = some r) : r.head = h := by
  simpa using List.find?_some hr

/-- R143: a head's new record stands alone, and the other heads keep theirs. -/
theorem Heads.recordsOfHead_replaceRepair (hs : Heads) (r : RepairRecord) (h : Nat) :
    recordsOfHead h (hs.replaceRepair r).repairs = if h = r.head then [r] else recordsOfHead h hs.repairs := by
  have hremoved : recordsOfHead h (removeRepairs (· == r.head) hs.repairs) =
      if h = r.head then [] else recordsOfHead h hs.repairs := by
    unfold recordsOfHead removeRepairs
    rw [List.filter_filter]
    split
    · rename_i hh
      simp [hh]
    · rename_i hh
      refine List.filter_congr fun x _ => ?_
      by_cases hx : x.head = h <;> simp [hx, hh]
  show recordsOfHead h (insertRepair r _) = _
  split
  · rename_i hh
    rw [if_pos hh] at hremoved
    have hnone : ∀ l : List RepairRecord, recordsOfHead h l = [] → recordsOfHead h (insertRepair r l) = [r] := by
      intro l
      induction l with
      | nil => intro _; simp [recordsOfHead, insertRepair, hh]
      | cons q l ih =>
        intro hl
        have hq : ¬(q.head == h) = true := fun hq => by
          rw [recordsOfHead, List.filter_cons_of_pos (p := fun r : RepairRecord => r.head == h) hq] at hl
          cases hl
        have hrest : recordsOfHead h l = [] := by
          rwa [recordsOfHead, List.filter_cons_of_neg (p := fun r : RepairRecord => r.head == h) hq] at hl
        unfold insertRepair
        split
        · rw [recordsOfHead, List.filter_cons_of_pos (by simp [hh])]
          exact congrArg (r :: ·) hl
        · rw [recordsOfHead, List.filter_cons_of_neg (p := fun r : RepairRecord => r.head == h) hq]
          exact ih hrest
    exact hnone _ hremoved
  · rename_i hh
    rw [if_neg hh] at hremoved
    exact (insertRepair_filter _ r _ (by simpa using Ne.symm hh)).trans hremoved

/-- R143: with one record of the head before, as many records after. -/
theorem Heads.replaceRepair_length (hs : Heads) (r : RepairRecord) (h : (recordsOfHead r.head hs.repairs).length = 1) :
    (hs.replaceRepair r).repairs.length = hs.repairs.length := by
  have hsplit := hs.repairs.length_eq_length_filter_add fun x => x.head == r.head
  show (insertRepair r (removeRepairs (· == r.head) hs.repairs)).length = _
  rw [insertRepair_length, hsplit]
  show (removeRepairs (· == r.head) hs.repairs).length + 1 = (recordsOfHead r.head hs.repairs).length + _
  rw [h, Nat.add_comm]
  rfl

/-- R143: heads that hold one record at most. -/
theorem recordsOfHead_length_le {l : List RepairRecord} (hn : (l.map RepairRecord.head).Nodup) (h : Nat) :
    (recordsOfHead h l).length ≤ 1 := by
  induction l with
  | nil => exact Nat.zero_le 1
  | cons q l ih =>
    rw [List.map_cons, List.nodup_cons] at hn
    unfold recordsOfHead
    by_cases hq : q.head = h
    · rw [List.filter_cons_of_pos (by simpa using hq)]
      have hnone : l.filter (fun r => r.head == h) = [] := by
        rw [List.filter_eq_nil_iff]
        intro x hx hxh
        exact hn.1 (List.mem_map.2 ⟨x, hx, (beq_iff_eq.1 hxh).trans hq.symm⟩)
      rw [hnone]
      exact Nat.le_refl 1
    · rw [List.filter_cons_of_neg (by simpa using hq)]
      exact ih hn.2

/-! ### A head that breaks in a pass (R151, R153, R156) -/

theorem mapFrom_pick {α : Type} (h : Nat) (f : α → α) (l : List α) (i : Nat) :
    (mapFrom 1 (fun n a => if n == h then f a else a) l)[i]? = if i + 1 = h then l[i]?.map f else l[i]? := by
  rw [mapFrom_getElem?]
  by_cases hi : i + 1 = h
  · rw [if_pos hi]
    cases l[i]? with
    | none => rfl
    | some a => simp [Nat.add_comm 1 i, hi]
  · rw [if_neg hi]
    cases l[i]? with
    | none => rfl
    | some a => simp [Nat.add_comm 1 i, hi]

/-- R151, R156: the head's entry as it breaks in a pass. -/
def Head.rebroken (d : Head) : Head := { d with condition := .broken, role := .none, start := none }

theorem State.rebreak_of_some {s : State} {h : Nat} {r : RepairRecord} (hr : s.heads.repairOf h = some r) (point needle : Nat)
    (cause : BreakCause) : s.rebreak h point needle cause = { s with
      heads := { s.heads with
        table := updAt (h - 1) Head.rebroken s.heads.table
        repairs := (s.heads.replaceRepair
          { r with point := point, needle := needle, block := s.blockOf point, cause := cause }).repairs }
      thread := s.thread.clearRuns (· == h) } := by
  unfold State.rebreak
  rw [hr]
  rfl

/-- R151, R156: a head's record as it breaks at a repair point in a pass, with the needle of a colour block. -/
def State.brokenRecord (s : State) (point block : Nat) (r : RepairRecord) : RepairRecord :=
  { r with point := point, block := s.blockOf point, needle := s.historyNeedle block r.needle }

/-- R151, R156: one head that breaks at a repair point in a pass. -/
def State.breakHead (point block : Nat) (s : State) (h : Nat) : State :=
  match s.heads.repairOf h with
  | some r => s.rebreak h point (s.historyNeedle block r.needle) r.cause
  | none => s

/-- R151, R156: the state once the heads in `done` have broken at the point. -/
structure State.HeadsBroken (s : State) (point block : Nat) (t : State) (done : List Nat) : Prop where
  rest : ∃ table repairs monitors, t = { s with
    heads := { s.heads with table := table, repairs := repairs }, thread := { s.thread with monitors := monitors } }
  table : ∀ i : Nat, t.heads.table[i]? =
    if i + 1 ∈ done ∧ (s.heads.repairOf (i + 1)).isSome then s.heads.table[i]?.map Head.rebroken else s.heads.table[i]?
  monitors : ∀ i : Nat, t.thread.monitors[i]? =
    if i + 1 ∈ done ∧ (s.heads.repairOf (i + 1)).isSome then s.thread.monitors[i]?.map (fun m => { m with run := .clear })
    else s.thread.monitors[i]?
  records : ∀ h : Nat, recordsOfHead h t.heads.repairs =
    if h ∈ done then ((s.heads.repairOf h).map (s.brokenRecord point block)).toList else recordsOfHead h s.heads.repairs
  length : (s.heads.repairs.map RepairRecord.head).Nodup → t.heads.repairs.length = s.heads.repairs.length

theorem State.HeadsBroken.refl (s : State) (point block : Nat) : s.HeadsBroken point block s [] :=
  ⟨⟨s.heads.table, s.heads.repairs, s.thread.monitors, rfl⟩, fun _ => by simp, fun _ => by simp, fun _ => by simp, fun _ => rfl⟩

theorem State.HeadsBroken.step {s t : State} {point block : Nat} {done : List Nat} (ht : s.HeadsBroken point block t done)
    {h : Nat} (hpos : 1 ≤ h) (hnew : h ∉ done) : s.HeadsBroken point block (t.breakHead point block h) (done ++ [h]) := by
  obtain ⟨table, repairs, monitors, hrest⟩ := ht.rest
  have hsame : t.heads.repairOf h = s.heads.repairOf h := by
    rw [Heads.repairOf_eq, Heads.repairOf_eq, ht.records h, if_neg hnew]
  unfold State.breakHead
  rw [hsame]
  cases hr : s.heads.repairOf h with
  | none =>
    simp only []
    refine ⟨ht.rest, fun i => ?_, fun i => ?_, fun k => ?_, ht.length⟩
    · rw [ht.table]
      by_cases hi : i + 1 = h
      · simp [hi, hr]
      · simp [hi]
    · rw [ht.monitors]
      by_cases hi : i + 1 = h
      · simp [hi, hr]
      · simp [hi]
    · rw [ht.records]
      by_cases hk : k = h
      · subst hk
        have hempty : recordsOfHead k s.heads.repairs = [] := by
          rw [← List.head?_eq_none_iff, ← Heads.repairOf_eq, hr]
        simp [hnew, hr, hempty]
      · simp [hk]
  | some r =>
    have hhead : r.head = h := Heads.repairOf_head hr
    simp only []
    rw [State.rebreak_of_some (hsame.trans hr)]
    have hrecord : ({ r with
        point := point, needle := t.historyNeedle block r.needle
        block := t.blockOf point, cause := r.cause } : RepairRecord) = s.brokenRecord point block r := by
      rw [hrest]
      rfl
    rw [hrecord]
    refine ⟨⟨_, _, _, by rw [hrest]; rfl⟩, fun i => ?_, fun i => ?_, fun k => ?_, fun hn => ?_⟩
    · show (updAt (h - 1) Head.rebroken t.heads.table)[i]? = _
      rw [updAt_getElem?, ht.table]
      by_cases hi : i + 1 = h
      · rw [if_pos (by omega), if_neg (by rw [hi]; exact fun hd => hnew hd.1), if_pos (by simp [hi, hr])]
      · rw [if_neg (by omega)]
        simp [hi]
    · show (t.thread.clearRuns (· == h)).monitors[i]? = _
      rw [Thread.clearRuns, mapFrom_pick, ht.monitors]
      by_cases hi : i + 1 = h
      · rw [if_pos hi, if_neg (by rw [hi]; exact fun hd => hnew hd.1), if_pos (by simp [hi, hr])]
      · rw [if_neg hi]
        simp [hi]
    · show recordsOfHead k (t.heads.replaceRepair (s.brokenRecord point block r)).repairs = _
      rw [Heads.recordsOfHead_replaceRepair, ht.records]
      have hleft : (s.brokenRecord point block r).head = h := hhead
      by_cases hk : k = h
      · simp [hk, hleft, hr]
      · simp [hk, hleft]
    · refine (Heads.replaceRepair_length t.heads (s.brokenRecord point block r) ?_).trans (ht.length hn)
      have hleft : (s.brokenRecord point block r).head = h := hhead
      rw [hleft, ht.records, if_neg hnew]
      refine Nat.le_antisymm (recordsOfHead_length_le hn h) ?_
      rw [Heads.repairOf_eq] at hr
      exact List.length_pos_of_mem (List.mem_of_mem_head? hr)

theorem State.HeadsBroken.foldl {s t : State} {point block : Nat} {done l : List Nat} (ht : s.HeadsBroken point block t done)
    (hpos : ∀ h ∈ l, 1 ≤ h) (hn : (done ++ l).Nodup) :
    s.HeadsBroken point block (l.foldl (State.breakHead point block) t) (done ++ l) := by
  induction l generalizing t done with
  | nil => rwa [List.append_nil]
  | cons h l ih =>
    rw [List.foldl_cons, List.append_cons]
    rw [List.append_cons] at hn
    have hnew : h ∉ done := fun hd =>
      (List.nodup_append.1 (List.nodup_append.1 hn).1).2.2 h hd h List.mem_cons_self rfl
    exact ih (ht.step (hpos h List.mem_cons_self) hnew) (fun k hk => hpos k (List.mem_cons_of_mem h hk)) hn

theorem mem_headNumbers {pick : Head → Bool} {n h : Nat} {l : List Head} :
    h ∈ headNumbers pick n l ↔ ∃ (i : Nat) (d : Head), l[i]? = some d ∧ pick d = true ∧ h = n + i := by
  induction l generalizing n with
  | nil => simp [headNumbers]
  | cons a l ih =>
    have hsplit : (∃ (i : Nat) (d : Head), (a :: l)[i]? = some d ∧ pick d = true ∧ h = n + i) ↔
        (pick a = true ∧ h = n) ∨ ∃ (i : Nat) (d : Head), l[i]? = some d ∧ pick d = true ∧ h = n + 1 + i := by
      constructor
      · rintro ⟨i, d, hd, hp, rfl⟩
        cases i with
        | zero => cases hd; exact Or.inl ⟨hp, rfl⟩
        | succ i => exact Or.inr ⟨i, d, hd, hp, by omega⟩
      · rintro (⟨hp, rfl⟩ | ⟨i, d, hd, hp, rfl⟩)
        · exact ⟨0, a, rfl, hp, rfl⟩
        · exact ⟨i + 1, d, hd, hp, by omega⟩
    rw [hsplit, ← ih, headNumbers]
    split
    · rename_i hp
      simp [hp]
    · rename_i hp
      simp [hp]

theorem headNumbers_nodup (pick : Head → Bool) (n : Nat) (l : List Head) : (headNumbers pick n l).Nodup := by
  induction l generalizing n with
  | nil => exact List.nodup_nil
  | cons a l ih =>
    unfold headNumbers
    split
    · refine List.nodup_cons.2 ⟨fun hmem => ?_, ih (n + 1)⟩
      obtain ⟨i, d, -, -, hi⟩ := mem_headNumbers.1 hmem
      omega
    · exact ih (n + 1)

/-! ### Leaving a pass (R156) -/

/-- R156: an ACTIVE head's record as the pass is left. -/
def State.leftRecord (s : State) (r : RepairRecord) : RepairRecord :=
  s.brokenRecord s.player.cursor (s.blockOf s.player.cursor) r

/-- R156: the state once the heads in `done` have been dealt with as the pass is left. -/
def State.HeadsLeft (s t : State) (done : List Nat) : Prop := s.HeadsBroken s.player.cursor (s.blockOf s.player.cursor) t done

/-- R156: the cursor stays as heads break at it. -/
theorem State.breakHead_foldl {t : State} {cursor : Nat} (hcursor : t.player.cursor = cursor) (block : Nat) (l : List Nat) :
    l.foldl (fun (s : State) (h : Nat) => s.breakHead s.player.cursor block h) t = l.foldl (State.breakHead cursor block) t := by
  induction l generalizing t with
  | nil => rfl
  | cons h l ih =>
    rw [List.foldl_cons, List.foldl_cons, hcursor]
    refine ih ?_
    unfold State.breakHead
    cases hr : t.heads.repairOf h with
    | none => exact hcursor
    | some r => simpa only [State.rebreak_of_some hr] using hcursor

/-- R156: the heads whose role is ACTIVE. -/
def State.activeHeads (s : State) : List Nat := headNumbers (fun h => h.role == .active) 1 s.heads.table

theorem State.mem_activeHeads (s : State) (i : Nat) :
    i + 1 ∈ s.activeHeads ↔ ∃ d : Head, s.heads.table[i]? = some d ∧ d.role = .active := by
  rw [State.activeHeads, mem_headNumbers]
  constructor
  · rintro ⟨k, d, hd, hrole, hk⟩
    obtain rfl : i = k := by omega
    exact ⟨d, hd, by simpa using hrole⟩
  · rintro ⟨d, hd, hrole⟩
    exact ⟨i, d, hd, by simpa using hrole, by omega⟩

theorem State.activeHeads_pos (s : State) : ∀ h ∈ s.activeHeads, 1 ≤ h := by
  intro h hmem
  obtain ⟨i, d, -, -, rfl⟩ := mem_headNumbers.1 hmem
  exact Nat.le_add_right 1 i

/-- R156: the pass is left once its ACTIVE heads have been dealt with. -/
theorem State.leavePass_headsLeft (s : State) : ∃ t : State, s.HeadsLeft t s.activeHeads ∧
    s.leavePass = (t.modHeads fun hs => { hs.abandonEntry with leftPass := true }).modPlayer
      fun p => { p with mode := .normal, displaced := true } := by
  refine ⟨s.activeHeads.foldl (State.breakHead s.player.cursor (s.blockOf s.player.cursor)) s,
    State.HeadsBroken.foldl (done := []) (.refl s _ _) s.activeHeads_pos (headNumbers_nodup _ _ _), ?_⟩
  rw [← State.breakHead_foldl rfl]
  rfl

/-- R28: the queue that the prefetcher fills depends on the player's state, cursor, queue and armed design alone. -/
theorem State.prefetchN_queue_congr (n : Nat) {s t : State} (hstate : t.player.state = s.player.state)
    (hcursor : t.player.cursor = s.player.cursor) (hqueue : t.player.queue = s.player.queue)
    (harmed : t.player.armed = s.player.armed) (hstore : t.store = s.store) (hset : t.gov.active = s.gov.active) :
    (t.prefetchN n).player.queue = (s.prefetchN n).player.queue := by
  induction n generalizing s t with
  | zero => exact hqueue
  | succ n ih =>
    have hnext : t.nextEntry = s.nextEntry := by
      simp only [State.nextEntry, State.recordOf, State.blockOf, State.armedDesign, hstate, hcursor, hqueue, harmed, hstore, hset]
    rw [State.prefetchN, State.prefetchN, hnext]
    cases s.nextEntry with
    | none => exact hqueue
    | some e => exact ih hstate hcursor (congrArg (· ++ [e]) hqueue) harmed hstore hset

/-- R29: what the prefetcher puts into the emptied queue of a player that is PAUSED. -/
theorem State.emptied_prefetched {s : State} {r : PauseReason} (h : s.player.state = .paused r) :
    let queue := ({ s with player := { s.player with queue := [] } } : State).prefetch.player.queue
    (∀ (j : Nat) (e : QueueEntry), queue[j]? = some e →
      e.index = s.player.cursor + j ∧ e.block = s.blockOf e.index ∧
      ∃ x : Record, s.recordOf (s.player.cursor + j) = some x ∧ e.kind = x.kind ∧ e.dx = x.dx ∧ e.dy = x.dy) ∧
    (queue.length = 32 ∨ (∃ e : QueueEntry, queue.getLast? = some e ∧ e.kind = .endRec) ∨
      s.recordOf (s.player.cursor + queue.length) = none) := by
  obtain ⟨more, hmore, hjoins, hstops⟩ := State.prefetch_prefetched { s with player := { s.player with queue := [] } }
    (by simp [h, PlayerState.prefetches]) (Nat.zero_le 32) (by simp [endsInEnd])
  have hqueue : ({ s with player := { s.player with queue := [] } } : State).prefetch.player.queue = more := by
    rw [hmore]
    exact List.nil_append more
  intro queue
  rw [show queue = more from hqueue]
  refine ⟨fun j e hj => ?_, ?_⟩
  · obtain ⟨⟨x, hx, rfl⟩, -⟩ := hjoins j e hj
    exact ⟨rfl, rfl, x, hx, rfl, rfl, rfl⟩
  · obtain h32 | hend | hnone := hstops
    · exact Or.inl (by simpa using h32)
    · exact Or.inr (Or.inl hend)
    · exact Or.inr (Or.inr hnone)

/-- R29: the queue as the prefetcher fills it anew from the cursor. -/
def State.newQueue (s : State) : List QueueEntry := ({ s with player := { s.player with queue := [] } } : State).prefetch.player.queue

/-- R156: a state with a pass left: these heads, records, monitors, and this queue. -/
def State.passLeft (s : State) (table : List Head) (repairs : List RepairRecord) (monitors : List HeadMonitor)
    (queue : List QueueEntry) : State :=
  { s with
    player := { s.player with mode := .normal, displaced := true, queue := queue }
    heads := { s.heads with
      table := table.map fun h => { h with role := .none, start := none }, repairs := repairs, leftPass := true
      selection := none, passEnd := none, passStart := none }
    thread := { s.thread with monitors := monitors } }

/-- R156, R29: leaving a pass, with the queue filled anew. -/
theorem State.leavePass_refill (s : State) : ∃ u : State, s.HeadsLeft u s.activeHeads ∧
    s.leavePass.refill = s.passLeft u.heads.table u.heads.repairs u.thread.monitors s.newQueue := by
  obtain ⟨u, hu, hleft⟩ := s.leavePass_headsLeft
  refine ⟨u, hu, ?_⟩
  obtain ⟨table, repairs, monitors, rfl⟩ := hu.rest
  have hemptied : s.leavePass.modPlayer (fun p => { p with queue := [] }) = s.passLeft table repairs monitors [] := by
    rw [hleft]
    rfl
  obtain ⟨q, hq⟩ := (s.passLeft table repairs monitors []).prefetch_queue
  have hqueue : q = s.newQueue := by
    refine (congrArg (fun t : State => t.player.queue) hq).symm.trans ?_
    exact State.prefetchN_queue_congr 32 rfl rfl rfl rfl rfl rfl
  rw [State.refill, hemptied, hq, hqueue]
  rfl

section
variable {s u : State}

/-- R156: a head's entry, its record and its suspicion run once the pass is left. -/
theorem State.HeadsLeft.head (hu : s.HeadsLeft u s.activeHeads) {i : Nat} {d : Head} (hd : s.heads.table[i]? = some d) :
    ∃ d' : Head, (u.heads.table.map fun h => { h with role := .none, start := none })[i]? = some d' ∧
      d' = { d with condition := d'.condition, role := .none, start := none } ∧
      (d.role ≠ .active → d'.condition = d.condition) ∧
      ∀ q : RepairRecord, (∀ x ∈ s.heads.repairs, x.head = i + 1 ↔ x = q) → q ∈ s.heads.repairs → d.role = .active →
        d'.condition = .broken ∧ s.leftRecord q ∈ u.heads.repairs ∧
        (∀ x ∈ u.heads.repairs, x.head = i + 1 → x = s.leftRecord q) ∧
        ∀ n : HeadMonitor, s.thread.monitors[i]? = some n → u.thread.monitors[i]? = some { n with run := .clear } := by
  have hactive : i + 1 ∈ s.activeHeads ↔ d.role = .active := by
    rw [State.mem_activeHeads, hd]
    simp
  have htable := hu.table i
  have hleftTable : (u.heads.table.map fun h => { h with role := .none, start := none })[i]? =
      (u.heads.table[i]?).map fun h => { h with role := .none, start := none } := List.getElem?_map
  rw [hd] at htable
  by_cases hdone : i + 1 ∈ s.activeHeads ∧ (s.heads.repairOf (i + 1)).isSome
  · rw [if_pos hdone] at htable
    rw [htable] at hleftTable
    refine ⟨_, hleftTable, rfl, fun hrole => absurd (hactive.1 hdone.1) hrole, fun q hq hmem hrole => ?_⟩
    have hsingle : s.heads.repairOf (i + 1) = some q := by
      obtain ⟨x, hx⟩ := Option.isSome_iff_exists.1 hdone.2
      rw [hx, (hq x (List.mem_of_find?_eq_some hx)).1 (Heads.repairOf_head hx)]
    have hrecords := hu.records (i + 1)
    rw [if_pos hdone.1, hsingle] at hrecords
    have hself (x : RepairRecord) : x ∈ u.heads.repairs ∧ x.head = i + 1 ↔ x = s.leftRecord q := by
      rw [← mem_recordsOfHead, hrecords]
      simp [State.leftRecord]
    refine ⟨rfl, ((hself _).2 rfl).1, fun x hx hh => (hself x).1 ⟨hx, hh⟩, fun n hn => ?_⟩
    refine (hu.monitors i).trans ?_
    rw [if_pos hdone, hn]
    rfl
  · rw [if_neg hdone] at htable
    rw [htable] at hleftTable
    refine ⟨_, hleftTable, rfl, fun _ => rfl, fun q hq hmem hrole => absurd ⟨hactive.2 hrole, ?_⟩ hdone⟩
    rw [Option.isSome_iff_ne_none]
    intro hnone
    exact List.find?_eq_none.1 hnone q hmem (by simpa using (hq q hmem).2 rfl)

/-- R156: the record of a head that was not ACTIVE stays. -/
theorem State.HeadsLeft.kept (hu : s.HeadsLeft u s.activeHeads) {x : RepairRecord} (hx : x ∈ s.heads.repairs)
    (hnot : ∀ d : Head, 1 ≤ x.head → s.heads.table[x.head - 1]? = some d → d.role ≠ .active) : x ∈ u.heads.repairs := by
  have hrecords := hu.records x.head
  rw [if_neg] at hrecords
  · have hmem : x ∈ recordsOfHead x.head u.heads.repairs := by
      rw [hrecords]
      exact mem_recordsOfHead.2 ⟨hx, rfl⟩
    exact (mem_recordsOfHead.1 hmem).1
  · intro hmem
    obtain ⟨i, d, hd, hrole, hi⟩ := mem_headNumbers.1 hmem
    refine hnot d (by omega) ?_ (by simpa using hrole)
    rw [← hd, hi, Nat.add_sub_cancel_left]

end

/-- Settles O47. -/
theorem repairEndLeavesThePass : Obligations.RepairEndLeavesThePass := by
  intro s hready
  refine ⟨fun h => exec_refused hready rfl rfl (st := .wrongState) ?_, fun r hr hmode => ?left⟩
  · refine if_neg ?_
    simp only [State.takingOn_player, Bool.and_eq_true, PlayerState.isPaused_iff, beq_iff_eq, not_and]
    rintro ⟨r, hr⟩ hrepair
    obtain hnormal | hnot := h
    · rw [hnormal] at hrepair
      cases hrepair
    · exact hnot r hr
  case left =>
    obtain ⟨u, hu, hleft⟩ := s.takingOn.leavePass_refill
    have hserve : s.takingOn.serve .repairEnd =
        okWith s.takingOn.leavePass.refill (b2 (s.heads.mask fun h => h.role == .active)) :=
      if_pos (by simp [PlayerState.isPaused, hr, hmode])
    rw [hleft] at hserve
    have hqueue : s.takingOn.newQueue = s.newQueue := State.prefetchN_queue_congr 32 rfl rfl rfl rfl rfl rfl
    rw [hqueue] at hserve
    obtain ⟨hjoins, hstops⟩ := State.emptied_prefetched hr
    have hquiet : (s.passLeft u.heads.table u.heads.repairs u.thread.monitors s.newQueue).quiet = true :=
      (State.quiet_congr (s.passLeft _ _ _ _) s rfl rfl rfl rfl rfl).trans (State.quiet_of_ready hready)
    have hactive (i : Nat) (d : Head) (hd : s.heads.table[i]? = some d) : i + 1 ∈ s.takingOn.activeHeads ↔ d.role = .active := by
      rw [State.mem_activeHeads]
      show (∃ e : Head, s.heads.table[i]? = some e ∧ e.role = .active) ↔ _
      rw [hd]
      simp
    refine ⟨s.passLeft u.heads.table u.heads.repairs u.thread.monitors s.newQueue, s.heads.mask fun h => h.role == .active,
      exec_served hready rfl rfl hserve hquiet, rfl, hjoins, hstops, rfl, rfl,
      rfl, rfl, rfl, rfl, rfl, rfl, rfl, rfl, ?mask, fun i d hd => ⟨?testBit, ?head⟩, fun x hx hnot => ?kept, fun hn => hu.length hn,
      rfl, fun i n hn => ?monitor⟩
    case mask =>
      have hlt := maskOf_lt (s.heads.table.map fun h => h.role == .active)
      rwa [List.length_map] at hlt
    case testBit =>
      rw [Heads.mask, maskOf_testBit, List.getD_eq_getElem?_getD, List.getElem?_map, hd]
      simp
    case head =>
      obtain ⟨d', hd', hsame, hkeep, hbroken⟩ := hu.head (d := d) hd
      exact ⟨d', hd', by rw [hsame], by rw [hsame], hsame, hkeep, hbroken⟩
    case kept => exact hu.kept hx hnot
    case monitor =>
      have hcleared := hu.monitors i
      have hn' : s.takingOn.thread.monitors[i]? = some n := hn
      rw [hn'] at hcleared
      split at hcleared
      · rename_i hdone
        refine ⟨_, hcleared, rfl, fun hnot => ?_⟩
        obtain ⟨d, hd, hrole⟩ := (s.takingOn.mem_activeHeads i).1 hdone.1
        exact absurd hrole (hnot d hd)
      · exact ⟨n, hcleared, rfl, fun _ => rfl⟩

end Sys2Proof.Machine
end

section
/-! PROOF. What waits for what, and the positioner's requests (O34, O35). -/

namespace Sys2Proof.Machine

/-! ### What a chain waits for (R33, R107, R113) -/

/-- Nothing waits for what holds now. -/
theorem State.quiet_iff (s : State) : s.quiet = true ↔
    (∀ j, s.nc.kept = some j → ¬(s.nc.state = .idle ∧ s.shaft.state = .held)) ∧
    (s.nc.kept = none →
      (∀ source, s.player.errand = .returnWait source → ¬(s.shaft.state = .held ∧ s.frameFree = true)) ∧
      (∀ source asked, s.player.errand = .changeWait source asked →
        ¬(s.shaft.state = .held ∧ s.nc.state = .idle ∧ s.nc.directBusy = false)) ∧
      (s.player.errand = .leadWait → s.frameFree = false)) := by
  unfold State.quiet State.settleOne State.beginKept State.isHeld
  cases hk : s.nc.kept with
  | some j => simp
  | none => cases he : s.player.errand <;> simp

/-- A frame move that is in flight begins nothing. -/
theorem State.quiet_of_moving {s t : State} (hq : s.quiet = true) (hnc : t.nc = s.nc) (hshaft : t.shaft.state = s.shaft.state)
    (he : t.player.errand = s.player.errand) (hm : t.frame.move.isSome = true) : t.quiet = true := by
  rw [State.quiet_iff] at hq ⊢
  obtain ⟨hkept, hwaits⟩ := hq
  have hbusy : t.frameFree = false := by
    rw [State.frameFree, Option.isNone_eq_false_iff.2 hm, Bool.false_and]
  rw [hnc, hshaft, he]
  exact ⟨hkept, fun hk => ⟨fun _ _ h => absurd (hbusy ▸ h.2) nofun, (hwaits hk).2.1, fun _ => hbusy⟩⟩

/-! ### Latching and the other changes (R168) -/

theorem State.modFrame_latch (s : State) (e : Event) (detail : List Byte) (f : Frame → Frame) :
    (s.latch e detail).modFrame f = (s.modFrame f).latch e detail := by
  simp [State.latch_eq, State.modFrame]

theorem State.modPlayer_latch (s : State) (e : Event) (detail : List Byte) (f : Player → Player) :
    (s.latch e detail).modPlayer f = (s.modPlayer f).latch e detail := by
  simp [State.latch_eq, State.modPlayer]

/-! ### A straight move (R92) -/

theorem Leg.between_isEmpty (x y tx ty : Int) : (Leg.between x y tx ty).isEmpty = true ↔ tx = x ∧ ty = y := by
  simp only [Leg.isEmpty, Leg.between, Bool.and_eq_true, beq_iff_eq]
  omega

theorem firstLeg_of_ne {x y : Int} {p : Int × Int} (h : ¬(p.1 = x ∧ p.2 = y)) (rest : List (Int × Int)) :
    firstLeg x y (p :: rest) = some (Leg.between x y p.1 p.2, rest) := by
  rw [firstLeg, if_neg]
  rwa [Leg.between_isEmpty]

theorem firstLeg_of_eq {x y : Int} {p : Int × Int} (h : p.1 = x ∧ p.2 = y) (rest : List (Int × Int)) :
    firstLeg x y (p :: rest) = firstLeg x y rest := by
  rw [firstLeg, if_pos]
  rwa [Leg.between_isEmpty]

theorem firstLeg_skip {x y : Int} {skipped rest : List (Int × Int)} (h : ∀ q ∈ skipped, q.1 = x ∧ q.2 = y) :
    firstLeg x y (skipped ++ rest) = firstLeg x y rest := by
  induction skipped with
  | nil => rfl
  | cons q skipped ih =>
    rw [List.cons_append, firstLeg_of_eq (h q List.mem_cons_self), ih fun r hr => h r (List.mem_cons_of_mem q hr)]

theorem firstLeg_eq_none {x y : Int} {targets : List (Int × Int)} (h : ∀ q ∈ targets, q.1 = x ∧ q.2 = y) :
    firstLeg x y targets = none := by
  rw [← List.append_nil targets, firstLeg_skip h]
  rfl

/-- R97: a LIMIT input that stands active toward the first step on either axis. -/
theorem State.limitAhead_isSome (s : State) (x y tx ty : Int) : (s.limitAhead (Leg.between x y tx ty)).isSome = true ↔
    (s.inputActive 26 = true ∧ tx < x) ∨ (s.inputActive 27 = true ∧ x < tx) ∨
      (s.inputActive 28 = true ∧ ty < y) ∨ (s.inputActive 29 = true ∧ y < ty) := by
  have hx : (tx - x).natAbs ≠ 0 ↔ tx < x ∨ x < tx := by omega
  have hy : (ty - y).natAbs ≠ 0 ↔ ty < y ∨ y < ty := by omega
  have hxn : ¬tx < x ↔ x ≤ tx := Int.not_lt
  have hyn : ¬ty < y ↔ y ≤ ty := Int.not_lt
  unfold State.limitAhead Leg.between
  simp only [hx, hy, decide_eq_true_eq, Bool.not_eq_true', decide_eq_false_iff_not, hxn, hyn]
  (repeat' split) <;> simp only [Option.isSome_some, Option.isSome_none, true_iff, Bool.false_eq_true, false_iff] <;> grind

/-! ### The checks of a positioner request (R95) -/

/-- R95: what stops a positioner request. -/
def State.positionerStopped (s : State) : Prop :=
  s.ev.estop = some false ∨ s.frame.readyX = false ∨ s.frame.readyY = false ∨ s.shaft.state = .turning ∨
    s.shaft.state = .positioning ∨ s.shaft.state = .braking

def State.frameHeld (s : State) : Prop := s.frame.owner = .positioner ∨ (s.frame.owner = .player ∧ s.frame.lent = false)

def State.frameKept (s : State) : Prop := s.player.armed.isSome = true ∧ s.player.keepFrame = true

theorem State.positionerRefusal_cases {s : State} (h : s.ready = true) :
    (s.positionerStopped → s.positionerRefusal = some .wrongState) ∧
    (¬s.positionerStopped → s.frameHeld → s.positionerRefusal = some .busy) ∧
    (¬s.positionerStopped → ¬s.frameHeld → s.frameKept → s.positionerRefusal = some .inUse) ∧
    (¬s.positionerStopped → ¬s.frameHeld → ¬s.frameKept → s.positionerRefusal = none) := by
  have hstopped : (s.estop || !s.frame.readyX || !s.frame.readyY || s.shaft.state == .turning || s.shaft.state == .positioning
      || s.shaft.state == .braking) = true ↔ s.positionerStopped := by
    simp only [Bool.or_eq_true, State.estop_iff h, Bool.not_eq_true', beq_iff_eq, or_assoc, State.positionerStopped]
  unfold State.positionerRefusal State.frameHeld State.frameKept
  simp only [Bool.and_eq_true, not_or]
  refine ⟨fun hs => if_pos (hstopped.2 hs), fun hs hh => ?_, fun hs hh hk => ?_, fun hs hh hk => ?_⟩
  · rw [if_neg (fun h => hs (hstopped.1 h))]
    obtain ho | ho := hh
    · rw [if_pos ho]
    · rw [if_neg (by simp [ho.1]), if_pos (by simpa using ho)]
  · rw [if_neg (fun h => hs (hstopped.1 h)), if_neg hh.1, if_neg (by simpa using hh.2), if_pos hk]
  · rw [if_neg (fun h => hs (hstopped.1 h)), if_neg hh.1, if_neg (by simpa using hh.2), if_neg hk]

/-- R95: the checks that every positioner request makes first. -/
theorem exec_positioner {s : State} {c : Instr} {own : State → Served} (hready : s.ready = true) (hi : isRequest c = true)
    (hc : c.counted = true) (hserve : s.takingOn.serve c = s.takingOn.positioner own) :
    (s.positionerStopped → exec c s = .next (s.replied ((frameOf c).ty + 0x80) [4])) ∧
    (¬s.positionerStopped → s.frameHeld → exec c s = .next (s.replied ((frameOf c).ty + 0x80) [5])) ∧
    (¬s.positionerStopped → ¬s.frameHeld → s.frameKept → exec c s = .next (s.replied ((frameOf c).ty + 0x80) [6])) ∧
    (¬s.positionerStopped → ¬s.frameHeld → ¬s.frameKept → s.takingOn.serve c = own s.takingOn) := by
  obtain ⟨hstopped, hheld, hkept, hfree⟩ := State.positionerRefusal_cases hready
  have refused {st : Status} (h : s.positionerRefusal = some st) :
      exec c s = .next (s.replied ((frameOf c).ty + 0x80) (replyOf st [])) := by
    have htaken : s.takingOn.positionerRefusal = some st := h
    exact exec_refused hready hi hc (hserve.trans (by rw [State.positioner, htaken]))
  refine ⟨fun h => refused (hstopped h), fun h hh => refused (hheld h hh), fun h hh hk => refused (hkept h hh hk), fun h hh hk => ?_⟩
  have htaken : s.takingOn.positionerRefusal = none := hfree h hh hk
  rw [hserve, State.positioner, htaken]

/-! ### A positioner operation that is granted (R95, R96) -/

/-- R95: the state with the frame granted to the positioner, and this move in flight. -/
def State.granted (s : State) (move : FrameMove) : State :=
  { s with
    frame := { s.frame with owner := .positioner, after := .keep, move := some move }
    player := { s.player with displaced := s.player.displaced || s.player.armed.isSome } }

theorem State.beginOperation_of_leg {s : State} {op : MoveOp} {targets rest : List (Int × Int)} {leg : Leg}
    (h : firstLeg s.frame.x s.frame.y targets = some (leg, rest)) :
    s.beginOperation op targets = s.granted (.legs op leg rest none) := by
  have hbegin : (s.grant.modFrame fun f => f.beginLegs op targets) = s.granted (.legs op leg rest none) := by
    show ({ s with
      frame := Frame.beginLegs { s.frame with owner := .positioner, after := .keep } op targets
      player := { s.player with displaced := s.player.displaced || s.player.armed.isSome } } : State) = _
    rw [Frame.beginLegs]
    simp only [h]
    rfl
  rw [State.beginOperation, h]
  exact hbegin

/-- R96, R97: an operation without a step ends as it begins, and the frame goes back to its owner. -/
theorem State.beginOperation_of_none {s : State} {op : MoveOp} {targets : List (Int × Int)}
    (h : firstLeg s.frame.x s.frame.y targets = none) : s.beginOperation op targets = { s with
      frame := { s.frame with owner := (if s.frame.lent then .player else .none), after := .keep, move := none }
      player := { s.player with displaced := s.player.displaced || s.player.armed.isSome } }.latch .frameDone
        (b1 op.code ++ [0, 0xFF] ++ sBytes4 s.frame.x ++ sBytes4 s.frame.y) := by
  have hbegin : (s.grant.modFrame fun f => f.beginLegs op targets) =
      s.granted (.legs op (Leg.between s.frame.x s.frame.y s.frame.x s.frame.y) [] none) := by
    show ({ s with
      frame := Frame.beginLegs { s.frame with owner := .positioner, after := .keep } op targets
      player := { s.player with displaced := s.player.displaced || s.player.armed.isSome } } : State) = _
    rw [Frame.beginLegs]
    simp only [h]
    rfl
  rw [State.beginOperation, h]
  show State.finishMove _ none = _
  rw [hbegin, State.finishMove_eq rfl]
  have hsettled : ({ (s.granted (.legs op (Leg.between s.frame.x s.frame.y s.frame.x s.frame.y) [] none)).frame with
      move := none } : Frame).settleOwner =
      { s.frame with owner := (if s.frame.lent then .player else .none), after := .keep, move := none } := by
    by_cases hl : s.frame.lent = true <;> simp [Frame.settleOwner, State.granted, hl]
  rw [hsettled]
  rfl

/-- R91: FIELD_LIMIT latches when the target was clamped. -/
theorem State.fieldLimit_keeps (s : State) (asked made : Int × Int) :
    (s.fieldLimit asked made).frame = s.frame ∧ (s.fieldLimit asked made).player = s.player := by
  unfold State.fieldLimit
  split <;> simp

/-- R91: latching FIELD_LIMIT and the grant are independent. -/
theorem State.granted_fieldLimit (s : State) (asked made : Int × Int) (move : FrameMove) :
    (s.fieldLimit asked made).granted move = (s.granted move).fieldLimit asked made := by
  unfold State.fieldLimit
  split
  · rfl
  · simp [State.granted, State.latch_eq]

theorem State.fieldLimit_quiet (s : State) (asked made : Int × Int) : (s.fieldLimit asked made).quiet = s.quiet := by
  unfold State.fieldLimit
  split <;> simp

/-- R91, R96: latching FIELD_LIMIT and an operation that ends as it begins. -/
def State.lentBack (s : State) : State :=
  { s with
    frame := { s.frame with owner := (if s.frame.lent then .player else .none), after := .keep, move := none }
    player := { s.player with displaced := s.player.displaced || s.player.armed.isSome } }

theorem State.lentBack_fieldLimit (s : State) (asked made : Int × Int) :
    (s.fieldLimit asked made).lentBack = s.lentBack.fieldLimit asked made := by
  unfold State.fieldLimit
  split
  · rfl
  · simp [State.lentBack, State.latch_eq]

theorem State.positionTo_blocked {s : State} {op : MoveOp} {asked : Int × Int}
    (h : (s.limitAhead (Leg.between s.frame.x s.frame.y (s.frame.clampTo asked).1 (s.frame.clampTo asked).2)).isSome = true) :
    s.positionTo op asked = refuse s .wrongState := if_pos h

/-- R95, R98: a move to a target elsewhere is granted. -/
theorem State.positionTo_moves {s : State} {op : MoveOp} {asked made : Int × Int} (hmade : s.frame.clampTo asked = made)
    (hfree : ¬(s.limitAhead (Leg.between s.frame.x s.frame.y made.1 made.2)).isSome = true)
    (hne : made.1 ≠ s.frame.x ∨ made.2 ≠ s.frame.y) :
    s.positionTo op asked = okWith ((s.granted (.legs op (Leg.between s.frame.x s.frame.y made.1 made.2) [] none)).fieldLimit
      asked made) (targetBytes made) := by
  obtain ⟨hframe, -⟩ := s.fieldLimit_keeps asked made
  have hleg := firstLeg_of_ne (x := s.frame.x) (y := s.frame.y) (p := made) (fun h => hne.elim (· h.1) (· h.2)) []
  rw [← hframe] at hleg
  subst hmade
  rw [State.positionTo, if_neg hfree, State.beginOperation_of_leg hleg, State.granted_fieldLimit, hframe]
  rfl

/-- R96: a move to where the frame stands ends as it begins. -/
theorem State.positionTo_stands {s : State} {op : MoveOp} {asked made : Int × Int} (hmade : s.frame.clampTo asked = made)
    (hfree : ¬(s.limitAhead (Leg.between s.frame.x s.frame.y made.1 made.2)).isSome = true)
    (hx : made.1 = s.frame.x) (hy : made.2 = s.frame.y) :
    s.positionTo op asked = okWith ((s.lentBack.fieldLimit asked made).latch .frameDone
      (b1 op.code ++ [0, 0xFF] ++ sBytes4 s.frame.x ++ sBytes4 s.frame.y)) (targetBytes made) := by
  obtain ⟨hframe, -⟩ := s.fieldLimit_keeps asked made
  have hleg : firstLeg s.frame.x s.frame.y [made] = none := firstLeg_eq_none fun q hq => List.mem_singleton.1 hq ▸ ⟨hx, hy⟩
  rw [← hframe] at hleg
  have hbegin := State.beginOperation_of_none (op := op) hleg
  rw [hframe] at hbegin
  subst hmade
  rw [State.positionTo, if_neg hfree, hbegin, ← State.lentBack_fieldLimit, State.lentBack, hframe]
  rfl

/-- The result of FRAME_GO and FRAME_PARK once the checks have passed. -/
theorem exec_positionTo {s : State} {c : Instr} {op : MoveOp} {asked made : Int × Int} (hready : s.ready = true)
    (hi : isRequest c = true) (hc : c.counted = true) (hserve : s.takingOn.serve c = s.takingOn.positionTo op asked)
    (hmade : s.frame.clampTo asked = made) :
    ((s.limitAhead (Leg.between s.frame.x s.frame.y made.1 made.2)).isSome = true →
      exec c s = .next (s.replied ((frameOf c).ty + 0x80) [4])) ∧
    (¬(s.limitAhead (Leg.between s.frame.x s.frame.y made.1 made.2)).isSome = true →
      ((made.1 ≠ s.frame.x ∨ made.2 ≠ s.frame.y) →
        exec c s = .next ((((s.takingOn.granted (.legs op (Leg.between s.frame.x s.frame.y made.1 made.2) [] none)).fieldLimit
          asked made)).replied ((frameOf c).ty + 0x80) (0 :: targetBytes made))) ∧
      (s.player.errand = .none → made.1 = s.frame.x → made.2 = s.frame.y →
        exec c s = .next (((s.takingOn.lentBack.fieldLimit asked made).latch .frameDone
          (b1 op.code ++ [0, 0xFF] ++ sBytes4 s.frame.x ++ sBytes4 s.frame.y)).replied ((frameOf c).ty + 0x80)
            (0 :: targetBytes made)))) := by
  have hquiet := State.quiet_of_ready hready
  refine ⟨fun hb => exec_refused hready hi hc (hserve.trans (State.positionTo_blocked ?_)), fun hb => ⟨fun hne => ?_,
    fun herrand hx hy => ?_⟩⟩
  · rw [← hmade] at hb
    exact hb
  · refine exec_answered hready hi hc (hserve.trans (State.positionTo_moves (s := s.takingOn) hmade hb hne)) ?_
    rw [State.fieldLimit_quiet]
    exact State.quiet_of_moving hquiet rfl rfl rfl rfl
  · refine exec_answered hready hi hc (hserve.trans (State.positionTo_stands (s := s.takingOn) hmade hb hx hy)) ?_
    rw [State.latch_quiet, State.fieldLimit_quiet]
    exact State.quiet_of_no_errand hquiet rfl rfl herrand

/-- Settles O34. -/
theorem positionerMovesToItsTarget : Obligations.PositionerMovesToItsTarget := by
  intro s mode x y hready stopped held kept checks moves
  have checked {c : Instr} {own : State → Served} {result : Prop} (hi : isRequest c = true) (hc : c.counted = true)
      (hserve : s.takingOn.serve c = s.takingOn.positioner own)
      (hown : s.takingOn.serve c = own s.takingOn → result) : checks c ((frameOf c).ty + 0x80) result := by
    obtain ⟨hstopped, hheld, hkept, hfree⟩ := exec_positioner hready hi hc hserve
    exact ⟨hstopped, hheld, hkept, fun hs hh hk => hown (hfree hs hh hk)⟩
  have moved {c : Instr} {op : MoveOp} {asked : Int × Int} (hi : isRequest c = true) (hc : c.counted = true)
      (hserve : s.takingOn.serve c = s.takingOn.positionTo op asked) : moves c ((frameOf c).ty + 0x80) op asked := by
    obtain ⟨made, hmade⟩ : ∃ made, s.frame.clampTo asked = made := ⟨_, rfl⟩
    have hblocked := s.limitAhead_isSome s.frame.x s.frame.y made.1 made.2
    obtain ⟨hstop, hgo⟩ := exec_positionTo hready hi hc hserve hmade
    subst hmade
    exact ⟨fun hb => hstop (hblocked.2 hb), fun hb => (hgo fun h => hb (hblocked.1 h)).1,
      fun hb => (hgo fun h => hb (hblocked.1 h)).2⟩
  refine ⟨checked (own := fun s =>
      if 1 < mode ∨ x = -32768 ∨ y = -32768 then refuse s .badValue
      else if mode = 0 then
        (if s.frame.known then s.positionTo .go (4 * x, 4 * y) else refuse s .notHomed)
      else s.positionTo .go (s.frame.x + 4 * x, s.frame.y + 4 * y)) rfl rfl rfl fun hserve => ?go,
    checked (own := fun s =>
      if s.frame.known then s.positionTo .park (4 * s.frame.settings.parkX, 4 * s.frame.settings.parkY)
      else refuse s .notHomed) rfl rfl rfl fun hserve => ?park⟩
  case go =>
    have valued {m : Nat} (hm : mode = m) (hle : m ≤ 1) (hx : x ≠ -32768) (hy : y ≠ -32768) :
        ¬(1 < mode ∨ x = -32768 ∨ y = -32768) := by omega
    refine ⟨fun hbad => exec_refused hready rfl rfl (hserve.trans (if_pos hbad)), fun hm hx hy hk => ?_,
      fun hm hx hy hk => moved rfl rfl ?_, fun hm hx hy => moved rfl rfl ?_⟩
    · exact exec_refused (st := .notHomed) hready rfl rfl (hserve.trans ((if_neg (valued hm (by omega) hx hy)).trans
        ((if_pos hm).trans (if_neg (by simp [hk])))))
    · exact hserve.trans ((if_neg (valued hm (by omega) hx hy)).trans ((if_pos hm).trans (if_pos hk)))
    · exact hserve.trans ((if_neg (valued hm (by omega) hx hy)).trans (if_neg (by omega)))
  case park =>
    exact ⟨fun hk => exec_refused (st := .notHomed) hready rfl rfl (hserve.trans (if_neg (by simp [hk]))),
      fun hk => moved rfl rfl (hserve.trans (if_pos hk))⟩

/-- Settles O35. -/
theorem homeAndTraceBegin : Obligations.HomeAndTraceBegin := by
  intro s hready stopped held kept granted
  obtain ⟨hstopH, hheldH, hkeptH, hhome⟩ := exec_positioner (c := .frameHome) (own := fun s =>
    if s.homeBlocked .x || s.homeBlocked .y then refuse s .wrongState else okWith (s.grant.beginHoming .x) []) hready rfl rfl rfl
  obtain ⟨hstopT, hheldT, hkeptT, htrace⟩ := exec_positioner (c := .frameTrace) (own := fun s =>
    match s.armedDesign with
    | none => refuse s .wrongState
    | some d =>
        if !s.frame.known then refuse s .notHomed
        else
          let o := s.player.origin.getD (0, 0)
          let first : Leg := Leg.between s.frame.x s.frame.y (o.1 + 4 * d.box.xmin) (o.2 + 4 * d.box.ymin)
          if (s.limitAhead first).isSome then refuse s .wrongState
          else okWith (s.beginOperation .trace (traceLegs o d.box (s.frame.x, s.frame.y))) []) hready rfl rfl rfl
  have hquiet := State.quiet_of_ready hready
  refine ⟨?refusals, fun hs hh hk => ⟨fun hb => ?blocked, fun hx hy => ?home, fun hd => ?unarmed, fun d o hd ho => ?trace⟩⟩
  case refusals =>
    rintro c ty (⟨rfl, rfl⟩ | ⟨rfl, rfl⟩)
    · exact ⟨hstopH, hheldH, hkeptH⟩
    · exact ⟨hstopT, hheldT, hkeptT⟩
  all_goals
    replace hhome := hhome hs hh hk
    replace htrace := htrace hs hh hk
  case blocked => exact exec_refused hready rfl rfl (hhome.trans (if_pos (Bool.or_eq_true_iff.2 hb)))
  case home =>
    have hfree : ¬(s.takingOn.homeBlocked .x || s.takingOn.homeBlocked .y) = true := by
      rw [show s.takingOn.homeBlocked = s.homeBlocked from rfl, hx, hy]
      exact Bool.false_ne_true
    exact exec_served hready rfl rfl (hhome.trans (if_neg hfree)) (State.quiet_of_moving hquiet rfl rfl rfl rfl)
  case unarmed =>
    refine exec_refused (st := .wrongState) hready rfl rfl (htrace.trans ?_)
    rw [show s.takingOn.armedDesign = none from hd]
  case trace =>
    intro corner first
    have hserve {own : Served} (h : (if !s.frame.known then refuse s.takingOn .notHomed
        else if (s.limitAhead first).isSome then refuse s.takingOn .wrongState
        else okWith (s.takingOn.beginOperation .trace (traceLegs o d.box (s.frame.x, s.frame.y))) []) = own) :
        s.takingOn.serve .frameTrace = own := by
      refine htrace.trans (Eq.trans ?_ h)
      rw [show s.takingOn.armedDesign = some d from hd]
      dsimp only
      rw [show s.takingOn.player.origin = some o from ho]
      rfl
    have known (hk : s.frame.known = true) : ¬(!s.frame.known) = true := by simp [hk]
    have free (hl : s.limitAhead first = none) : ¬(s.limitAhead first).isSome = true := by simp [hl]
    have begun {rest : List (Int × Int)} {leg : Leg} (hk : s.frame.known = true) (hl : s.limitAhead first = none)
        (hleg : firstLeg s.frame.x s.frame.y (traceLegs o d.box (s.frame.x, s.frame.y)) = some (leg, rest)) :
        exec .frameTrace s = .next ((granted (.legs .trace leg rest none)).replied 0xC2 [0]) :=
      exec_served hready rfl rfl (hserve ((if_neg (known hk)).trans ((if_neg (free hl)).trans
        (congrArg (okWith · []) (State.beginOperation_of_leg (s := s.takingOn) hleg)))))
        (State.quiet_of_moving hquiet rfl rfl rfl rfl)
    refine ⟨fun hk => exec_refused (st := .notHomed) hready rfl rfl (hserve (if_pos (by simp [hk]))),
      fun hk hl => exec_refused (st := .wrongState) hready rfl rfl (hserve ((if_neg (known hk)).trans (if_pos ?_))),
      fun hk hl hfirst => begun hk hl ?_, fun skipped rest p hk hl htargets hskip hp => begun hk hl ?_,
      fun hk hempty herrand => ?_⟩
    · exact Option.isSome_iff_ne_none.2 hl
    · exact firstLeg_of_ne (fun h => Bool.false_ne_true (hfirst.symm.trans ((Leg.between_isEmpty ..).2 h))) _
    · have hlegs : traceLegs o d.box (s.frame.x, s.frame.y) = skipped ++ p :: rest := htargets
      rw [hlegs, firstLeg_skip hskip, firstLeg_of_ne hp]
    · have hl : s.limitAhead first = none := by
        have hstand := hempty _ List.mem_cons_self
        refine Option.not_isSome_iff_eq_none.1 fun h => ?_
        have hblocked := (s.limitAhead_isSome _ _ _ _).1 h
        obtain ⟨hx, hy⟩ := hstand
        dsimp only [corner] at hx hy
        omega
      have hnone : firstLeg s.frame.x s.frame.y (traceLegs o d.box (s.frame.x, s.frame.y)) = none := firstLeg_eq_none hempty
      refine exec_answered hready rfl rfl (hserve ((if_neg (known hk)).trans ((if_neg (free hl)).trans
        (congrArg (okWith · []) (State.beginOperation_of_none (s := s.takingOn) hnone))))) ?_
      rw [State.latch_quiet]
      exact State.quiet_of_no_errand hquiet rfl rfl herrand

end Sys2Proof.Machine
end

section
/-! PROOF. Faults: what a report to the player and the shaft, axis and case faults leave, the E-STOP line and the index pulse
(O50, O57). -/

namespace Sys2Proof.Machine

/-! ### What latches stays latched (R168) -/

/-- R168: from `s` to `t` flags have latched, and nothing else of the event unit has changed. -/
def State.Latches (s t : State) : Prop := ∃ more, t.ev = { s.ev with flags := s.ev.flags ||| more }

namespace State.Latches

theorem of_ev_eq {s t : State} (h : t.ev = s.ev) : s.Latches t := ⟨0, by simp [h]⟩

theorem refl (s : State) : s.Latches s := of_ev_eq rfl

theorem trans {s t u : State} (hst : s.Latches t) (htu : t.Latches u) : s.Latches u := by
  obtain ⟨more, hst⟩ := hst
  obtain ⟨again, htu⟩ := htu
  exact ⟨more ||| again, by rw [htu, hst, BitVec.or_assoc]⟩

theorem latch (s : State) (e : Event) (detail : List Byte) : s.Latches (s.latch e detail) :=
  ⟨e.bit, State.latch_flags s e detail⟩

/-- The flag that has latched before is still set. -/
theorem latched {s t : State} {e : Event} {detail : List Byte} (h : (s.latch e detail).Latches t) :
    t.ev.flags &&& e.bit ≠ 0 := by
  obtain ⟨more, hmore⟩ := h
  rw [State.latch_flags] at hmore
  exact BitVec.and_ne_zero_of_or (Event.bit_ne_zero e) ⟨s.ev.flags ||| more, by rw [hmore]; simp only; ac_rfl⟩

theorem finishMove (s : State) (abort : Option AbortCause) : s.Latches (s.finishMove abort) := by
  cases h : s.frame.move with
  | none => rw [State.finishMove_of_none h]; exact refl s
  | some m => rw [State.finishMove_eq h]; exact latch _ _ _

theorem slowMove (s : State) (cause : AbortCause) : s.Latches (s.slowMove cause) := ⟨_, s.slowMove_ev cause⟩

theorem slowPositioner (s : State) (cause : AbortCause) : s.Latches (s.slowPositioner cause) := by
  unfold State.slowPositioner
  split
  · exact slowMove s cause
  · exact refl s

theorem haltFrame (s : State) (c : HaltCause) : s.Latches (s.haltFrame c) := by
  unfold State.haltFrame
  split
  · exact slowMove s _
  · exact refl s

/-- R22: an entry to HALTED latches PLAYER_STATE last. -/
theorem enterHalted_reported (s : State) (c : HaltCause) :
    ∃ (u : State) (detail : List Byte), s.Latches u ∧ s.enterHalted c = u.latch .playerState detail := by
  refine ⟨(((((s.haltPlayer c).haltMachine c).haltFrame c).haltKill c).lend), _, ?_, rfl⟩
  refine trans (of_ev_eq ?_) (trans (haltFrame ((s.haltPlayer c).haltMachine c) c) (of_ev_eq ?_))
  · simp
  · simp

theorem enterHalted (s : State) (c : HaltCause) : s.Latches (s.enterHalted c) := by
  obtain ⟨u, detail, hu, heq⟩ := enterHalted_reported s c
  rw [heq]
  exact trans hu (latch u _ _)

theorem enterHalted_latched (s : State) (c : HaltCause) : (s.enterHalted c).ev.flags &&& Event.playerState.bit ≠ 0 := by
  obtain ⟨u, detail, -, heq⟩ := enterHalted_reported s c
  rw [heq]
  exact latched (refl _)

theorem reportFault (s : State) (c : HaltCause) : s.Latches (s.reportFault c) := by
  unfold State.reportFault
  split
  · exact of_ev_eq (by simp)
  · exact of_ev_eq (by simp)
  all_goals exact enterHalted s c

end State.Latches

/-! ### The brake request to a shaft (R69) -/

/-- R69, R74: the shaft unit after a brake request. -/
def Shaft.brake (h : Shaft) : Shaft :=
  let off : Shaft := { h.dropKept.noDemand with state := .off, phase := .creep, cause := none, faultStill := false, toOff := false }
  let braking : Shaft := if h.still then off else { h.dropKept.noDemand with state := .braking, phase := .creep }
  match h.state with
  | .turning => braking
  | .positioning => braking
  | .held => off
  | .offPosition => off
  | .off => h.dropKept
  | .braking => h.dropKept
  | .fault => h.dropKept

theorem State.brakeRequest_shaft (s : State) : s.brakeRequest.shaft = s.shaft.brake := by
  unfold State.brakeRequest State.enterBraking Shaft.brake
  cases h : s.shaft.state <;> cases hs : s.shaft.still <;>
    simp [State.enterOff, Shaft.dropKept, Shaft.noDemand, hs]

theorem Shaft.brake_state (h : Shaft) : h.brake.state = h.state.braked h.still := by
  unfold Shaft.brake ShaftState.braked
  cases hh : h.state <;> cases hs : h.still <;> simp [Shaft.dropKept, Shaft.noDemand, hh]

@[simp] theorem Shaft.brake_keeps (h : Shaft) :
    h.brake.angle = h.angle ∧ h.brake.refValid = h.refValid ∧ h.brake.sMeas = h.sMeas ∧ h.brake.still = h.still ∧
      h.brake.driveReady = h.driveReady ∧ h.brake.keptHold = false ∧ h.brake.keptTurn = false := by
  unfold Shaft.brake
  cases hh : h.state <;> cases hs : h.still <;> simp [Shaft.dropKept, Shaft.noDemand, hs]

/-- A faulted shaft with nothing kept is not braked. -/
theorem Shaft.brake_of_fault {h : Shaft} (hf : h.state = .fault) (hhold : h.keptHold = false) (hturn : h.keptTurn = false) :
    h.brake = h := by
  have hkept : h.dropKept = h := by
    obtain ⟨⟩ := h
    simp_all [Shaft.dropKept]
  rw [Shaft.brake]
  simp only [hf]
  exact hkept

theorem ShaftState.braked_braked (h : ShaftState) (still : Bool) : (h.braked still).braked still = h.braked still := by
  cases h <;> cases still <;> rfl

/-! ### A fault reported to the player (R42) -/

/-- The three cases of a report: IDLE, HALTED, and the states from which a halt is entered. -/
theorem PlayerState.idle_or_halted_or (p : PlayerState) :
    p = .idle ∨ (∃ k : HaltCause, p = .halted k) ∨ (p ≠ .idle ∧ ∀ k : HaltCause, p ≠ .halted k) := by
  cases p <;> simp

section
variable (s : State) (c : HaltCause)

theorem State.reportFault_of_idle {s : State} (h : s.player.state = .idle) : s.reportFault c = s.abandonSewing := by
  simp only [State.reportFault, h]

theorem State.reportFault_of_halted {s : State} {k : HaltCause} (h : s.player.state = .halted k) :
    s.reportFault c = s.haltAgain k c := by
  simp only [State.reportFault, h]

/-- R44, R62: a report taken while HALTED, with no recovery in progress or with one that ends. -/
theorem State.haltAgain_parts (k : HaltCause) :
    ((s.haltAgain k c).shaft = s.shaft ∨ (s.haltAgain k c).shaft = s.shaft.brake) ∧
      ((s.haltAgain k c).nc = s.nc ∨ (s.haltAgain k c).nc = s.nc.abandon) ∧
      (s.haltAgain k c).gov.move = none ∧ (s.haltAgain k c).frame = s.frame.unsewn s.gov.move.isSome ∧
      (s.haltAgain k c).player.errand = s.player.errand ∧ (s.haltAgain k c).outs.hold = s.outs.hold := by
  have ended (u : State) (hshaft : u.shaft = s.shaft) (hnc : u.nc = s.nc) (hgov : u.gov.move = none)
      (hframe : u.frame = s.frame.unsewn s.gov.move.isSome) (he : u.player.errand = s.player.errand)
      (ho : u.outs.hold = s.outs.hold) :
      (u.brakeRequest.shaft = s.shaft ∨ u.brakeRequest.shaft = s.shaft.brake) ∧
        (u.brakeRequest.nc = s.nc ∨ u.brakeRequest.nc = s.nc.abandon) ∧ u.brakeRequest.gov.move = none ∧
        u.brakeRequest.frame = s.frame.unsewn s.gov.move.isSome ∧ u.brakeRequest.player.errand = s.player.errand ∧
        u.brakeRequest.outs.hold = s.outs.hold := by
    rw [State.brakeRequest_shaft, State.brakeRequest_nc_eq, State.brakeRequest_gov_move, u.brakeRequest_outs.1, hshaft, hnc, hgov]
    refine ⟨Or.inr rfl, ?_, rfl, by simpa using hframe, by simpa using he, ho⟩
    split
    · exact Or.inr rfl
    · exact Or.inl rfl
  have habandon : s.abandonSewing.gov.move = none := by rw [State.abandonSewing_gov]
  unfold State.haltAgain
  simp only []
  generalize (if c = .halt then HaltCause.halt else k) = k'
  split
  · have hparts := ended (s.abandonSewing.modPlayer fun p =>
      { p with recovering := false, state := .halted k' }) (by simp) (by simp) habandon
      s.abandonSewing_frame (by simp) (by simp)
    split <;> exact hparts
  · exact ⟨Or.inl (by simp), Or.inl (by simp), habandon, s.abandonSewing_frame, by simp, by simp⟩

/-- R42: a halted player keeps its cause, unless it is halted anew. -/
theorem State.haltAgain_player {k : HaltCause} (hk : s.player.state = .halted k) (hc : c ≠ .halt) :
    (s.haltAgain k c).player = { s.player with recovering := false } := by
  by_cases hr : s.player.recovering = true
  · rw [(State.haltAgain_recovering hr hc).1, ← hk]
  · have hplayer : (s.haltAgain k c).player = s.player := by simp [State.haltAgain, hr]
    rw [hplayer, ← Bool.eq_false_of_not_eq_true hr]

theorem State.reportFault_shaft : (s.reportFault c).shaft = s.shaft ∨ (s.reportFault c).shaft = s.shaft.brake := by
  obtain h | ⟨k, h⟩ | ⟨hi, hh⟩ := s.player.state.idle_or_halted_or
  · rw [State.reportFault_of_idle c h]
    exact Or.inl (by simp)
  · rw [State.reportFault_of_halted c h]
    exact (s.haltAgain_parts c k).1
  · rw [State.reportFault_enters hi hh, State.enterHalted_eq]
    refine Or.inr ?_
    simp only [State.reportPlayer_keeps, State.lend_keeps, State.haltKill_keeps, State.haltFrame_keeps, State.haltMachine]
    split <;> simp [State.brakeRequest_shaft]

theorem State.reportFault_nc : (s.reportFault c).nc = s.nc ∨ (s.reportFault c).nc = s.nc.abandon := by
  obtain h | ⟨k, h⟩ | ⟨hi, hh⟩ := s.player.state.idle_or_halted_or
  · rw [State.reportFault_of_idle c h]
    exact Or.inl (by simp)
  · rw [State.reportFault_of_halted c h]
    exact (s.haltAgain_parts c k).2.1
  · rw [State.reportFault_enters hi hh]
    exact Or.inr (s.enterHalted_nc c)

theorem State.reportFault_gov_move {c : HaltCause} (hc : c ≠ .overrun) : (s.reportFault c).gov.move = none := by
  obtain h | ⟨k, h⟩ | ⟨hi, hh⟩ := s.player.state.idle_or_halted_or
  · rw [State.reportFault_of_idle c h, State.abandonSewing_gov]
  · rw [State.reportFault_of_halted c h]
    exact (s.haltAgain_parts c k).2.2.1
  · rw [State.reportFault_enters hi hh, State.enterHalted_gov_move, if_neg hc]

/-- R41, R33: after a report nothing waits on the player's chain, unless it stands in IDLE or HALTED. -/
theorem State.reportFault_errand (h : s.player.errand = .none ∨
    (s.player.state ≠ .idle ∧ ∀ k : HaltCause, s.player.state ≠ .halted k)) : (s.reportFault c).player.errand = .none := by
  obtain hi | ⟨k, hk⟩ | ⟨hi, hh⟩ := s.player.state.idle_or_halted_or
  · rw [State.reportFault_of_idle c hi]
    simpa using h.resolve_right fun h => h.1 hi
  · rw [State.reportFault_of_halted c hk, (s.haltAgain_parts c k).2.2.2.2.1]
    exact h.resolve_right fun h => h.2 k hk
  · rw [State.reportFault_enters hi hh, State.enterHalted_player]
    rfl

/-- R111: after a report nothing is kept for the case unit, unless the player stands in IDLE or HALTED. -/
theorem State.reportFault_kept (h : s.nc.kept = none ∨
    (s.player.state ≠ .idle ∧ ∀ k : HaltCause, s.player.state ≠ .halted k)) : (s.reportFault c).nc.kept = none := by
  obtain hk | ⟨hi, hh⟩ := h
  · obtain h | h := s.reportFault_nc c <;> rw [h]
    · exact hk
    · rfl
  · rw [State.reportFault_enters hi hh, State.enterHalted_nc]
    rfl

theorem State.endRevolution_hold (completed : Bool) : (s.endRevolution completed).outs.hold = s.outs.hold := by
  unfold State.endRevolution
  simp only []
  (repeat' split) <;> simp [Outputs.oweHolder]

theorem State.enterHalted_hold : (s.enterHalted c).outs.hold = s.outs.hold := by
  have hplayer : (s.haltPlayer c).outs.hold = s.outs.hold := by
    unfold State.haltPlayer
    simp only []
    split <;> simp [State.endRevolution_hold]
  have hkill (t : State) : (t.haltKill c).outs.hold = t.outs.hold := by
    unfold State.haltKill
    split <;> simp [Outputs.setKill]
  rw [State.enterHalted_eq]
  simp only [State.reportPlayer_keeps, State.lend_keeps, hkill, State.haltFrame_keeps, State.haltMachine]
  split <;> simp [State.brakeRequest_outs, hplayer]

theorem State.reportFault_hold : (s.reportFault c).outs.hold = s.outs.hold := by
  obtain h | ⟨k, h⟩ | ⟨hi, hh⟩ := s.player.state.idle_or_halted_or
  · rw [State.reportFault_of_idle c h]
    simp
  · rw [State.reportFault_of_halted c h]
    exact (s.haltAgain_parts c k).2.2.2.2.2
  · rw [State.reportFault_enters hi hh, State.enterHalted_hold]

end

/-! ### What a report does to the frame (R93, R94) -/

/-- The parts of the frame unit that no ending of a move touches. -/
def Frame.SamePlace (f g : Frame) : Prop :=
  g.x = f.x ∧ g.y = f.y ∧ g.known = f.known ∧ g.readyX = f.readyX ∧ g.readyY = f.readyY ∧ (f.move = none → g.move = none)

theorem Frame.SamePlace.trans {f g h : Frame} (hfg : f.SamePlace g) (hgh : g.SamePlace h) : f.SamePlace h := by
  obtain ⟨hx, hy, hk, hrx, hry, hm⟩ := hfg
  obtain ⟨hx', hy', hk', hrx', hry', hm'⟩ := hgh
  exact ⟨hx'.trans hx, hy'.trans hy, hk'.trans hk, hrx'.trans hrx, hry'.trans hry, fun h => hm' (hm h)⟩

theorem Frame.SamePlace.refl (f : Frame) : f.SamePlace f := ⟨rfl, rfl, rfl, rfl, rfl, id⟩

theorem Frame.settleOwner_samePlace (f : Frame) : f.SamePlace f.settleOwner := by
  simp [Frame.SamePlace]

theorem Frame.unsewn_samePlace (f : Frame) (sewing : Bool) : f.SamePlace (f.unsewn sewing) := by
  unfold Frame.unsewn
  split
  · exact f.settleOwner_samePlace
  · exact .refl f

theorem Frame.slow_samePlace (f : Frame) (cause : AbortCause) : f.SamePlace (f.slow cause) := by
  have hended : f.SamePlace { f with move := none }.settleOwner := by simp [Frame.SamePlace]
  unfold Frame.slow
  split
  · split
    · exact hended
    · rename_i h _
      exact ⟨rfl, rfl, rfl, rfl, rfl, fun hm => by rw [hm] at h; cases h⟩
  · exact .refl f
  · exact hended
  · exact .refl f

theorem Frame.lendBy_samePlace (f : Frame) (sewing : Bool) : f.SamePlace (f.lendBy sewing) := by
  unfold Frame.lendBy
  split
  · split
    · exact ⟨rfl, rfl, rfl, rfl, rfl, id⟩
    · exact ⟨rfl, rfl, rfl, rfl, rfl, id⟩
  · exact .refl f

theorem State.reportFault_samePlace (s : State) (c : HaltCause) : s.frame.SamePlace (s.reportFault c).frame := by
  obtain h | ⟨k, h⟩ | ⟨hi, hh⟩ := s.player.state.idle_or_halted_or
  · rw [State.reportFault_of_idle c h, State.abandonSewing_frame]
    exact s.frame.unsewn_samePlace _
  · rw [State.reportFault_of_halted c h, (s.haltAgain_parts c k).2.2.2.1]
    exact s.frame.unsewn_samePlace _
  · rw [State.reportFault_enters hi hh, State.enterHalted_frame]
    refine .trans ?_ (Frame.lendBy_samePlace _ _)
    have hsewn : s.frame.SamePlace (if c = .overrun then s.frame else s.frame.unsewn s.gov.move.isSome) := by
      split
      · exact .refl _
      · exact s.frame.unsewn_samePlace _
    unfold Frame.haltBy
    split
    · exact hsewn.trans (Frame.slow_samePlace _ _)
    · exact hsewn

/-! ### Shaft faults (R76) -/

/-- R76: the shaft unit in a fault. -/
def Shaft.faulted (h : Shaft) (c : ShaftCause) (idle : Bool) : Shaft :=
  { h.noDemand.dropKept with state := .fault, phase := .creep, cause := some c, faultStill := h.still, toOff := idle }

/-- R76: a shaft fault before its report: latched, the drive off, the case unit told. -/
def State.struck (s : State) (c : ShaftCause) : State :=
  ((s.latch .shaftFault
    (b1 c.code ++ b1 s.shaft.state.code ++ o2 (if s.shaft.refValid then some s.shaft.angle else none) ++ b2 s.shaft.sMeas)).modShaft
      fun h => h.faulted c (s.player.state == .idle)).modCase fun n => n.faulted s.shaft.state

section
variable {s : State} (c : ShaftCause)

theorem State.struck_reported_shaft : ((s.struck c).reportFault .shaft).shaft = s.shaft.faulted c (s.player.state == .idle) := by
  have hshaft : (s.struck c).shaft = s.shaft.faulted c (s.player.state == .idle) := by simp [State.struck]
  have hbrake : (s.struck c).shaft.brake = (s.struck c).shaft := by
    rw [hshaft]
    exact Shaft.brake_of_fault rfl rfl rfl
  obtain h | h := (s.struck c).reportFault_shaft .shaft
  · exact h.trans hshaft
  · exact h.trans (hbrake.trans hshaft)

theorem State.shaftFault_eq : s.shaftFault c =
    if s.shaft.still && s.player.state == .idle then ((s.struck c).reportFault .shaft).enterOff
    else (s.struck c).reportFault .shaft := by
  have hflags : (((s.struck c).reportFault .shaft).shaft.faultStill && ((s.struck c).reportFault .shaft).shaft.toOff) =
      (s.shaft.still && s.player.state == .idle) := by
    rw [State.struck_reported_shaft]
    rfl
  rw [← hflags]
  have hstruck : ((s.latch .shaftFault
      (b1 c.code ++ b1 s.shaft.state.code ++ o2 (if s.shaft.refValid then some s.shaft.angle else none) ++ b2 s.shaft.sMeas)).modShaft
        fun h => { h.noDemand.dropKept with
          state := .fault, phase := .creep, cause := some c, faultStill := h.still, toOff := s.player.state == .idle }).modCase
            (fun n => n.faulted s.shaft.state) = s.struck c := by
    rw [State.struck]
    simp only [Shaft.faulted]
  rw [State.shaftFault]
  simp only [hstruck]

/-- R76, R69: a shaft found faulty is in FAULT, or in OFF where no RECOVER can follow. -/
theorem State.shaftFault_of_still (hs : s.shaft.still = true) (hi : s.player.state = .idle) :
    s.shaftFault c = ((s.struck c).abandonSewing).enterOff := by
  have hplayer : (s.struck c).player = s.player := by simp [State.struck]
  rw [State.shaftFault_eq, if_pos (by simp [hs, hi]), State.reportFault_of_idle _ (by rw [hplayer]; exact hi)]

theorem State.shaftFault_of_not (h : ¬(s.player.state = .idle ∧ s.shaft.still = true)) :
    s.shaftFault c = (s.struck c).reportFault .shaft := by
  rw [State.shaftFault_eq, if_neg]
  simpa [and_comm] using h

theorem State.shaftFault_parts :
    ((s.shaftFault c).shaft.state = .fault ∨ (s.shaftFault c).shaft.state = .off) ∧
      (s.shaftFault c).player = ((s.struck c).reportFault .shaft).player ∧
      (s.shaftFault c).nc = ((s.struck c).reportFault .shaft).nc ∧
      (s.shaftFault c).frame = ((s.struck c).reportFault .shaft).frame ∧
      (s.shaftFault c).ev = ((s.struck c).reportFault .shaft).ev ∧
      (s.shaftFault c).gov.move = none ∧
      (s.shaftFault c).shaft.angle = s.shaft.angle ∧ (s.shaftFault c).shaft.sMeas = s.shaft.sMeas ∧
      (s.shaftFault c).shaft.driveReady = s.shaft.driveReady ∧ (s.shaftFault c).shaft.demand = 0 ∧
      (s.shaftFault c).shaft.keptHold = false ∧ (s.shaftFault c).shaft.keptTurn = false ∧
      (s.shaftFault c).shaft.still = s.shaft.still := by
  have hmove := (s.struck c).reportFault_gov_move (c := .shaft) nofun
  have hshaft := State.struck_reported_shaft (s := s) c
  rw [State.shaftFault_eq]
  split
  · simp only [State.enterOff_keeps, State.enterOff_gov_move, hmove, true_and]
    refine ⟨Or.inr rfl, ?_⟩
    simp [State.enterOff, hshaft, Shaft.faulted, Shaft.noDemand, Shaft.dropKept]
  · rw [hshaft]
    simp [hmove, Shaft.faulted, Shaft.noDemand, Shaft.dropKept]

theorem State.struck_latched : ∀ t, (s.struck c).Latches t → t.ev.flags &&& Event.shaftFault.bit ≠ 0 := fun _ h =>
  State.Latches.latched (State.Latches.trans (State.Latches.of_ev_eq rfl) h)

theorem State.shaftFault_latched : (s.shaftFault c).ev.flags &&& Event.shaftFault.bit ≠ 0 := by
  rw [(State.shaftFault_parts c).2.2.2.2.1]
  exact State.struck_latched c _ (State.Latches.reportFault _ _)

/-- R76: after a shaft fault nothing can begin. -/
theorem State.shaftFault_quiet (h : s.player.errand = .none ∨
    (s.player.state ≠ .idle ∧ ∀ k : HaltCause, s.player.state ≠ .halted k)) : (s.shaftFault c).quiet = true := by
  have hplayer : (s.struck c).player = s.player := by simp [State.struck]
  obtain ⟨hstate, hp, -⟩ := State.shaftFault_parts (s := s) c
  refine State.quiet_of_not_held ?_ ?_
  · rcases hstate with h | h <;> simp [h]
  · rw [hp]
    exact State.reportFault_errand _ _ (by rw [hplayer]; exact h)

/-- R76, R42: the player after a shaft fault. -/
theorem State.shaftFault_fault (h : ¬(s.player.state = .idle ∧ s.shaft.still = true)) :
    (s.shaftFault c).shaft.state = .fault ∧ (s.shaftFault c).shaft.cause = some c := by
  rw [State.shaftFault_of_not c h, State.struck_reported_shaft]
  exact ⟨rfl, rfl⟩

end

/-! ### The index pulse (R65, R66) -/

theorem exec_indexPulse (forward : Bool) (period : Nat) (s : State) :
    exec (.indexPulse forward period) s = .next (s.event fun t => t.index forward period) := rfl

theorem exec_speedTimeout (s : State) :
    exec .speedTimeout s = .next (s.event fun t => t.modShaft fun h => { h with sMeas := 0 }) := rfl

/-- A change of the shaft unit that keeps its state begins nothing. -/
theorem State.quiet_modShaft {s : State} {f : Shaft → Shaft} (hq : s.quiet = true) (hf : (f s.shaft).state = s.shaft.state) :
    (s.modShaft f).quiet = true :=
  (State.quiet_congr s (s.modShaft f) rfl hf.symm rfl rfl rfl).symm.trans hq

theorem indexDistance_le_two (angle : Nat) : indexDistance angle ≤ 2 ↔ angle ≤ 2 ∨ 1022 ≤ angle := by
  unfold indexDistance
  omega

theorem Shaft.driveEnable_iff (h : Shaft) : h.driveEnable = true ↔
    h.state = .held ∨ h.state = .offPosition ∨ h.state = .turning ∨ h.state = .positioning := by
  unfold Shaft.driveEnable
  cases h.state <;> simp

theorem Shaft.measure_eq (h : Shaft) (forward : Bool) (period : Nat) : h.measure forward period = { h with
    indexForward := forward
    sMeas := if forward = false then 0
      else if h.indexForward = false then h.sMeas
      else if period ≤ 2000000 then 60000000 / period else 0 } := by
  cases forward <;> cases hf : h.indexForward <;> simp [Shaft.measure, hf]

/-- Settles O57. -/
theorem indexSetsAngleAndSpeed : Obligations.IndexSetsAngleAndSpeed := by
  intro s forward period hheld hq hperiod measured enabled near
  have hmeasured : (s.modShaft fun h => h.measure forward period) = { s with shaft := measured } := by
    rw [State.modShaft, Shaft.measure_eq]
  have hindex (t : State) (ht : s.index forward period = t) (hquiet : t.quiet = true) :
      exec (.indexPulse forward period) s = .next t := by
    rw [exec_indexPulse, s.event_quiet _ hheld (by rw [ht]; exact hquiet), ht]
  refine ⟨fun href => hindex _ ?_ ?_, fun href hnear => hindex _ ?_ ?_, fun href hfar hen he => ⟨_, hindex _ rfl ?_, ?_⟩, ?_⟩
  · rw [State.index, hmeasured]
    exact if_pos (by simp [href])
  · exact State.quiet_modShaft (f := fun h => { measured with angle := 0, refValid := true }) hq rfl
  · rw [State.index, hmeasured]
    refine (if_neg (by simp [href])).trans (if_pos ?_)
    rw [indexDistance_le_two]
    refine hnear.imp id fun h => ?_
    rw [Bool.not_eq_true', ← Bool.not_eq_true, Shaft.driveEnable_iff]
    exact h
  · exact State.quiet_modShaft (f := fun h => { measured with angle := 0 }) hq rfl
  all_goals
    have hfault (href : s.shaft.refValid = true) (hfar : ¬near) (hen : enabled) :
        s.index forward period = State.shaftFault { s with shaft := measured } .index := by
      rw [State.index, hmeasured]
      refine (if_neg (by simp [href])).trans (if_neg ?_)
      rw [indexDistance_le_two, Bool.not_eq_true', ← Bool.not_eq_true, Shaft.driveEnable_iff]
      exact fun h => h.elim hfar (fun h => h hen)
  · rw [hfault href hfar hen]
    exact State.shaftFault_quiet _ (Or.inl he)
  · rw [hfault href hfar hen]
    obtain ⟨-, -, -, -, -, -, hangle, hmeas, -⟩ := State.shaftFault_parts (s := { s with shaft := measured }) .index
    exact ⟨State.shaftFault_latched _, hangle, hmeas, fun hs =>
      State.shaftFault_fault _ fun h => Bool.false_ne_true (hs.symm.trans h.2)⟩
  · rw [exec_speedTimeout, s.event_quiet _ hheld (State.quiet_modShaft hq rfl)]
    rfl

/-! ### The E-STOP line (R167) -/

theorem exec_estopAssertion (s : State) : exec .estopAssertion s = .next ((s.rawLine 32 false).event State.estopAssert) := rfl

theorem exec_estopRelease (s : State) : exec .estopRelease s = .next ((s.rawLine 32 true).event State.estopReleaseNow) := rfl

/-- R96: no frame move is in flight once it has been finished. -/
theorem State.finishMove_samePlace (s : State) (abort : Option AbortCause) :
    s.frame.SamePlace (s.finishMove abort).frame ∧ (s.finishMove abort).frame.move = none := by
  rw [State.finishMove_frame]
  split
  · simp [Frame.SamePlace]
  · rename_i h
    exact ⟨.refl _, by simpa using h⟩

/-- R93: the frame as it stops at once: no move is in flight, and trust is lost with the steps. -/
theorem State.stopFrame_frame (s : State) (cause : AbortCause) : (s.stopFrame cause).frame.move = none ∧
    (s.stopFrame cause).frame.x = s.frame.x ∧ (s.stopFrame cause).frame.y = s.frame.y ∧
    (s.stopFrame cause).frame.known = (s.frame.known && s.gov.move.isNone && !(s.frame.move.map FrameMove.losesSteps).getD false) ∧
    (s.stopFrame cause).gov.move = none := by
  have hknown : (s.frame.known && !(s.gov.move.isSome || (s.frame.move.map FrameMove.losesSteps).getD false)) =
      (s.frame.known && s.gov.move.isNone && !(s.frame.move.map FrameMove.losesSteps).getD false) := by
    cases s.gov.move <;> simp
  rw [State.stopFrame, State.abandonSewing_gov, State.abandonSewing_frame]
  obtain ⟨hfinished, hnone⟩ := (s.modFrame fun f =>
    { f with known := f.known && !(s.gov.move.isSome || (s.frame.move.map FrameMove.losesSteps).getD false) }).finishMove_samePlace
      (some cause)
  obtain ⟨hx, hy, hk, -, -, hmove⟩ := hfinished.trans (Frame.unsewn_samePlace _ ((s.modFrame fun f =>
    { f with known := f.known && !(s.gov.move.isSome || (s.frame.move.map FrameMove.losesSteps).getD false) }).finishMove
      (some cause)).gov.move.isSome)
  exact ⟨(Frame.unsewn_move _ _).trans hnone, hx, hy, hk.trans hknown, rfl⟩

theorem State.Latches.stopFrame (s : State) (cause : AbortCause) : s.Latches (s.stopFrame cause) := by
  have hknown : s.Latches (s.modFrame fun f =>
      { f with known := f.known && !(s.gov.move.isSome || (s.frame.move.map FrameMove.losesSteps).getD false) }) := .of_ev_eq rfl
  exact hknown.trans (.trans (.finishMove _ (some cause)) (.of_ev_eq (by simp [State.stopFrame])))

/-- R167: the blocks as the assertion finds and stops them, before the player is told. -/
def State.estopStopped (s : State) : State := ((s.stopFrame .estop).brakeRequest).modCase NeedleCase.abandon

theorem State.estopReports_eq (s : State) : s.estopReports = s.estopStopped.reportFault .estop := rfl

@[simp] theorem State.estopStopped_keeps (s : State) :
    s.estopStopped.pending = s.pending ∧ s.estopStopped.straps = s.straps ∧ s.estopStopped.resetHeld = s.resetHeld ∧
      s.estopStopped.store = s.store ∧ s.estopStopped.player = s.player ∧ s.estopStopped.shaft = s.shaft.brake ∧
      s.estopStopped.nc = s.nc.abandon ∧ s.estopStopped.outs.hold = s.outs.hold ∧ s.estopStopped.gov.move = none := by
  simp [State.estopStopped, State.brakeRequest_shaft, State.brakeRequest_outs, State.brakeRequest_nc_abandon, State.stopFrame_frame]

/-- R69, R83: what a report of ESTOP leaves, whatever the player's state. -/
theorem State.estopReports_parts (s : State) :
    s.estopReports.shaft.state = s.shaft.state.braked s.shaft.still ∧ s.estopReports.shaft.keptHold = false ∧
      s.estopReports.shaft.keptTurn = false ∧ s.estopReports.nc.kept = none ∧ s.estopReports.nc.state ≠ .moving ∧
      s.estopReports.nc.state ≠ .settling ∧ s.estopReports.gov.move = none ∧ s.estopReports.outs.hold = s.outs.hold ∧
      s.estopReports.frame.move = none ∧ s.estopReports.frame.x = s.frame.x ∧ s.estopReports.frame.y = s.frame.y ∧
      s.estopReports.frame.known =
        (s.frame.known && s.gov.move.isNone && !(s.frame.move.map FrameMove.losesSteps).getD false) := by
  rw [State.estopReports_eq]
  obtain ⟨-, -, -, -, -, hshaft, hnc, hhold, -⟩ := s.estopStopped_keeps
  obtain ⟨hstill, hx, hy, hknown, -⟩ := s.stopFrame_frame .estop
  have hframe : s.estopStopped.frame = (s.stopFrame .estop).frame := by simp [State.estopStopped]
  obtain ⟨hx', hy', hknown', -, -, hmove⟩ := s.estopStopped.reportFault_samePlace .estop
  rw [hframe] at hx' hy' hknown' hmove
  refine ⟨?_, ?_, ?_, State.reportFault_kept _ _ (Or.inl (by rw [hnc]; rfl)), ?_, ?_, State.reportFault_gov_move _ nofun,
    (State.reportFault_hold _ _).trans hhold, hmove hstill, hx'.trans hx, hy'.trans hy, hknown'.trans hknown⟩
  · obtain h | h := s.estopStopped.reportFault_shaft .estop <;> rw [h, hshaft]
    · exact Shaft.brake_state _
    · rw [Shaft.brake_state, Shaft.brake_state, s.shaft.brake_keeps.2.2.2.1, ShaftState.braked_braked]
  · obtain h | h := s.estopStopped.reportFault_shaft .estop <;> rw [h, hshaft] <;> simp
  · obtain h | h := s.estopStopped.reportFault_shaft .estop <;> rw [h, hshaft] <;> simp
  all_goals obtain h | h := s.estopStopped.reportFault_nc .estop <;> rw [h, hnc]
  · exact s.nc.abandon_at_rest.1
  · exact s.nc.abandon.abandon_at_rest.1
  · exact s.nc.abandon_at_rest.2
  · exact s.nc.abandon.abandon_at_rest.2

/-- R167: the assertion of a line that was not asserted, as its own latching and the reports to the blocks. -/
def State.estopLatched (s : State) : State :=
  { s with ev := { s.ev with estopRaw := false, estop := some false } }.latch .estop
    (b1 s.player.state.code ++ bFlag s.frameMoving)

theorem State.estopAssert_eq {s : State} (h : s.ev.estop ≠ some false) :
    (s.rawLine 32 false).estopAssert = s.estopLatched.estopReports := if_neg h

@[simp] theorem State.estopLatched_keeps (s : State) :
    s.estopLatched.pending = s.pending ∧ s.estopLatched.straps = s.straps ∧ s.estopLatched.resetHeld = s.resetHeld ∧
      s.estopLatched.store = s.store ∧ s.estopLatched.player = s.player ∧ s.estopLatched.gov = s.gov ∧
      s.estopLatched.shaft = s.shaft ∧ s.estopLatched.outs = s.outs ∧ s.estopLatched.frame = s.frame ∧
      s.estopLatched.nc = s.nc := by
  simp [State.estopLatched]

theorem State.Latches.estopReports (s : State) : s.Latches s.estopReports := by
  rw [State.estopReports_eq]
  refine .trans (.stopFrame s .estop) (.trans (.of_ev_eq ?_) (.reportFault s.estopStopped .estop))
  simp [State.estopStopped]

/-- R79, R83: while the E-STOP line is asserted every needle bar is held. -/
theorem State.holdValue_of_estop {s : State} (hheld : s.resetHeld = false) (h : s.ev.estop = some false) {n : Nat} {o : Output}
    (ho : s.outs.hold[n]? = some o) : s.holdValue (n + 1) = some true := by
  have hkill : s.killEffect = true := by simp [State.killEffect, State.estop, hheld, h]
  rw [State.holdValue, Nat.add_sub_cancel, ho, hkill]
  rfl

/-- Settles O50. -/
theorem estopLineStopsEverything : Obligations.EstopLineStopsEverything := by
  intro s hheld hq
  refine ⟨fun hasserted => ?again, ?release, fun hnot hsews => ?assertion⟩
  case again =>
    have hkept : (s.rawLine 32 false).estopAssert = { s with ev := { s.ev with estopRaw := false } } := if_pos hasserted
    rw [exec_estopAssertion, State.event_quiet (s.rawLine 32 false) _ hheld, hkept]
    rw [hkept]
    exact (State.modEv_quiet s fun e => { e with estopRaw := false }).trans hq
  case release =>
    have hreleased : (s.rawLine 32 true).estopReleaseNow =
      s.modEv fun e => { e with estopRaw := true, estop := some true } := rfl
    rw [exec_estopRelease, State.event_quiet (s.rawLine 32 true) _ hheld, hreleased]
    · rfl
    · rw [hreleased]
      exact (State.modEv_quiet s _).trans hq
  case assertion =>
    obtain ⟨hp, hst, hrh, hstore, hplayer, hgov, hshaft, houts, hframe, hnc⟩ := s.estopLatched_keeps
    obtain ⟨hstate, hhold, hturn, hkept, hmoving, hsettling, hsewing, hbars, hmove, hx, hy, hknown⟩ :=
      s.estopLatched.estopReports_parts
    obtain ⟨hp', hst', hrh', hstore', hplayer', -⟩ := s.estopLatched.estopStopped_keeps
    have hreport := s.estopLatched.estopReports_eq
    have hcalm : s.estopLatched.estopReports.player.errand = .none := by
      rw [hreport]
      exact State.reportFault_errand _ _ (by rw [hplayer', hplayer]; exact hsews)
    have hlatches := State.Latches.estopReports s.estopLatched
    have hset : s.estopLatched.ev = { s.ev with
        estopRaw := false, estop := some false, flags := s.ev.flags ||| Event.estop.bit } := State.latch_flags _ _ _
    obtain ⟨more, hev⟩ := id hlatches
    rw [hset] at hev
    have hquiet := State.quiet_of_no_kept hkept hcalm
    rw [← State.estopAssert_eq hnot] at hquiet
    refine ⟨_, by rw [exec_estopAssertion, State.event_quiet (s.rawLine 32 false) _ hheld hquiet, State.estopAssert_eq hnot], ?_⟩
    refine ⟨by rw [hev], by rw [hev], State.Latches.latched hlatches, by rw [hev], by rw [hev], fun n o ho => ?_, hmove, hsewing,
      by rw [hx, hframe], by rw [hy, hframe], by rw [hknown, hframe, hgov], hkept, hmoving, hsettling, ?_, hhold, hturn,
      fun hi => ?_, fun c hc => ?_, fun hi hh => ?_, ?_, ?_, ?_⟩
    · refine State.holdValue_of_estop ?_ (by rw [hev]) (by rw [hbars, houts]; exact ho)
      rw [hreport]
      simp [hheld]
    · rw [hstate, hshaft]
      cases s.shaft.state <;> rfl
    · rw [hreport, State.reportFault_of_idle _ (by rw [hplayer', hplayer]; exact hi)]
      simp
    · rw [hreport, State.reportFault_of_halted _ (by rw [hplayer', hplayer]; exact hc),
        State.haltAgain_player _ .estop (by rw [hplayer', hplayer]; exact hc) nofun, hplayer', hplayer]
    · rw [hreport, State.reportFault_enters (by rw [hplayer', hplayer]; exact hi) (by rw [hplayer', hplayer]; exact hh)]
      rw [State.enterHalted_player, hplayer', hplayer]
      exact ⟨rfl, State.enterHalted_kill_of_kills _ _ rfl, rfl, rfl, State.Latches.enterHalted_latched _ _⟩
    all_goals
      rw [hreport]
      simp

end Sys2Proof.Machine
end

section
/-! PROOF. Axis faults and case faults, the drive-ready lines and the LIMIT inputs (O55). -/

namespace Sys2Proof.Machine

/-! ### Axis faults (R88) -/

/-- R88: trust is lost and AXIS_FAULT latches. -/
def State.axisLatched (s : State) (c : AxisCause) : State :=
  (s.modFrame fun f => { f with known := false }).latch .axisFault
    (b1 c.code ++ o1 s.moveKind ++ sBytes4 s.frame.x ++ sBytes4 s.frame.y)

/-- R88: the frame unit in an axis fault, before the player is told. -/
def State.axisStopped (s : State) (c : AxisCause) : State :=
  ((s.axisLatched c).finishMove (some (.axis c))).abandonSewing

theorem State.axisFault_of_claimed {s : State} (c : AxisCause) (h : s.frame.claimed = true) :
    s.axisFault c = (s.axisStopped c).reportFault .axis := if_pos h

theorem State.axisFault_of_not {s : State} (c : AxisCause) (h : s.frame.claimed = false) : s.axisFault c = s.axisStopped c :=
  if_neg (by simp [h])

section
variable (s : State) (c : AxisCause)

@[simp] theorem State.axisStopped_keeps :
    (s.axisStopped c).pending = s.pending ∧ (s.axisStopped c).store = s.store ∧ (s.axisStopped c).player = s.player ∧
      (s.axisStopped c).shaft = s.shaft ∧ (s.axisStopped c).outs = s.outs ∧ (s.axisStopped c).nc = s.nc ∧
      (s.axisStopped c).gov.move = none := by
  simp [State.axisStopped, State.axisLatched, State.abandonSewing_gov]

/-- R88: trust is lost and nothing moves; the frame stays where it is. -/
theorem State.axisStopped_frame : (s.axisStopped c).frame.known = false ∧ (s.axisStopped c).frame.move = none ∧
    (s.axisStopped c).frame.x = s.frame.x ∧ (s.axisStopped c).frame.y = s.frame.y ∧
    (s.axisStopped c).frame.readyX = s.frame.readyX ∧ (s.axisStopped c).frame.readyY = s.frame.readyY := by
  have hlatched : (s.axisLatched c).frame = { s.frame with known := false } := by simp [State.axisLatched]
  obtain ⟨hfinished, hnone⟩ := (s.axisLatched c).finishMove_samePlace (some (.axis c))
  rw [State.axisStopped, State.abandonSewing_frame]
  obtain ⟨hx, hy, hk, hrx, hry, hmove⟩ := hfinished.trans (Frame.unsewn_samePlace _ _)
  rw [hlatched] at hx hy hk hrx hry
  exact ⟨hk, (Frame.unsewn_move _ _).trans hnone, hx, hy, hrx, hry⟩

theorem State.Latches.axisStopped : (s.axisLatched c).Latches (s.axisStopped c) :=
  (State.Latches.finishMove _ (some (.axis c))).trans (.of_ev_eq (by simp [State.axisStopped]))

/-- R97: the end of a move latches FRAME_DONE. -/
theorem State.Latches.finishMove_latched {s t : State} {m : FrameMove} {abort : Option AbortCause} (hm : s.frame.move = some m)
    (h : (s.finishMove abort).Latches t) : t.ev.flags &&& Event.frameDone.bit ≠ 0 := by
  rw [State.finishMove_eq hm] at h
  exact State.Latches.latched h

theorem State.axisStopped_latched {t : State} (h : (s.axisStopped c).Latches t) :
    t.ev.flags &&& Event.axisFault.bit ≠ 0 ∧
      (s.frame.move.isSome = true → t.ev.flags &&& Event.frameDone.bit ≠ 0) := by
  refine ⟨State.Latches.latched ((State.Latches.axisStopped s c).trans h), fun hm => ?_⟩
  obtain ⟨m, hm⟩ := Option.isSome_iff_exists.1 hm
  have hstill : (s.axisLatched c).frame.move = some m := by simp [State.axisLatched, hm]
  exact State.Latches.finishMove_latched (abort := some (.axis c)) hstill (.trans (.of_ev_eq (by simp [State.axisStopped])) h)

end

/-- R88, R42: what an axis fault makes of a state, whatever it was found in. -/
structure State.AxisFaulted (s t : State) : Prop where
  known : t.frame.known = false
  still : t.frame.move = none
  unsewn : t.gov.move = none
  latched : t.ev.flags &&& Event.axisFault.bit ≠ 0
  x : t.frame.x = s.frame.x
  y : t.frame.y = s.frame.y
  done : s.frame.move.isSome = true → t.ev.flags &&& Event.frameDone.bit ≠ 0
  stays : (s.frame.claimed = false ∨ s.player.state = .idle ∨ ∃ k : HaltCause, s.player.state = .halted k) →
    t.player.state = s.player.state
  halts : s.frame.claimed = true → s.player.state ≠ .idle → (∀ k : HaltCause, s.player.state ≠ .halted k) →
    t.player = s.player.halt .axis
  readyX : t.frame.readyX = s.frame.readyX
  readyY : t.frame.readyY = s.frame.readyY

theorem State.axisFault_axisFaulted (s : State) (c : AxisCause) : s.AxisFaulted (s.axisFault c) := by
  obtain ⟨hknown, hmove, hx, hy, hrx, hry⟩ := s.axisStopped_frame c
  obtain ⟨-, -, hplayer, -, -, -, hsewing⟩ := s.axisStopped_keeps c
  cases hc : s.frame.claimed with
  | false =>
    rw [State.axisFault_of_not c hc]
    obtain ⟨hlatched, hdone⟩ := s.axisStopped_latched c (.refl _)
    exact ⟨hknown, hmove, hsewing, hlatched, hx, hy, hdone, fun _ => congrArg Player.state hplayer,
      fun h => absurd (hc.symm.trans h) Bool.false_ne_true, hrx, hry⟩
  | true =>
    rw [State.axisFault_of_claimed c hc]
    obtain ⟨hlatched, hdone⟩ := s.axisStopped_latched c (State.Latches.reportFault _ .axis)
    obtain ⟨hx', hy', hknown', hrx', hry', hmove'⟩ := (s.axisStopped c).reportFault_samePlace .axis
    refine ⟨hknown'.trans hknown, hmove' hmove, State.reportFault_gov_move _ nofun, hlatched, hx'.trans hx, hy'.trans hy, hdone,
      fun h => ?_, fun _ hi hh => ?_, hrx'.trans hrx, hry'.trans hry⟩
    · obtain h | hi | ⟨k, hk⟩ := h
      · exact absurd (hc.symm.trans h) (Bool.false_ne_true ·.symm)
      · rw [State.reportFault_of_idle _ (by rw [hplayer]; exact hi)]
        simp
      · rw [State.reportFault_of_halted _ (by rw [hplayer]; exact hk),
          State.haltAgain_player _ .axis (by rw [hplayer]; exact hk) nofun, hplayer]
    · rw [State.reportFault_enters (by rw [hplayer]; exact hi) (by rw [hplayer]; exact hh), State.enterHalted_player, hplayer]

/-- R88: after an axis fault nothing can begin, where nothing waited before or the player has halted. -/
theorem State.axisFault_quiet {s : State} (c : AxisCause)
    (h : (s.player.errand = .none ∧ s.nc.kept = none) ∨ (s.frame.claimed = true ∧ s.player.state ≠ .idle ∧
      ∀ k : HaltCause, s.player.state ≠ .halted k)) : (s.axisFault c).quiet = true := by
  obtain ⟨-, -, hplayer, -, -, hnc, -⟩ := s.axisStopped_keeps c
  cases hc : s.frame.claimed with
  | false =>
    obtain ⟨he, hk⟩ := h.resolve_right fun h => Bool.false_ne_true (hc.symm.trans h.1)
    rw [State.axisFault_of_not c hc]
    exact State.quiet_of_no_kept (by rw [hnc]; exact hk) (by rw [hplayer]; exact he)
  | true =>
    rw [State.axisFault_of_claimed c hc]
    refine State.quiet_of_no_kept (State.reportFault_kept _ _ ?_) (State.reportFault_errand _ _ ?_)
    · rw [hnc, hplayer]
      exact h.imp And.right And.right
    · rw [hplayer]
      exact h.imp And.left And.right

theorem Frame.claimed_iff (f : Frame) : f.claimed = true ↔ f.owner = .player ∨ (f.owner = .positioner ∧ f.lent = true) := by
  unfold Frame.claimed
  cases f.owner <;> simp

/-! ### Case faults (R112) -/

section
variable (s : State) (c : CaseCause)

/-- R112: the state in which a case fault is reported to the player. -/
def State.caseFailed : State :=
  (s.latch .caseFault (b1 c.code ++ o1 (s.nc.job.map CaseJob.target) ++ b1 s.nc.pos ++ o1 s.nc.lastSeen)).modCase fun n => n.fail c

theorem State.caseFault_eq : s.caseFault c = (s.caseFailed c).reportFault .needleCase := rfl

@[simp] theorem State.caseFailed_keeps :
    (s.caseFailed c).player = s.player ∧ (s.caseFailed c).shaft = s.shaft ∧ (s.caseFailed c).outs = s.outs ∧
      (s.caseFailed c).frame = s.frame ∧ (s.caseFailed c).gov = s.gov ∧ (s.caseFailed c).nc = s.nc.fail c ∧
      (s.caseFailed c).thread = s.thread ∧ (s.caseFailed c).heads = s.heads := by
  simp [State.caseFailed]

theorem State.caseFault_nc : (s.caseFault c).nc = s.nc.fail c := by
  rw [State.caseFault_eq]
  obtain h | h := (s.caseFailed c).reportFault_nc .needleCase <;> rw [h, (s.caseFailed_keeps c).2.2.2.2.2.1]
  simp [NeedleCase.abandon, NeedleCase.endMove, NeedleCase.fail]

theorem State.caseFault_gov_move : (s.caseFault c).gov.move = none := State.reportFault_gov_move _ nofun

theorem State.Latches.caseFailed : (s.latch .caseFault
    (b1 c.code ++ o1 (s.nc.job.map CaseJob.target) ++ b1 s.nc.pos ++ o1 s.nc.lastSeen)).Latches (s.caseFault c) := by
  rw [State.caseFault_eq]
  exact .trans (.of_ev_eq rfl) (.reportFault _ _)

theorem State.caseFault_latched : (s.caseFault c).ev.flags &&& Event.caseFault.bit ≠ 0 :=
  State.Latches.latched (State.Latches.caseFailed s c)

/-- R112: a case fault drops what is kept, and a halted player waits for nothing. -/
theorem State.caseFault_quiet {s : State} (c : CaseCause) (h : s.player.errand = .none ∨
    (s.player.state ≠ .idle ∧ ∀ k : HaltCause, s.player.state ≠ .halted k)) : (s.caseFault c).quiet = true := by
  refine State.quiet_of_no_kept (by rw [State.caseFault_nc]; rfl) ?_
  rw [State.caseFault_eq]
  exact State.reportFault_errand _ _ (by simpa using h)

end

theorem NeedleCase.faulted_kept {c : NeedleCase} (h : c.kept = none) (found : ShaftState) : (c.faulted found).kept = none := by
  have hend : c.endMove.kept = none := by
    unfold NeedleCase.endMove
    split <;> simp [NeedleCase.complete, h]
  cases found
  case held => rfl
  case offPosition => rfl
  all_goals exact hend

theorem NeedleCase.faulted_at_rest (c : NeedleCase) (found : ShaftState) :
    (c.faulted found).state ≠ .moving ∧ (c.faulted found).state ≠ .settling := by
  have hend : c.endMove.state ≠ .moving ∧ c.endMove.state ≠ .settling := by
    cases h : c.state <;> simp [NeedleCase.endMove, NeedleCase.complete, h]
  cases found
  case held => exact c.abandon_at_rest
  case offPosition => exact c.abandon_at_rest
  all_goals exact hend

/-- R93, R97: an entry to HALTED that stops a move at once latches FRAME_DONE. -/
theorem State.Latches.enterHalted_frameDone {s : State} {c : HaltCause} {a : AbortCause} (ha : c.abort = some a) (hc : c ≠ .overrun)
    (h : (s.frame.unsewn s.gov.move.isSome).stopsAtOnce = true) : (s.enterHalted c).ev.flags &&& Event.frameDone.bit ≠ 0 := by
  have hframe : ((s.haltPlayer c).haltMachine c).frame = s.frame.unsewn s.gov.move.isSome := by
    simp [State.haltMachine_frame, hc]
  have hslow : ((s.haltPlayer c).haltMachine c).haltFrame c = ((s.haltPlayer c).haltMachine c).slowMove a := by
    simp only [State.haltFrame, ha]
  have hdone := ((s.haltPlayer c).haltMachine c).slowMove_ev a
  rw [hframe, h, if_pos rfl, ← hslow] at hdone
  have hlatches : (((s.haltPlayer c).haltMachine c).haltFrame c).Latches (s.enterHalted c) := by
    rw [State.enterHalted_eq]
    exact .trans (.of_ev_eq (t := (((((s.haltPlayer c).haltMachine c).haltFrame c).haltKill c).lend)) (by simp)) (.latch _ _ _)
  obtain ⟨more, hmore⟩ := hlatches
  refine BitVec.and_ne_zero_of_or (Event.bit_ne_zero .frameDone)
    ⟨((s.haltPlayer c).haltMachine c).ev.flags ||| more, ?_⟩
  rw [hmore, hdone]
  ac_rfl

/-! ### LIMIT inputs (R88, R166) -/

theorem exec_inputFilterSettled (n : Nat) (s : State) :
    exec (.inputFilterSettled n) s = .next (s.event fun t => t.settleInput n) := rfl

/-- R163: the latch of an input without a machine function of its own changes the event unit alone. -/
theorem State.latchInput_keeps (s : State) {n : Nat} (hn : 12 ≤ n) (i : Input) :
    (s.latchInput n i).player = s.player ∧ (s.latchInput n i).nc = s.nc ∧ (s.latchInput n i).frame = s.frame ∧
      (s.latchInput n i).gov = s.gov ∧ (s.latchInput n i).shaft = s.shaft ∧ (s.latchInput n i).heads = s.heads ∧
      (s.latchInput n i).outs = s.outs ∧ (s.latchInput n i).resetHeld = s.resetHeld := by
  unfold State.latchInput
  simp only [if_neg (Nat.not_lt.2 hn)]
  split <;> simp [State.modInput]

theorem State.latchLevel_keeps (s : State) {n : Nat} (hn : 12 ≤ n) :
    (s.latchLevel n).player = s.player ∧ (s.latchLevel n).nc = s.nc ∧ (s.latchLevel n).frame = s.frame ∧
      (s.latchLevel n).gov = s.gov ∧ (s.latchLevel n).shaft = s.shaft ∧ (s.latchLevel n).heads = s.heads ∧
      (s.latchLevel n).outs = s.outs ∧ (s.latchLevel n).resetHeld = s.resetHeld := by
  unfold State.latchLevel
  split
  · split
    · exact s.latchInput_keeps hn _
    · simp
  · simp

/-- R99: what a homing in flight sees of its switch changes its stage alone. -/
theorem State.homeInput_keeps (s : State) :
    s.homeInput.player = s.player ∧ s.homeInput.nc = s.nc ∧ s.homeInput.gov = s.gov ∧ s.homeInput.shaft = s.shaft ∧
      s.homeInput.frame = { s.frame with move := s.homeInput.frame.move } ∧
      s.homeInput.frame.move.isSome = s.frame.move.isSome := by
  have hkept {m : Option FrameMove} (hm : s.frame.move = m) : s.frame = { s.frame with move := m } := by rw [← hm]
  unfold State.homeInput
  split
  · rename_i h
    simp [h]
  · rename_i h
    rw [h]
    exact ⟨rfl, rfl, rfl, rfl, hkept h, rfl⟩
  · rename_i h
    rw [h]
    exact ⟨rfl, rfl, rfl, rfl, hkept h, rfl⟩

/-- R88: what the machine function of a LIMIT input sees of the state. -/
structure State.SameChain (s u : State) : Prop where
  player : u.player = s.player
  nc : u.nc = s.nc
  frame : u.frame = { s.frame with move := u.frame.move }
  moving : u.frame.move.isSome = s.frame.move.isSome

/-- R88, R166: a LIMIT input that becomes active is an axis fault. -/
theorem State.settleInput_limit {s : State} {n : Nat} {i : Input} (hlow : 26 ≤ n) (hhigh : n ≤ 29)
    (hi : s.ev.inputs[n]? = some i) (hlevel : i.level = some true) (hraw : i.raw = false)
    (hmode : i.mode = .falling ∨ i.mode = .levelLow) :
    ∃ (u : State) (c : AxisCause), s.settleInput n = u.axisFault c ∧ s.SameChain u := by
  obtain ⟨c, hc⟩ : ∃ c, limitCause n = some c := by
    have : n = 26 ∨ n = 27 ∨ n = 28 ∨ n = 29 := by omega
    obtain rfl | rfl | rfl | rfl := this <;> exact ⟨_, rfl⟩
  have hinactive : i.isActive = false := by rcases hmode with h | h <;> simp [Input.isActive, hlevel, h, InputMode.activeHigh]
  have hactive : ({ i with level := some i.raw } : Input).isActive = true := by
    rcases hmode with h | h <;> simp [Input.isActive, hraw, h, InputMode.activeHigh]
  have hfault (u : State) : u.activeChanged n true = u.homeInput.axisFault c := by
    have hswitch : u.followSwitch n true = u := if_neg (by omega)
    simp only [State.activeChanged, hswitch, if_true, State.becameActive, hc]
  have hchain (u : State) (hp : u.player = s.player) (hnc : u.nc = s.nc) (hf : u.frame = s.frame) : s.SameChain u.homeInput := by
    obtain ⟨hplayer, hcase, -, -, hframe, hmove⟩ := u.homeInput_keeps
    exact ⟨hplayer.trans hp, hcase.trans hnc, hframe.trans (by rw [hf]), hmove.trans (by rw [hf])⟩
  rw [State.settleInput, hi]
  simp only [State.takeLevel, hlevel, hraw, Bool.true_eq_false, if_false]
  rw [← hraw, if_neg (by rw [hactive, hinactive]; exact Bool.true_eq_false.mp), hactive, hfault]
  refine ⟨_, c, rfl, ?_⟩
  split
  · obtain ⟨hp, hnc, hf, -⟩ := (s.modInput n fun j => { j with level := some j.raw }).latchInput_keeps (n := n) (by omega)
      { i with level := some i.raw }
    exact hchain _ hp hnc hf
  · obtain ⟨hp, hnc, hf, -⟩ := (s.modInput n fun j => { j with level := some j.raw }).latchLevel_keeps (n := n) (by omega)
    exact hchain _ hp hnc hf

/-! ### The drive-ready lines (R75, R88) -/

theorem exec_axisDriveNotReady {s : State} (a : Axis) (h : s.resetHeld = false) :
    exec (.axisDriveNotReady a) s = .next (s.axisLost a).settle := by
  show Host.Outcome.next _ = _
  rw [h]
  rfl

theorem exec_shaftDriveNotReady {s : State} (h : s.resetHeld = false) :
    exec .shaftDriveNotReady s = .next s.driveLost.settle := by
  show Host.Outcome.next _ = _
  rw [h]
  rfl

/-- R88: what a fault sees of a state with the drive-ready line negated. -/
theorem State.AxisFaulted.congr {s u t : State} (h : u.AxisFaulted t) (hplayer : u.player = s.player)
    (hclaimed : u.frame.claimed = s.frame.claimed) (hmove : u.frame.move.isSome = s.frame.move.isSome)
    (hx : u.frame.x = s.frame.x) (hy : u.frame.y = s.frame.y) :
    let moving := match s.player.errand with
      | .leadMove => true
      | .returnMove _ => true
      | _ => false
    let claimed := s.frame.owner = .player ∨ (s.frame.owner = .positioner ∧ s.frame.lent = true)
    let sews := s.player.state ≠ .idle ∧ ∀ c : HaltCause, s.player.state ≠ .halted c
    t.frame.known = false ∧ t.frame.move = none ∧ t.gov.move = none ∧ t.ev.flags &&& Event.axisFault.bit ≠ 0 ∧
      t.frame.x = s.frame.x ∧ t.frame.y = s.frame.y ∧
      (s.frame.move.isSome = true → t.ev.flags &&& Event.frameDone.bit ≠ 0) ∧
      ((¬claimed ∨ ¬sews) → t.player.state = s.player.state) ∧
      (claimed → sews → t.player.state = .halted .axis ∧ t.player.queue = [] ∧ t.player.errand = .none ∧
        t.player.displaced = (s.player.displaced || s.player.active.isSome || moving)) := by
  intro moving claimed sews
  obtain ⟨hknown, hstill, hsewing, hlatched, hx', hy', hdone, hstays, hhalts, -⟩ := h
  rw [hplayer, hclaimed] at hstays hhalts
  refine ⟨hknown, hstill, hsewing, hlatched, hx'.trans hx, hy'.trans hy, fun hm => hdone (hmove.trans hm), fun h => hstays ?_,
    fun hc hs => ?_⟩
  · obtain h | h := h
    · exact Or.inl (by rw [← Bool.not_eq_true, Frame.claimed_iff]; exact h)
    · obtain hi | hk | hs := s.player.state.idle_or_halted_or
      · exact Or.inr (Or.inl hi)
      · exact Or.inr (Or.inr hk)
      · exact absurd hs h
  · rw [hhalts ((Frame.claimed_iff _).2 hc) hs.1 hs.2]
    have hmoving : s.player.errand.moving = moving := by
      dsimp only [moving]
      cases s.player.errand <;> rfl
    exact ⟨rfl, rfl, rfl, by rw [← hmoving]; rfl⟩

/-- Settles O55. -/
theorem driveLinesFaultOnce : Obligations.DriveLinesFaultOnce := by
  intro s hheld hq alone chained moving claimed sews axis
  have hchained (h : chained) : claimed ∧ sews := by
    refine ⟨Or.inl h.2, ?_⟩
    obtain h | h := h.1 <;> simp [sews, h]
  have faulted {u t : State} (h : u.AxisFaulted t) (hplayer : u.player = s.player)
      (hclaimed : u.frame.claimed = s.frame.claimed) (hmove : u.frame.move.isSome = s.frame.move.isSome)
      (hx : u.frame.x = s.frame.x) (hy : u.frame.y = s.frame.y) : axis t := h.congr hplayer hclaimed hmove hx hy
  have calm {u : State} (c : AxisCause) (hplayer : u.player = s.player) (hnc : u.nc = s.nc)
      (hclaimed : u.frame.claimed = s.frame.claimed) (h : alone ∨ chained) : (u.axisFault c).quiet = true := by
    refine State.axisFault_quiet c ?_
    rw [hplayer, hnc, hclaimed]
    exact h.imp id fun h => ⟨(Frame.claimed_iff _).2 (hchained h).1, (hchained h).2⟩
  refine ⟨fun hr => ?deadX, fun hr => ?deadY, fun hr h => ?lostX, fun hr h => ?lostY,
    fun n i hlow hhigh hi hlevel hraw hmode h => ?limit, ?readyX, ?readyY, ?readyShaft, fun h => ?unpowered, fun hstate h => ?shaft⟩
  case deadX => simp [exec_axisDriveNotReady _ hheld, State.axisLost, hr, State.settle_of_quiet _ hq]
  case deadY => simp [exec_axisDriveNotReady _ hheld, State.axisLost, hr, State.settle_of_quiet _ hq]
  case lostX =>
    have hlost : s.axisLost .x = (s.modFrame fun f => { f with readyX := false }).axisFault .driveX := if_pos hr
    have hfault := (s.modFrame fun f => { f with readyX := false }).axisFault_axisFaulted .driveX
    refine ⟨_, by rw [exec_axisDriveNotReady _ hheld, hlost,
      State.settle_of_quiet _ (calm (u := s.modFrame fun f => { f with readyX := false }) _ rfl rfl rfl h)], hfault.readyX,
      hfault.readyY, faulted hfault rfl rfl rfl rfl rfl⟩
  case lostY =>
    have hlost : s.axisLost .y = (s.modFrame fun f => { f with readyY := false }).axisFault .driveY := if_pos hr
    have hfault := (s.modFrame fun f => { f with readyY := false }).axisFault_axisFaulted .driveY
    refine ⟨_, by rw [exec_axisDriveNotReady _ hheld, hlost,
      State.settle_of_quiet _ (calm (u := s.modFrame fun f => { f with readyY := false }) _ rfl rfl rfl h)], hfault.readyY,
      hfault.readyX, faulted hfault rfl rfl rfl rfl rfl⟩
  case limit =>
    obtain ⟨u, c, hu, hp, hnc, hf, hm⟩ := State.settleInput_limit hlow hhigh hi hlevel hraw hmode
    have hclaimed : u.frame.claimed = s.frame.claimed := by rw [hf]; rfl
    refine ⟨_, by rw [exec_inputFilterSettled, s.event_quiet _ hheld (by rw [hu]; exact calm c hp hnc hclaimed h), hu],
      faulted (u.axisFault_axisFaulted c) hp hclaimed hm (by rw [hf]) (by rw [hf])⟩
  case readyX =>
    exact congrArg Host.Outcome.next ((State.event_quiet _ _ hheld ((State.quiet_congr (s.modFrame fun f => { f with readyX := true }) s
      rfl rfl rfl rfl rfl).trans hq)))
  case readyY =>
    exact congrArg Host.Outcome.next ((State.event_quiet _ _ hheld ((State.quiet_congr (s.modFrame fun f => { f with readyY := true }) s
      rfl rfl rfl rfl rfl).trans hq)))
  case readyShaft =>
    exact congrArg Host.Outcome.next (State.event_quiet (s.modShaft fun h => { h with driveReady := true }) _ hheld
      (State.quiet_modShaft hq rfl))
  case unpowered =>
    have hoff : ¬s.shaft.driveEnable = true := by
      rw [Shaft.driveEnable_iff]
      rintro (h' | h' | h' | h') <;> simp [h'] at h
    have hlost : s.driveLost = s.modShaft fun h => { h with driveReady := false } := if_neg hoff
    rw [exec_shaftDriveNotReady hheld, hlost, State.settle_of_quiet _ (State.quiet_modShaft hq rfl)]
    rfl
  case shaft =>
    obtain ⟨u, hu⟩ : ∃ u, u = s.modShaft fun h => { h with driveReady := false } := ⟨_, rfl⟩
    have hlost : s.driveLost = u.shaftFault .drive := by
      rw [hu]
      exact if_pos ((Shaft.driveEnable_iff _).2 hstate)
    have hplayer : u.player = s.player := by simp [hu]
    have hstruck : (u.struck .drive).player = s.player := by simp [State.struck, hplayer]
    have hstill : u.shaft.still = s.shaft.still := by simp [hu]
    obtain ⟨hst, hp, hnc, hframe, hev, hmove, -, -, hready, hdemand, hhold, hturn, -⟩ := State.shaftFault_parts (s := u) .drive
    have hncu : (u.struck .drive).nc = s.nc.faulted s.shaft.state := by simp [State.struck, hu]
    have hquiet : (u.shaftFault .drive).quiet = true :=
      State.shaftFault_quiet .drive (by rw [hplayer]; exact h.imp And.left id)
    refine ⟨_, by rw [exec_shaftDriveNotReady hheld, hlost, State.settle_of_quiet _ hquiet], by rw [hready, hu]; rfl,
      State.shaftFault_latched _, hdemand, hhold, hturn, hmove, ?_, ?_, ?_, fun hn => State.shaftFault_fault _ ?_, fun hi hs => ?_,
      fun hi => ?_, fun hs => ?_⟩
    · rw [hnc]
      refine State.reportFault_kept _ _ ?_
      rw [hncu, hstruck]
      exact h.imp (fun h => NeedleCase.faulted_kept h.2 _) id
    · rw [hnc]
      obtain h | h := (u.struck .drive).reportFault_nc .shaft <;> rw [h, hncu]
      · exact (NeedleCase.faulted_at_rest _ _).1
      · exact (NeedleCase.abandon_at_rest _).1
    · rw [hnc]
      obtain h | h := (u.struck .drive).reportFault_nc .shaft <;> rw [h, hncu]
      · exact (NeedleCase.faulted_at_rest _ _).2
      · exact (NeedleCase.abandon_at_rest _).2
    · rw [hplayer, hstill]
      exact hn
    · rw [State.shaftFault_of_still _ (hstill.trans hs) (by rw [hplayer]; exact hi)]
      rfl
    · rw [hp, State.reportFault_of_idle _ (by rw [hstruck]; exact hi)]
      simpa using hstruck
    · have henters : (u.struck .drive).reportFault .shaft = (u.struck .drive).enterHalted .shaft :=
        State.reportFault_enters (by rw [hstruck]; exact hs.1) (by rw [hstruck]; exact hs.2) _
      have hall : u.shaftFault .drive = (u.struck .drive).enterHalted .shaft :=
        (State.shaftFault_of_not _ fun h => hs.1 (by rw [← hplayer]; exact h.1)).trans henters
      have hmoving : s.player.errand.moving = moving := by
        dsimp only [moving]
        cases s.player.errand <;> rfl
      rw [hall, State.enterHalted_player, hstruck]
      refine ⟨rfl, State.enterHalted_kill_of_kills _ _ rfl, rfl, rfl, by rw [← hmoving]; rfl, fun op leg rest hm ho ha hsew => ?_⟩
      have hf : (u.struck .drive).frame = s.frame := by simp [State.struck, hu]
      have hg : (u.struck .drive).gov.move = none := by simpa [State.struck, hu] using hsew
      have hafter : ((u.struck .drive).enterHalted .shaft).frame = (s.frame.slow .shaft).lendBy false := by
        rw [State.enterHalted_frame, hf, hg]
        rfl
      rw [hafter]
      refine ⟨fun hfast => ?_, fun hslow => ⟨?_, ?_⟩⟩
      · have hslowed : s.frame.slow .shaft = { s.frame with move := some (.legs op leg rest (some .shaft)) } := by
          simp [Frame.slow, hm, Nat.not_le.2 hfast]
        rw [hslowed]
        exact if_pos ho
      · have hatOnce : s.frame.stopsAtOnce = true := by simp [Frame.stopsAtOnce, hm, hslow]
        rw [Frame.slow_of_stopsAtOnce hatOnce, Frame.lendBy_settleOwner ha]
        simp only [ho]
      · refine State.Latches.enterHalted_frameDone rfl nofun ?_
        rw [hf, hg]
        simp [Frame.unsewn, Frame.stopsAtOnce, hm, hslow]

end Sys2Proof.Machine
end

section
/-! PROOF. The needle case: what its code lines mean for a move in flight (O40). -/

namespace Sys2Proof.Machine

/-! ### One operation that has become possible (R33, R107, R113) -/

theorem State.settle_of_some {s t : State} (h : s.settleOne = some t) : s.settle = State.settleN 2047 t := by
  rw [State.settle, State.settleN, h]

/-- A state in which one operation begins, after which nothing can. -/
theorem State.settle_once {s t : State} (h : s.settleOne = some t) (hq : t.quiet = true) : s.settle = t := by
  rw [State.settle_of_some h, State.settleN_of_quiet _ _ hq]

/-- A change of the case unit that keeps what is kept, and that ends no move, begins nothing. -/
theorem State.quiet_modCase {s : State} {f : NeedleCase → NeedleCase} (hq : s.quiet = true) (hkept : (f s.nc).kept = s.nc.kept)
    (hidle : (f s.nc).state = .idle → s.nc.state = .idle ∧ (f s.nc).job = s.nc.job) : (s.modCase f).quiet = true := by
  rw [State.quiet_iff] at hq ⊢
  obtain ⟨hk, hwaits⟩ := hq
  refine ⟨fun j hj h => hk j (hkept ▸ hj) ⟨(hidle h.1).1, h.2⟩, fun hnone => ?_⟩
  obtain ⟨hreturn, hchange, hlead⟩ := hwaits (hkept ▸ hnone)
  refine ⟨hreturn, fun source asked he h => hchange source asked he ⟨h.1, (hidle h.2.1).1, ?_⟩, hlead⟩
  have hbusy := h.2.2
  simp only [State.modCase, NeedleCase.directBusy, hkept, (hidle h.2.1).2] at hbusy ⊢
  exact hbusy

/-- The chain is where a fault of the case leaves it: over, or past its wait for a change. -/
theorem State.quiet_of_changing {t : State} (hk : t.nc.kept = none)
    (he : t.player.errand = .none ∨ ∃ (source : ChangeSource) (block : Nat), t.player.errand = .changeMove source block) :
    t.quiet = true := by
  obtain he | ⟨source, block, he⟩ := he <;> simp [State.quiet, State.settleOne, hk, he]

/-- R42: a report ends the player's chain, or leaves it as it is. -/
theorem State.reportFault_errand_or (s : State) (c : HaltCause) :
    (s.reportFault c).player.errand = s.player.errand ∨ (s.reportFault c).player.errand = .none := by
  obtain h | ⟨k, h⟩ | ⟨hi, hh⟩ := s.player.state.idle_or_halted_or
  · rw [State.reportFault_of_idle c h]
    exact Or.inl (by simp)
  · rw [State.reportFault_of_halted c h]
    exact Or.inl (s.haltAgain_parts c k).2.2.2.2.1
  · exact Or.inr (State.reportFault_errand _ _ (Or.inr ⟨hi, hh⟩))

/-- R112: what a case fault leaves, whatever the player's state. -/
theorem State.caseFault_parts (s : State) (c : CaseCause) :
    (s.caseFault c).nc = s.nc.fail c ∧ (s.caseFault c).ev.flags &&& Event.caseFault.bit ≠ 0 ∧ (s.caseFault c).gov.move = none ∧
      ((∃ k : HaltCause, s.player.state = .halted k) ∨ s.player.state = .idle ∨ (s.caseFault c).player.state = .halted .needleCase) ∧
      ((s.caseFault c).player.errand = s.player.errand ∨ (s.caseFault c).player.errand = .none) := by
  have hplayer : (s.caseFailed c).player = s.player := by simp
  refine ⟨s.caseFault_nc c, s.caseFault_latched c, s.caseFault_gov_move c, ?_, ?_⟩
  · obtain h | h | ⟨hi, hh⟩ := s.player.state.idle_or_halted_or
    · exact Or.inr (Or.inl h)
    · exact Or.inl h
    · refine Or.inr (Or.inr ?_)
      rw [State.caseFault_eq, State.reportFault_enters (by rw [hplayer]; exact hi) (by rw [hplayer]; exact hh),
        State.enterHalted_player]
      rfl
  · rw [State.caseFault_eq, ← hplayer]
    exact (s.caseFailed c).reportFault_errand_or .needleCase

theorem State.caseFault_quiet_of_chain {s : State} (c : CaseCause) (h : s.player.errand = .none ∨
    ∃ (source : ChangeSource) (block : Nat), s.player.errand = .changeMove source block) : (s.caseFault c).quiet = true := by
  obtain ⟨hnc, -, -, -, he⟩ := s.caseFault_parts c
  refine State.quiet_of_changing (by rw [hnc]; rfl) ?_
  obtain he | he := he <;> rw [he]
  · exact h
  · exact Or.inl rfl

/-! ### The code lines (R105, R108, R112) -/

theorem exec_caseCodeLineChange (code : Nat) (s : State) :
    exec (.caseCodeLineChange code) s = .next ((s.modCase fun n => { n with raw := code }).event fun t => t) := rfl

theorem exec_caseCodeSettled (s : State) : exec .caseCodeSettled s = .next (s.event State.codeSettled) := rfl

theorem exec_caseSettleExpiry (s : State) : exec .caseSettleExpiry s = .next (s.event State.settleExpired) := rfl

theorem exec_caseTimeout (s : State) : exec .caseTimeout s = .next (s.event State.caseTimedOut) := rfl

/-- R105: the case unit with the code that the lines hold. -/
def State.codeTaken (s : State) : State :=
  s.modCase fun n => { n with code := n.raw, pos := casePosition s.straps.needles s.nc.raw }

theorem State.codeSettled_of_same {s : State} (h : casePosition s.straps.needles s.nc.raw = s.nc.pos) :
    s.codeSettled = s.codeTaken := if_pos h

theorem State.codeSettled_of_new {s : State} (h : casePosition s.straps.needles s.nc.raw ≠ s.nc.pos) :
    s.codeSettled = s.codeTaken.casePositionChanged := if_neg h

theorem NeedleCase.see_eq (c : NeedleCase) : c.see = if c.pos = 0 then c else { c with lastSeen := some c.pos } := rfl

@[simp] theorem NeedleCase.see_keeps (c : NeedleCase) : c.see.state = c.state ∧ c.see.kept = c.kept ∧ c.see.job = c.job ∧
    c.see.overshoot = c.overshoot ∧ c.see.dirUp = c.dirUp := by
  unfold NeedleCase.see
  split <;> simp

/-- R112: recording a position is independent of the failure. -/
theorem NeedleCase.fail_see (c : NeedleCase) (cause : CaseCause) : (c.fail cause).see = c.see.fail cause := by
  by_cases h : c.pos = 0 <;> simp [NeedleCase.see, NeedleCase.fail, h]

theorem State.casePositionChanged_of_idle {s : State} (h : s.nc.state = .idle) : s.casePositionChanged =
    if s.shaft.state.caseFixed then (s.caseFault .drift).modCase NeedleCase.see else s.modCase NeedleCase.see := by
  simp only [State.casePositionChanged, h]

theorem State.casePositionChanged_of_moving {s : State} {j : CaseJob} (h : s.nc.state = .moving) (hj : s.nc.job = some j) :
    s.casePositionChanged = s.judgeCase j s.nc.lastSeen := by
  simp only [State.casePositionChanged, h, hj]

theorem State.casePositionChanged_of_rest {s : State} (h : s.nc.state = .settling ∨ s.nc.state = .fault) :
    s.casePositionChanged = s.modCase NeedleCase.see := by
  rcases h with h | h <;> simp only [State.casePositionChanged, h]

theorem ShaftState.caseFixed_iff (h : ShaftState) : h.caseFixed = true ↔ h = .turning ∨ h = .positioning := by
  cases h <;> simp [ShaftState.caseFixed]

/-- R108: what the judgement of a needle position makes of the state. -/
def State.judged (s : State) (found : Judgement) : State :=
  match found with
  | .arrival => s.modCase fun n => n.see.settleAt
  | .approach => s.modCase NeedleCase.see
  | .blind => s.modCase fun n => { n.see with dirUp := n.dirUp.map (! ·) }
  | .overshoot =>
      if s.nc.overshoot = 0 then s.modCase fun n => n.see.turnBack
      else (s.caseFault .overshoot).modCase NeedleCase.see
  | .away => (s.caseFault .away).modCase NeedleCase.see

theorem State.judgeCase_eq {s : State} {j : CaseJob} {before : Option Nat} {up : Bool} (hup : s.nc.dirUp = some up)
    (hpos : s.nc.pos ≠ 0) : s.judgeCase j before = s.judged (judge up j.target before s.nc.pos) := by
  rw [State.judgeCase]
  simp only [hup, Option.getD_some, if_neg hpos]
  cases judge up j.target before s.nc.pos <;> rfl

/-- Settles O40. -/
theorem caseCodeIsTakenAndJudged : Obligations.CaseCodeIsTakenAndJudged := by
  intro s hheld hq pos taken seen fails
  have htaken : s.codeTaken = { s with nc := taken } := rfl
  have hseen : taken.see = seen := rfl
  have settled {t : State} (ht : s.codeSettled = t) (hquiet : t.quiet = true) : exec .caseCodeSettled s = .next t := by
    rw [exec_caseCodeSettled, s.event_quiet _ hheld (by rw [ht]; exact hquiet), ht]
  have changed {t : State} (hne : pos ≠ s.nc.pos) (ht : s.codeTaken.casePositionChanged = t) (hquiet : t.quiet = true) :
      exec .caseCodeSettled s = .next t := settled ((State.codeSettled_of_new hne).trans ht) hquiet
  have recorded (hne : pos ≠ s.nc.pos) (ht : s.codeTaken.casePositionChanged = s.codeTaken.modCase NeedleCase.see) :
      exec .caseCodeSettled s = .next { s with nc := seen } := by
    refine changed hne (ht.trans rfl) ?_
    obtain ⟨hstate, hkept, hjob, -, -⟩ := taken.see_keeps
    exact State.quiet_modCase (f := fun _ => seen) hq hkept fun h => ⟨hstate.symm.trans h, hjob⟩
  have failed (cause : CaseCause) (hne : pos ≠ s.nc.pos)
      (ht : s.codeTaken.casePositionChanged = (s.codeTaken.caseFault cause).modCase NeedleCase.see)
      (hchain : s.player.errand = .none ∨ ∃ (source : ChangeSource) (block : Nat), s.player.errand = .changeMove source block) :
      fails cause := by
    obtain ⟨hnc, hlatched, hmove, hstate, -⟩ := s.codeTaken.caseFault_parts cause
    refine ⟨_, changed hne ht ?_, ?_, hlatched, hmove, hstate⟩
    · refine State.quiet_modCase (State.caseFault_quiet_of_chain cause hchain) ?_ ?_
      · simp
      · simp
    · rw [← hseen]
      exact (congrArg NeedleCase.see hnc).trans (NeedleCase.fail_see taken cause)
  refine ⟨fun code => ?line, fun hsame => ?same, fun hne hidle hturn hpos => recorded hne ?_, fun hne hstate => recorded hne ?_,
    fun hne hidle hmoves he => failed .drift hne ?_ (Or.inl he), fun j up hmoving hjob hup hne => ?judged⟩
  case line =>
    rw [exec_caseCodeLineChange, State.event_quiet _ _ (by exact hheld)]
    · rfl
    · exact State.quiet_modCase hq rfl fun h => ⟨h, rfl⟩
  case same =>
    exact settled (State.codeSettled_of_same hsame) (State.quiet_modCase (f := fun _ => taken) hq rfl fun h => ⟨h, rfl⟩)
  · rw [State.casePositionChanged_of_idle (by exact hidle), if_neg]
    rw [ShaftState.caseFixed_iff]
    exact not_or.2 ⟨hturn, hpos⟩
  · exact State.casePositionChanged_of_rest hstate
  · rw [State.casePositionChanged_of_idle (by exact hidle)]
    exact if_pos ((ShaftState.caseFixed_iff _).2 hmoves)
  case judged =>
    intro past chain
    have hjudged : s.codeTaken.casePositionChanged = s.codeTaken.judgeCase j s.nc.lastSeen :=
      State.casePositionChanged_of_moving (s := s.codeTaken) hmoving hjob
    have found {f : Judgement} (hpos : pos ≠ 0) (h : judge up j.target s.nc.lastSeen pos = f) :
        s.codeTaken.casePositionChanged = s.codeTaken.judged f :=
      hjudged.trans ((State.judgeCase_eq (s := s.codeTaken) hup hpos).trans (congrArg s.codeTaken.judged h))
    have moves {f : NeedleCase → NeedleCase} (ht : s.codeTaken.casePositionChanged = s.codeTaken.modCase f)
        (hkept : (f taken).kept = taken.kept) (hstate : (f taken).state ≠ .idle) :
        exec .caseCodeSettled s = .next { s with nc := f taken } :=
      changed hne (ht.trans rfl) (State.quiet_modCase (f := fun _ => f taken) hq hkept fun h => absurd h hstate)
    have hseenState : taken.see.state = .moving := taken.see_keeps.1.trans hmoving
    refine ⟨fun hpos => ?_, fun hpos htarget => ?_, fun hpos htarget hlast => ?_, fun last hpos htarget hlast => ?_⟩
    · refine changed hne (hjudged.trans (if_pos hpos)) ?_
      exact State.quiet_modCase (f := fun _ => taken) hq rfl fun h => ⟨h, rfl⟩
    · exact moves (f := fun n => n.see.settleAt) (found (f := .arrival) hpos (if_pos htarget)) taken.see_keeps.2.1 nofun
    · have hblind : judge up j.target none pos = if past then .blind else .approach := by
        rw [judge, if_neg htarget]
        cases up <;> rfl
      rw [← hlast] at hblind
      by_cases hp : past
      · rw [if_pos hp] at hblind
        have hturned : taken.dirUp.map (! ·) = some (!up) := by rw [show taken.dirUp = some up from hup]; rfl
        rw [if_pos hp, moves (f := fun n => { n.see with dirUp := n.dirUp.map (! ·) }) (found hpos hblind) taken.see_keeps.2.1
          (by rw [hseenState]; exact nofun), hturned, hseen]
      · rw [if_neg hp] at hblind
        rw [if_neg hp]
        exact recorded hne (found hpos hblind)
    · have hcase : judge up j.target (some last) pos =
          if past then .overshoot else if (if up then pos < last else last < pos) then .away else .approach := by
        rw [judge, if_neg htarget]
        cases up <;> rfl
      rw [← hlast] at hcase
      intro back
      refine ⟨fun hp hover => ?_, fun hp hover hc => failed .overshoot hne ?_ hc, fun hp hb => recorded hne (found (f := .approach) hpos ?_),
        fun hp hb hc => failed .away hne (found (f := .away) hpos ?_) hc⟩
      · have hturn : s.codeTaken.casePositionChanged = s.codeTaken.modCase fun n => n.see.turnBack :=
          (found hpos (hcase.trans (if_pos hp))).trans (if_pos hover)
        have hturned : taken.see.turnBack = { seen with overshoot := 1, dirUp := some (!up), settle := 0 } := by
          obtain ⟨hstate, -, -, -, hdir⟩ := taken.see_keeps
          rw [NeedleCase.turnBack, hdir, show taken.dirUp = some up from hup, ← hseen, ← hseenState]
          rfl
        rw [moves (f := fun n => n.see.turnBack) hturn taken.see_keeps.2.1 nofun, hturned]
      · exact (found hpos (hcase.trans (if_pos hp))).trans (if_neg hover)
      · rw [hcase, if_neg hp, if_neg hb]
      · rw [hcase, if_neg hp, if_pos hb]

end Sys2Proof.Machine
end

section
/-! PROOF. Case moves that complete and the player after its change; the expiries (O41). -/

namespace Sys2Proof.Machine

/-! ### A case move completes (R116, R82, R128) -/

/-- R116, R82, R128: the state in which a case move has completed: COLOUR_DONE latched, the holder countdown and every head's
tie-in countdown set. -/
def State.caseCompleted (s : State) (j : CaseJob) (energised : Bool) : State :=
  { s with
    nc := { s.nc with state := .idle, job := none, overshoot := 0, timer := 0, settle := 0 }
    outs := { s.outs with holderCount := 2 }
    thread := { s.thread with
      monitors := s.thread.monitors.map fun (m : HeadMonitor) =>
        { m with tieIn := (s.thread.profileAt j.target).f } } }.latch .colourDone
      (b1 j.target ++ b1 j.source.code ++ o2 j.block ++ bFlag energised)

theorem Thread.setTieIn_all (t : Thread) (f : Nat) : t.setTieIn (fun _ => true) f =
    { t with monitors := t.monitors.map fun (m : HeadMonitor) => { m with tieIn := f } } := by
  simp only [Thread.setTieIn, if_true, mapFrom_const]

theorem State.modOuts_latch (s : State) (e : Event) (detail : List Byte) (f : Outputs → Outputs) :
    (s.latch e detail).modOuts f = (s.modOuts f).latch e detail := by
  simp [State.latch_eq, State.modOuts]

theorem State.modThread_latch (s : State) (e : Event) (detail : List Byte) (f : Thread → Thread) :
    (s.latch e detail).modThread f = (s.modThread f).latch e detail := by
  simp [State.latch_eq, State.modThread]

section
variable {s : State} {j : CaseJob} {energised : Bool}

theorem State.caseComplete_eq : s.caseComplete j energised =
    if j.source = .direct then s.caseCompleted j energised else (s.caseCompleted j energised).changeDone := by
  rw [State.caseComplete]
  simp only [State.modOuts_latch, State.modThread_latch, Thread.setTieIn_all]
  rfl

@[simp] theorem State.caseCompleted_keeps :
    (s.caseCompleted j energised).player = s.player ∧ (s.caseCompleted j energised).gov = s.gov ∧
      (s.caseCompleted j energised).shaft = s.shaft ∧ (s.caseCompleted j energised).frame = s.frame ∧
      (s.caseCompleted j energised).heads = s.heads ∧ (s.caseCompleted j energised).store = s.store ∧
      (s.caseCompleted j energised).nc.kept = s.nc.kept ∧ (s.caseCompleted j energised).resetHeld = s.resetHeld := by
  simp [State.caseCompleted]

end

/-! ### The player after its change (R38) -/

section
variable {s : State} {source : ChangeSource} {block : Nat}

/-- R38, R154: a held reason pauses the player. -/
theorem State.changeDone_held {r : StopReason} (he : s.player.errand = .changeMove source block)
    (hr : s.player.stopReason = some r) (hd : r ≠ .design) : s.changeDone = s.enterPaused (s.pauseReason r) := by
  simp only [State.changeDone, he, hr, State.takeReason, if_neg hd]

theorem State.changeDone_design (he : s.player.errand = .changeMove source block)
    (hr : s.player.stopReason = some .design) : s.changeDone = s.enterHalted .design := by
  simp only [State.changeDone, he, hr, State.takeReason, if_true]

/-- R38: the pause flag of the block that a change enters. -/
def State.pausesAt (s : State) (source : ChangeSource) (block : Nat) : Prop :=
  s.player.mode = .normal ∧ (source = .start ∨ source = .stopRecord) ∧
    ((s.armedDesign.bind fun d => d.seq[block]?).map SeqEntry.pause).getD false = true

theorem State.changeDone_pauses (he : s.player.errand = .changeMove source block) (hr : s.player.stopReason = none)
    (h : s.pausesAt source block) : s.changeDone = s.enterPaused .colourPause := by
  simp only [State.changeDone, he, hr]
  exact if_pos h

theorem State.changeDone_goesOn (he : s.player.errand = .changeMove source block) (hr : s.player.stopReason = none)
    (h : ¬s.pausesAt source block) :
    s.changeDone = s.modPlayer fun p => { p with state := .returning, errand := .leadWait } := by
  simp only [State.changeDone, he, hr]
  exact if_neg h

/-- R154: a REPAIR pass without heads pauses as PASS_EMPTY. -/
theorem State.pauseReason_of_emptied (hm : s.player.mode = .repair) (hroles : ∀ h ∈ s.heads.table, h.role = Role.none)
    (r : StopReason) : s.pauseReason r = .passEmpty := by
  refine if_pos ⟨hm, ?_⟩
  rw [Bool.not_eq_true', ← Bool.not_eq_true, Heads.inPass_iff]
  rintro ⟨h, hmem, hrole⟩
  exact hrole (hroles h hmem)

theorem State.pauseReason_of_not (h : ¬(s.player.mode = .repair ∧ ∀ h ∈ s.heads.table, h.role = Role.none))
    (r : StopReason) : s.pauseReason r = r.pause := by
  refine if_neg fun hempty => h ⟨hempty.1, fun d hd => ?_⟩
  by_contra hrole
  have hin := (Heads.inPass_iff s.heads).2 ⟨d, hd, hrole⟩
  simp [hin] at hempty

end

/-! ### The completion of the player's change (R38, R116) -/

section
variable {s : State} {j : CaseJob} {energised : Bool} {source : ChangeSource} {block : Nat}

theorem State.caseCompleted_modPlayer (f : Player → Player) :
    (s.modPlayer f).caseCompleted j energised = (s.caseCompleted j energised).modPlayer f := by
  simp [State.caseCompleted, State.latch_eq, State.modPlayer]

theorem State.caseCompleted_paused {why : PauseReason} (howner : s.frame.owner = .player) (hmove : s.frame.move = none)
    (hsewing : s.gov.move = none) : (s.caseCompleted j energised).enterPaused why = { s.caseCompleted j energised with
      frame := { s.frame with lent := true }
      player := { s.player with
        state := .paused why, stopReason := none, stopIndex := none, soonStop := false, positionAsked := false
        errand := .none, entryTrim := .none } }.latch .playerState (6 :: b1 why.code ++ b4 s.player.cursor) := by
  rw [State.enterPaused_of_still (by simpa using howner) (by simpa using hmove) (by simpa using hsewing)]
  simp

/-- R38: a change that the player asked for completes with a reason held, or into a block that pauses. -/
theorem State.caseComplete_paused {why : PauseReason} (hj : j.source ≠ .direct) (he : s.player.errand = .changeMove source block)
    (howner : s.frame.owner = .player) (hmove : s.frame.move = none) (hsewing : s.gov.move = none)
    (h : (∃ r, s.player.stopReason = some r ∧ r ≠ .design ∧ s.pauseReason r = why) ∨
      (s.player.stopReason = none ∧ s.pausesAt source block ∧ why = .colourPause)) :
    s.caseComplete j energised = { s.caseCompleted j energised with
      frame := { s.frame with lent := true }
      player := { s.player with
        state := .paused why, stopReason := none, stopIndex := none, soonStop := false, positionAsked := false
        errand := .none, entryTrim := .none } }.latch .playerState (6 :: b1 why.code ++ b4 s.player.cursor) := by
  have he' : (s.caseCompleted j energised).player.errand = .changeMove source block := by simpa using he
  rw [State.caseComplete_eq, if_neg hj, ← State.caseCompleted_paused howner hmove hsewing]
  obtain ⟨r, hr, hd, rfl⟩ | ⟨hr, hpause, rfl⟩ := h
  · rw [State.changeDone_held he' (by simpa using hr) hd]
    congr 1
    simp [State.pauseReason]
  · refine State.changeDone_pauses he' (by simpa using hr) ?_
    simpa [State.pausesAt, State.armedDesign] using hpause

/-- R38: else the lead-in follows. -/
theorem State.caseComplete_goesOn (hj : j.source ≠ .direct) (he : s.player.errand = .changeMove source block)
    (hr : s.player.stopReason = none) (h : ¬s.pausesAt source block) :
    s.caseComplete j energised =
      { s.caseCompleted j energised with player := { s.player with state := .returning, errand := .leadWait } } := by
  have hnot : ¬(s.caseCompleted j energised).pausesAt source block := by simpa [State.pausesAt, State.armedDesign] using h
  rw [State.caseComplete_eq, if_neg hj, State.changeDone_goesOn (by simpa using he) (by simpa using hr) hnot, State.modPlayer]
  simp

end

/-! ### The player's own moves (R33, R97) -/

/-- R97: a move of the player that nothing blocks begins with its first step. -/
theorem State.playerMove_of_leg {s : State} {op : MoveOp} {errand : Errand} {leg : Leg}
    (hleg : Leg.between s.frame.x s.frame.y s.cursorTarget.1 s.cursorTarget.2 = leg) (hsteps : leg.isEmpty = false)
    (hfree : s.moveBlocked leg = none) : s.playerMove op errand = { s with
      player := { s.player with state := .returning, errand := errand }
      frame := { s.frame with move := some (.legs op leg [] none) } } := by
  have hfirst : firstLeg s.frame.x s.frame.y [s.cursorTarget] = some (leg, []) := by
    subst hleg
    refine firstLeg_of_ne (fun h => ?_) []
    rw [← Leg.between_isEmpty, hsteps] at h
    exact Bool.false_ne_true h
  have hbegin : s.frame.beginLegs op [s.cursorTarget] = { s.frame with move := some (.legs op leg [] none) } := by
    rw [Frame.beginLegs, hfirst]
  rw [State.playerMove]
  simp only [hleg, hfree, hsteps, Bool.false_eq_true, if_false, State.modPlayer, State.modFrame, hbegin]

/-- A player whose move is in flight waits for its end. -/
theorem State.quiet_of_in_flight {t : State} (hk : t.nc.kept = none) (he : t.player.errand.moving = true) : t.quiet = true := by
  cases h : t.player.errand <;> simp_all [State.quiet, State.settleOne, Errand.moving]

theorem State.moveBlocked_of_clear {s : State} (leg : Leg) (hx : s.frame.readyX = true) (hy : s.frame.readyY = true)
    (hl : s.anyLimit = false) : s.moveBlocked leg = none := by
  have hahead : s.limitAhead leg = none := by
    simp only [State.anyLimit, Bool.or_eq_false_iff] at hl
    obtain ⟨⟨⟨h26, h27⟩, h28⟩, h29⟩ := hl
    simp [State.limitAhead, h26, h27, h28, h29]
  simp [State.moveBlocked, hahead, hx, hy]

/-! ### What an entry to HALTED leaves of the holder (R82) -/

theorem State.endRevolution_holderCount (s : State) : (s.endRevolution false).outs.holderCount = s.outs.holderCount := by
  unfold State.endRevolution
  simp only [Bool.false_eq_true, if_false]
  (repeat' split) <;> simp

theorem State.brakeRequest_holderCount (s : State) : s.brakeRequest.outs.holderCount = s.outs.holderCount := by
  have hoff (t : State) : t.enterOff.outs.holderCount = t.outs.holderCount := by
    show (if t.outs.killUntilOff then t.outs.clearKill else t.outs).holderCount = _
    split <;> rfl
  unfold State.brakeRequest State.enterBraking
  simp only []
  (repeat' split) <;> simp [hoff]

theorem State.enterHalted_holderCount (s : State) (c : HaltCause) :
    (s.enterHalted c).outs.holderCount = s.outs.holderCount := by
  have hplayer : (s.haltPlayer c).outs.holderCount = s.outs.holderCount := by
    unfold State.haltPlayer
    simp only []
    split <;> simp [State.endRevolution_holderCount]
  have hkill (t : State) : (t.haltKill c).outs.holderCount = t.outs.holderCount := by
    unfold State.haltKill
    split <;> simp [Outputs.setKill]
  rw [State.enterHalted_eq]
  simp only [State.reportPlayer_keeps, State.lend_keeps, hkill, State.haltFrame_keeps, State.haltMachine]
  split <;> simp [State.brakeRequest_holderCount, hplayer]

/-! ### The expiries (R109, R110) -/

/-- Settles O41. -/
theorem caseTimersEndAMove : Obligations.CaseTimersEndAMove := by
  intro s j hheld hq hkept hjob answer chain fails completed
  have hcompleted : completed = s.caseCompleted j true := rfl
  have expired {t : State} (ht : s.settleExpired = t) (hquiet : t.quiet = true) : answer = .next t := by
    dsimp only [answer]
    rw [exec_caseSettleExpiry, s.event_quiet _ hheld (by rw [ht]; exact hquiet), ht]
  have failed {t : State} {cause : CaseCause} (ht : t = s.caseFault cause) : fails t cause := by
    obtain ⟨hnc, hlatched, hmove, hstate, -⟩ := s.caseFault_parts cause
    rw [ht]
    exact ⟨hnc, hlatched, hmove, hstate⟩
  have arrived (hstate : s.nc.state = .settling) (hpos : s.nc.pos = j.target) : s.settleExpired = s.caseComplete j true := by
    simp only [State.settleExpired, hstate, hjob, if_pos hpos]
  refine ⟨fun hstate hpos hdirect he => expired ?_ ?_, fun source block hstate hpos hj he howner hmove hsewing => ?player,
    fun up hstate hpos hup => ?judged, fun hstate hchain => ⟨_, ?_, failed rfl⟩⟩
  · rw [arrived hstate hpos, State.caseComplete_eq, if_pos hdirect]
    rfl
  · exact State.quiet_of_no_kept (by simpa [hcompleted] using hkept) (by simpa [hcompleted] using he)
  case player =>
    intro emptied paused flagged
    have hdone (t : State) (ht : s.caseComplete j true = t) (hquiet : t.quiet = true) : answer = .next t :=
      expired ((arrived hstate hpos).trans ht) hquiet
    have hpaused {reason : PauseReason} (h : ∀ why, why = (if emptied then PauseReason.passEmpty else reason) →
        (∃ r, s.player.stopReason = some r ∧ r ≠ .design ∧ s.pauseReason r = why) ∨
          (s.player.stopReason = none ∧ s.pausesAt source block ∧ why = .colourPause)) : paused reason :=
      hdone _ (State.caseComplete_paused hj he howner hmove hsewing (h _ rfl))
        (State.quiet_of_no_kept (by simpa [hcompleted] using hkept) (by simp))
    have hheldReason {r : StopReason} (hr : s.player.stopReason = some r) (hd : r ≠ .design) : paused r.pause := by
      refine hpaused fun why hwhy => Or.inl ⟨r, hr, hd, ?_⟩
      by_cases hem : emptied
      · rw [hwhy, if_pos hem, State.pauseReason_of_emptied hem.1 hem.2]
      · rw [hwhy, if_neg hem, State.pauseReason_of_not hem]
    have hflag : flagged ↔ s.pausesAt source block := by
      refine and_congr_right fun _ => and_congr_right fun _ => ?_
      cases s.armedDesign with
      | none => simp
      | some d =>
        cases hseq : d.seq[block]? with
        | none => simp [hseq]
        | some e =>
          obtain ⟨needle, pause⟩ := e
          simp [hseq]
    refine ⟨fun hr => ?design, (hheldReason (r := .hostStop) · nofun), (hheldReason (r := .buttonStop) · nofun),
      (hheldReason (r := .breakStop) · nofun), (hheldReason (r := .bobbinStop) · nofun), (hheldReason (r := .passEmpty) · nofun),
      fun hr hf => hpaused fun why hwhy => Or.inr ⟨hr, hflag.1 hf, ?_⟩, fun hr hf => ⟨?waits, fun ox oy ho hx hy hl => ?leads⟩⟩
    case design =>
      have hhalts : s.settleExpired = completed.enterHalted .design := by
        rw [arrived hstate hpos, State.caseComplete_eq, if_neg hj, hcompleted,
          State.changeDone_design (by simpa using he) (by simpa using hr)]
      have hnc : (completed.enterHalted .design).nc = completed.nc := by
        rw [State.enterHalted_nc, hcompleted]
        simp [State.caseCompleted, NeedleCase.abandon, NeedleCase.endMove, hkept]
      have hframe : (completed.enterHalted .design).frame = { s.frame with lent := true } := by
        rw [State.enterHalted_frame, hcompleted]
        simp [Frame.unsewn, Frame.haltBy, HaltCause.abort, Frame.slow, Frame.lendBy, hmove, hsewing, howner]
      have hlatched : (completed.enterHalted .design).ev.flags &&& Event.colourDone.bit ≠ 0 :=
        State.Latches.latched (State.Latches.enterHalted completed .design)
      refine ⟨_, expired hhalts (State.quiet_of_no_kept ?_ ?_), ?_, ?_, ?_, hframe, hnc, ?_, hlatched,
        State.Latches.enterHalted_latched _ _⟩
      · rw [State.enterHalted_nc]
        rfl
      · rw [State.enterHalted_player]
        rfl
      · rw [State.enterHalted_player]
        rfl
      · rw [State.enterHalted_player]
        rfl
      · rw [State.enterHalted_player]
        rfl
      · rw [State.enterHalted_holderCount, hcompleted]
        simp [State.caseCompleted]
    · rw [hwhy, if_neg]
      exact fun hem => nomatch hf.1.symm.trans hem.1
    all_goals
      have hgoes : answer =
          .next { completed with player := { s.player with state := .returning, errand := .leadWait } }.settle := by
        dsimp only [answer]
        rw [exec_caseSettleExpiry, State.event_of_running hheld, arrived hstate hpos,
          State.caseComplete_goesOn hj he hr (fun h => hf (hflag.2 h))]
        rfl
    case waits => exact hgoes
    case leads =>
      intro target leg hleg
      obtain ⟨v, hv⟩ : ∃ v : State, v = { completed with player := { s.player with state := .returning, errand := .leadWait } } :=
        ⟨_, rfl⟩
      have hone : v.settleOne = some (v.playerMove .leadIn .leadMove) := by
        have hvkept : v.nc.kept = none := by simpa [hv, hcompleted] using hkept
        have hvfree : v.frameFree = true := by simp [hv, hcompleted, State.frameFree, hmove, hsewing]
        have hverrand : v.player.errand = .leadWait := by rw [hv]
        simp only [State.settleOne, hvkept, hverrand, hvfree, if_true]
      have hbetween : Leg.between v.frame.x v.frame.y v.cursorTarget.1 v.cursorTarget.2 = leg := by
        simp [hv, hcompleted, State.cursorTarget, State.positionOf, State.armedDesign, ho, leg, target]
      have hmoves := State.playerMove_of_leg (op := .leadIn) (errand := .leadMove) hbetween hleg
        (State.moveBlocked_of_clear leg (by simpa [hv, hcompleted] using hx) (by simpa [hv, hcompleted] using hy) ?_)
      · rw [hgoes, ← hv, State.settle_once hone, hmoves]
        · rw [hv]
          simp [hcompleted]
        · rw [hmoves]
          exact State.quiet_of_in_flight (by simpa [hv, hcompleted] using hkept) rfl
      · rw [hv]
        simpa [hcompleted, State.anyLimit, State.inputActive, State.caseCompleted, State.latch_flags] using hl
  case judged =>
    intro short
    have hjudged : s.settleExpired = if short then s.modCase NeedleCase.driveOn
        else if s.nc.overshoot = 0 then s.modCase NeedleCase.turnBack else s.caseFault .overshoot := by
      simp only [State.settleExpired, hstate, hjob, if_neg hpos, hup, Option.getD_some]
      rfl
    refine ⟨fun hs => expired (hjudged.trans (if_pos hs)) (State.quiet_modCase (f := NeedleCase.driveOn) hq rfl nofun), fun hs ho => ?_,
      fun hs ho hc => ⟨_, expired (hjudged.trans ((if_neg hs).trans (if_neg ho))) (State.caseFault_quiet_of_chain _ hc), failed rfl⟩⟩
    have hturn : s.modCase NeedleCase.turnBack =
        { s with nc := { s.nc with state := .moving, overshoot := 1, dirUp := some (!up), settle := 0 } } := by
      simp only [State.modCase, NeedleCase.turnBack, hup, Option.map_some]
    rw [← hturn]
    exact expired (hjudged.trans ((if_neg hs).trans (if_pos ho))) (State.quiet_modCase hq rfl nofun)
  · have hfault : s.caseTimedOut = s.caseFault .timeout := by simp only [State.caseTimedOut, hstate]
    rw [exec_caseTimeout, s.event_quiet _ hheld (by rw [hfault]; exact State.caseFault_quiet_of_chain _ hchain), hfault]

end Sys2Proof.Machine
end

section
/-! PROOF. The change that the player waits for, and NEEDLE_GO (O24, O39). -/

namespace Sys2Proof.Machine

/-! ### The direction and the timeout of a case move (R107) -/

theorem NeedleCase.reference_eq (c : NeedleCase) : c.reference = if c.pos ≠ 0 then some c.pos else c.lastSeen := by
  by_cases h : c.pos = 0 <;> simp [NeedleCase.reference, h]

section
variable {c : NeedleCase} {target r : Nat} (needles : Nat)

theorem NeedleCase.move_of_none (h : c.reference = none) :
    c.direction target = true ∧ c.timeout needles target = 300 + 120 * (needles - 1) := by
  simp only [NeedleCase.direction, NeedleCase.timeout, h, and_self]

theorem NeedleCase.move_of_lt (h : c.reference = some r) (hlt : r < target) :
    c.direction target = true ∧ c.timeout needles target = 300 + 120 * (target - r) := by
  have hne : r ≠ target := hlt.ne
  simp only [NeedleCase.direction, NeedleCase.timeout, h, if_pos hlt, if_neg hne, Nat.max_eq_left hlt.le,
    Nat.min_eq_right hlt.le, and_self]

theorem NeedleCase.move_of_gt (h : c.reference = some r) (hgt : target < r) :
    c.direction target = false ∧ c.timeout needles target = 300 + 120 * (r - target) := by
  have hne : r ≠ target := hgt.ne'
  simp only [NeedleCase.direction, NeedleCase.timeout, h, if_neg hgt.not_gt, if_pos hgt, if_neg hne,
    Nat.max_eq_right hgt.le, Nat.min_eq_left hgt.le, and_self]

theorem NeedleCase.move_of_eq (h : c.reference = some r) (heq : r = target) :
    c.direction target = decide (c.dirUp = some false) ∧ c.timeout needles target = 420 := by
  subst heq
  have hdir : (!c.dirUp.getD true) = decide (c.dirUp = some false) := by
    rcases c.dirUp with _ | up
    · rfl
    · cases up <;> rfl
  simp only [NeedleCase.direction, NeedleCase.timeout, h, Nat.lt_irrefl, if_false, if_true, hdir, and_self]

end

/-- R107: the direction and the timeout as one formula of the start reference. -/
theorem NeedleCase.direction_eq (c : NeedleCase) (target : Nat) : c.direction target = match c.reference with
    | none => true
    | some r => decide (r < target ∨ (r = target ∧ c.dirUp = some false)) := by
  cases h : c.reference with
  | none => exact (c.move_of_none 0 h).1
  | some r =>
    obtain hlt | heq | hgt := Nat.lt_trichotomy r target
    · simp [(NeedleCase.move_of_lt 0 h hlt).1, hlt]
    · simp [(NeedleCase.move_of_eq 0 h heq).1, heq]
    · simp [(NeedleCase.move_of_gt 0 h hgt).1, hgt.not_gt, hgt.ne']

theorem NeedleCase.timeout_eq (c : NeedleCase) (needles target : Nat) :
    c.timeout needles target = 300 + 120 * (match c.reference with
      | none => needles - 1
      | some r => if r = target then 1 else max r target - min r target) := by
  cases h : c.reference with
  | none => exact (c.move_of_none (target := target) needles h).2
  | some r => simp only [NeedleCase.timeout, h, Nat.max_comm, Nat.min_comm]

/-! ### A case move begins (R107) -/

section
variable {s : State} {j : CaseJob}

/-- R107: toward another needle the drive goes on. -/
theorem State.beginCase_drives (h : j.target ≠ s.nc.pos) : s.beginCase j = { s with
    nc := { s.nc with
      state := .moving, job := some j, overshoot := 0, dirUp := some (s.nc.direction j.target)
      timer := s.nc.timeout s.straps.needles j.target, settle := 0, kept := none } } := by
  rw [State.beginCase, if_neg h]
  rfl

theorem State.beginCase_stands (hk : s.nc.kept = none) (h : j.target = s.nc.pos) : s.beginCase j = s.caseComplete j false := by
  have hkept : (s.modCase fun c => { c with kept := none }) = s := by
    rw [State.modCase, ← hk]
  rw [State.beginCase, if_pos h, hkept]

end

/-! ### The change that the player waits for (R113, R114) -/

section
variable {s : State} {source : ChangeSource} {asked : Nat}

theorem State.settleOne_change (hheld : s.shaft.state = .held) (hidle : s.nc.state = .idle) (hk : s.nc.kept = none)
    (hbusy : s.nc.directBusy = false) (he : s.player.errand = .changeWait source asked) :
    s.settleOne = some (s.decideChange source asked) := by
  simp [State.settleOne, hk, he, State.isHeld, hheld, hidle, hbusy]

theorem State.sequenceNeedle_of {d : Design} {block : Nat} {e : SeqEntry} (hd : s.armedDesign = some d)
    (he : d.seq[block]? = some e) : s.sequenceNeedle block = e.needle := by
  simp [State.sequenceNeedle, hd, he]

/-- R113, R114: the block of the change. -/
def State.changeBlock (s : State) (source : ChangeSource) (asked : Nat) : Nat :=
  match source with
  | .start => 0
  | .stopRecord => asked
  | _ => s.blockOf s.player.cursor

theorem State.decideChange_enters (h : s.player.mode = .normal ∧ ((source = .start ∨ source = .stopRecord) ∨
    s.player.history.getD (s.changeBlock source asked) none = none)) :
    s.decideChange source asked = s.enteringChange source (s.changeBlock source asked) := by
  obtain ⟨hm, hs⟩ := h
  cases source <;> simp_all [State.decideChange, State.changeBlock]

theorem State.decideChange_restores {needle : Nat} (h : ¬(s.player.mode = .normal ∧ ((source = .start ∨ source = .stopRecord) ∨
      s.player.history.getD (s.changeBlock source asked) none = none)))
    (hn : s.player.history.getD (s.changeBlock source asked) none = some needle ∨
      (s.player.history.getD (s.changeBlock source asked) none = none ∧ s.sequenceNeedle (s.changeBlock source asked) = needle)) :
    s.decideChange source asked = s.restoringChange source (s.changeBlock source asked) needle := by
  cases hm : s.player.mode <;> cases source <;> simp_all [State.decideChange, State.changeBlock] <;>
    rcases hn with hn | ⟨hn, rfl⟩ <;> simp [hn]

end

/-- R113, R114: the player that has asked for a change into the block. -/
def Player.changing (p : Player) (source : ChangeSource) (block : Nat) : Player :=
  { p with state := .changing, errand := .changeMove source block }

section
variable {s : State} {p : Player} {source : ChangeSource} {block needle : Nat}

/-- R113, R114: toward another needle the change drives the case. -/
theorem State.change_drives (hone : s.settleOne =
      some ({ s with player := p.changing source block }.beginCase ⟨needle, source, some block⟩))
    (hk : s.nc.kept = none) (h : s.nc.pos ≠ needle) : s.settle = { s with
      player := p.changing source block
      nc := { s.nc with
        state := .moving, job := some ⟨needle, source, some block⟩, overshoot := 0, settle := 0
        dirUp := some (s.nc.direction needle), timer := s.nc.timeout s.straps.needles needle } } := by
  have hdrives := State.beginCase_drives (s := { s with player := p.changing source block }) (j := ⟨needle, source, some block⟩) h.symm
  rw [State.settle_once hone (by rw [hdrives]; exact State.quiet_of_changing rfl (Or.inr ⟨_, _, rfl⟩)), hdrives]
  have hnc : ({ s.nc with
      state := .moving, job := some ⟨needle, source, some block⟩, overshoot := 0, dirUp := some (s.nc.direction needle)
      timer := s.nc.timeout s.straps.needles needle, settle := 0, kept := none } : NeedleCase) = { s.nc with
        state := .moving, job := some ⟨needle, source, some block⟩, overshoot := 0, settle := 0
        dirUp := some (s.nc.direction needle), timer := s.nc.timeout s.straps.needles needle } := by
    rw [← hk]
  exact congrArg (fun c : NeedleCase => { s with player := p.changing source block, nc := c }) hnc

/-- R116, R38: at the needle where the case stands the change completes without a drive. -/
theorem State.change_stands (hone : s.settleOne =
      some ({ s with player := p.changing source block }.beginCase ⟨needle, source, some block⟩))
    (hk : s.nc.kept = none) (hpos : s.nc.pos = needle) (hsource : source ≠ .direct) (howner : s.frame.owner = .player)
    (hmove : s.frame.move = none) (hsewing : s.gov.move = none) :
    (∀ why : PauseReason, ((∃ r, p.stopReason = some r ∧ r ≠ .design ∧
          State.pauseReason { s with player := p.changing source block } r = why) ∨
        (p.stopReason = none ∧ State.pausesAt { s with player := p.changing source block } source block ∧ why = .colourPause)) →
      s.settle = { s.caseCompleted ⟨needle, source, some block⟩ false with
        frame := { s.frame with lent := true }
        player := { p with
          state := .paused why, stopReason := none, stopIndex := none, soonStop := false, positionAsked := false
          errand := .none, entryTrim := .none } }.latch .playerState (6 :: b1 why.code ++ b4 p.cursor)) ∧
    (p.stopReason = none → ¬State.pausesAt { s with player := p.changing source block } source block →
      s.settle = State.settleN 2047 { s.caseCompleted ⟨needle, source, some block⟩ false with
        player := { p with state := .returning, errand := .leadWait } }) := by
  have hstands : ({ s with player := p.changing source block } : State).beginCase ⟨needle, source, some block⟩ =
      ({ s with player := p.changing source block } : State).caseComplete ⟨needle, source, some block⟩ false :=
    State.beginCase_stands hk hpos.symm
  have hcompleted : ({ s with player := p.changing source block } : State).caseCompleted ⟨needle, source, some block⟩ false =
      { s.caseCompleted ⟨needle, source, some block⟩ false with player := p.changing source block } :=
    State.caseCompleted_modPlayer (s := s) fun _ => p.changing source block
  rw [hstands] at hone
  refine ⟨fun why h => ?_, fun hr hn => ?_⟩
  · have hpaused := State.caseComplete_paused (s := { s with player := p.changing source block })
      (j := ⟨needle, source, some block⟩) (energised := false) hsource rfl howner hmove hsewing h
    rw [State.settle_once hone]
    · rw [hpaused, hcompleted]
      rfl
    · rw [hpaused]
      exact State.quiet_of_no_kept (by simpa using hk) (by simp)
  · have hgoes := State.caseComplete_goesOn (s := { s with player := p.changing source block })
      (j := ⟨needle, source, some block⟩) (energised := false) hsource rfl hr hn
    rw [State.settle_of_some hone, hgoes, hcompleted]
    rfl

end

/-- Settles O24. -/
theorem enteringChangeDrivesTheCase : Obligations.EnteringChangeDrivesTheCase := by
  refine ⟨fun c needles target => ?directions, ?changes⟩
  case directions =>
    intro reference
    have href : c.reference = reference := c.reference_eq
    exact ⟨fun h => c.move_of_none needles (href.trans h), fun r h => ⟨NeedleCase.move_of_lt needles (href.trans h),
      NeedleCase.move_of_gt needles (href.trans h), NeedleCase.move_of_eq needles (href.trans h)⟩⟩
  case changes =>
    intro s d source asked hheld hidle hk hbusy he hsource hd block entered entering enters goesOn drives stands
    have hblock : s.changeBlock source asked = block := by
      dsimp only [block]
      cases source <;> rfl
    have hwait := State.settleOne_change hheld hidle hk hbusy he
    have began {p : Player} {needle : Nat} {flagged : Prop} (hone : s.settleOne =
          some (State.beginCase { s with player := p.changing source block } ⟨needle, source, some block⟩))
        (hr : p.stopReason = s.player.stopReason) (hm : p.mode = s.player.mode) (hc : p.cursor = s.player.cursor)
        (hflag : flagged ↔ State.pausesAt { s with player := p.changing source block } source block) :
        drives p needle ∧ stands p needle flagged := by
      refine ⟨fun hne => State.change_drives hone hk hne, fun hpos howner hmove hsewing => ?_⟩
      obtain ⟨hpaused, hgoes⟩ := State.change_stands hone hk hpos hsource howner hmove hsewing
      intro completed emptied paused
      have hheldReason {r : StopReason} (hrs : s.player.stopReason = some r) (hdes : r ≠ .design) : paused r.pause := by
        dsimp only [paused]
        rw [← hc]
        refine hpaused _ (Or.inl ⟨r, hr.trans hrs, hdes, ?_⟩)
        by_cases hem : emptied
        · rw [if_pos hem]
          exact State.pauseReason_of_emptied (s := { s with player := p.changing source block }) (hm.trans hem.1) hem.2 r
        · rw [if_neg hem]
          exact State.pauseReason_of_not (s := { s with player := p.changing source block })
            (fun h => hem ⟨hm.symm.trans h.1, h.2⟩) r
      refine ⟨fun hrs hf => ?_, fun hrs hf => hgoes (hr.trans hrs) fun h => hf (hflag.2 h), (hheldReason (r := .hostStop) · nofun),
        (hheldReason (r := .buttonStop) · nofun), (hheldReason (r := .breakStop) · nofun),
        (hheldReason (r := .bobbinStop) · nofun), (hheldReason (r := .passEmpty) · nofun)⟩
      have hpause := hflag.1 hf
      dsimp only [paused]
      have hnormal : s.player.mode = .normal := hm.symm.trans hpause.1
      have hfull : ¬emptied := fun hem => PassMode.noConfusion (hnormal.symm.trans hem.1)
      rw [if_neg hfull, ← hc]
      exact hpaused _ (Or.inr ⟨hr.trans hrs, hpause, rfl⟩)
    refine ⟨fun e hen hseq => ?enter, fun needle hen hneedle => ?restore⟩
    case enter =>
      intro needle p
      have hone : s.settleOne = some (State.beginCase { s with player := p.changing source block } ⟨needle, source, some block⟩) := by
        rw [hwait, State.decideChange_enters (by rw [hblock]; exact hen), hblock, State.enteringChange,
          State.sequenceNeedle_of hd hseq]
        rfl
      refine began hone rfl rfl rfl ((and_iff_right (a := s.player.mode = .normal) hen.1).symm.trans ?_)
      refine and_congr_right fun _ => and_congr_right fun _ => ?_
      have hpause : (({ s with player := p.changing source block } : State).armedDesign.bind fun d => d.seq[block]?) = some e := by
        rw [show ({ s with player := p.changing source block } : State).armedDesign = some d from hd]
        exact hseq
      rw [hpause]
      rfl
    case restore =>
      have hdecide : s.settleOne = some (s.restoringChange source block needle) := by
        rw [hwait, State.decideChange_restores (needle := needle) (by rw [hblock]; exact hen), hblock]
        rw [hblock]
        exact hneedle.imp id fun ⟨hnone, e, hseq, he⟩ => ⟨hnone, (State.sequenceNeedle_of hd hseq).trans he⟩
      refine ⟨fun hne => ?_, fun hstop => ?_, fun hnot hpos => ?_⟩
      · have hchange : s.restoringChange source block needle =
            State.beginCase { s with player := s.player.changing source block } ⟨needle, source, some block⟩ :=
          if_neg fun h => hne h.2
        exact (began (flagged := State.pausesAt { s with player := s.player.changing source block } source block)
          (hdecide.trans (congrArg some hchange)) rfl rfl rfl Iff.rfl).1 hne
      · have hchange : s.restoringChange source block needle =
            State.beginCase { s with player := s.player.changing source block } ⟨needle, source, some block⟩ :=
          if_neg fun h => h.1 hstop
        refine (began (hdecide.trans (congrArg some hchange)) rfl rfl rfl ⟨False.elim, fun h => ?_⟩).2
        exact hen ⟨h.1, Or.inl (Or.inr hstop)⟩
      · have hstays : s.restoringChange source block needle =
            { s with player := { s.player with state := .returning, errand := .leadWait } } := if_pos ⟨hnot, hpos⟩
        rw [hstays] at hdecide
        exact State.settle_of_some hdecide

/-! ### NEEDLE_GO (R119) -/

theorem PlayerState.needleRefusal_eq (p : PlayerState) :
    (p = .changing → p.needleRefusal = some .busy) ∧
    ((p = .running ∨ p = .stopping ∨ p = .returning ∨ p = .starved ∨ ∃ c : HaltCause, p = .halted c) →
      p.needleRefusal = some .wrongState) ∧
    (p ≠ .changing → ¬(p = .running ∨ p = .stopping ∨ p = .returning ∨ p = .starved ∨ ∃ c : HaltCause, p = .halted c) →
      p.needleRefusal = none) := by
  cases p <;> simp [PlayerState.needleRefusal]

/-- R112: the case unit with its fault cleared. -/
theorem NeedleCase.clearFault_idle {c : NeedleCase} (hm : c.state ≠ .moving) (hs : c.state ≠ .settling) (needles : Nat) :
    (c.clearFault needles).state = .idle := by
  rw [NeedleCase.clearFault_eq]
  cases h : c.state <;> simp_all

/-- Settles O39. -/
theorem needleGoIsKeptUntilHeld : Obligations.NeedleGoIsKeptUntilHeld := by
  intro s needle hready answer named turning sewing faulted busy cleared reference up span
  have hcleared : s.nc.clearFault s.straps.needles = cleared := s.nc.clearFault_eq _
  have refused {st : Status} (h : s.needleRefusal needle = some st) : answer = .next (s.replied 0xAA (replyOf st [])) :=
    exec_refused hready rfl rfl (by
      have htaken : s.takingOn.needleRefusal needle = some st := h
      simp only [State.serve, State.serveNeedleGo, htaken])
  have hunnamed : (needle = 0 ∨ s.straps.needles < needle) ↔ ¬named := by
    dsimp only [named]
    omega
  have hturning : (s.estop || s.shaft.state == .braking || s.shaft.state == .turning || s.shaft.state == .positioning) = true ↔
      turning := by
    simp only [Bool.or_eq_true, beq_iff_eq, State.estop_iff hready, turning, or_assoc]
  obtain ⟨hchanging, hsewing, hrest⟩ := s.player.state.needleRefusal_eq
  have passed (hn : named) (ht : ¬turning) : s.needleRefusal needle = match s.player.state.needleRefusal with
      | some st => some st
      | none =>
          if faulted then some .wrongState
          else if s.nc.state = .moving ∨ s.nc.state = .settling ∨ s.nc.kept.isSome then some .busy
          else if (s.shaft.state = .off ∨ s.shaft.state = .offPosition) ∧ s.positionerBusy then some .busy
          else none :=
    (if_neg fun h => hunnamed.1 h hn).trans (if_neg fun h => ht (hturning.1 h))
  have atRest (hn : named) (ht : ¬turning) (hs : ¬sewing) (hc : s.player.state ≠ .changing) : s.needleRefusal needle =
      if faulted then some .wrongState
      else if s.nc.state = .moving ∨ s.nc.state = .settling ∨ s.nc.kept.isSome then some .busy
      else if (s.shaft.state = .off ∨ s.shaft.state = .offPosition) ∧ s.positionerBusy then some .busy
      else none := by
    rw [passed hn ht, hrest hc hs]
  refine ⟨fun hn => refused (if_pos (hunnamed.2 hn)), fun hn h => refused (st := .wrongState) ?_,
    fun hn ht hc => refused (st := .busy) ?_, fun hn ht hs hc hf => refused (st := .wrongState) ((atRest hn ht hs hc).trans (if_pos hf)),
    fun hn ht hs hc hf hb => refused (st := .busy) ((atRest hn ht hs hc).trans ((if_neg hf).trans ?_)),
    fun hn ht hs hc hf hb => ?granted⟩
  · by_cases ht : turning
    · exact (if_neg fun h => hunnamed.1 h hn).trans (if_pos (hturning.2 ht))
    · rw [passed hn ht, hsewing (h.resolve_left ht)]
  · rw [passed hn ht, hchanging hc]
  · by_cases hmoves : s.nc.state = .moving ∨ s.nc.state = .settling ∨ s.nc.kept.isSome
    · exact if_pos hmoves
    · refine (if_neg hmoves).trans (if_pos ?_)
      rw [State.positionerBusy_iff]
      obtain h | h | h | h := hb
      · exact absurd (Or.inl h) hmoves
      · exact absurd (Or.inr (Or.inl h)) hmoves
      · exact absurd (Or.inr (Or.inr h)) hmoves
      · exact h
  case granted =>
    have hserve : s.takingOn.serve (.needleGo needle) = okWith (s.takingOn.needleNow needle) [] := by
      have hnone : s.takingOn.needleRefusal needle = none := by
        refine (atRest hn ht hs hc).trans ((if_neg hf).trans ((if_neg fun h => hb ?_).trans (if_neg fun h => hb ?_)))
        · exact h.imp id (·.imp id Or.inl)
        · rw [State.positionerBusy_iff] at h
          exact Or.inr (Or.inr (Or.inr h))
      simp only [State.serve, State.serveNeedleGo, hnone]
    have hnc : (s.nc.state ≠ .moving) ∧ s.nc.state ≠ .settling := ⟨fun h => hb (Or.inl h), fun h => hb (Or.inr (Or.inl h))⟩
    have hidle : cleared.state = .idle := by
      rw [← hcleared]
      exact NeedleCase.clearFault_idle hnc.1 hnc.2 _
    obtain ⟨u, hu⟩ : ∃ u : State, u = { s with nc := { cleared with kept := some ⟨needle, .direct, none⟩ } } := ⟨_, rfl⟩
    have hkeeps : ((s.takingOn.modCase fun c => c.clearFault s.straps.needles).modCase fun c =>
        { c with kept := some ⟨needle, .direct, none⟩ }) = u.takingOn := by
      rw [hu, ← hcleared]
      rfl
    have hnow : s.takingOn.needleNow needle =
        if s.shaft.state = .off ∨ s.shaft.state = .offPosition then u.takingOn.holdRequest else u.takingOn := by
      rw [← hkeeps]
      rfl
    have hstandsHeld (h : s.shaft.state = .held) : s.takingOn.needleNow needle = u.takingOn := by
      rw [hnow, if_neg (by simp [h])]
    have hone (h : s.shaft.state = .held) (t : State) (htu : t = u.replied 0xAA [0]) :
        t.settleOne = some (t.beginCase ⟨needle, .direct, none⟩) := by
      have hkept : t.nc.kept = some ⟨needle, .direct, none⟩ := by rw [htu, hu]; rfl
      have hready' : t.nc.state = .idle ∧ t.isHeld = true := ⟨by rw [htu, hu]; exact hidle, by simp [htu, hu, State.isHeld, State.replied, h]⟩
      simp only [State.settleOne, State.beginKept, hkept, if_pos hready']
    have began (h : s.shaft.state = .held) : answer = .next ((u.replied 0xAA [0]).settle) := by
      refine (exec_settled hready rfl rfl hserve).trans ?_
      rw [hstandsHeld h]
      rfl
    have href : cleared.reference = reference := cleared.reference_eq
    refine ⟨fun hoff => ?_, fun hheld he hne => ?_, fun hheld he heq => ?_⟩
    · refine (exec_settled hready rfl rfl hserve).trans ?_
      rw [hnow, if_pos hoff, hu]
      rfl
    · obtain ⟨v, hv⟩ : ∃ v : State, v = u.replied 0xAA [0] := ⟨_, rfl⟩
      have hvnc : v.nc = { cleared with kept := some ⟨needle, .direct, none⟩ } := by rw [hv, hu]; rfl
      have hdrives := State.beginCase_drives (s := v) (j := ⟨needle, .direct, none⟩) (by rw [hvnc]; exact hne)
      have hup : v.nc.direction needle = up := by
        rw [hvnc]
        exact (cleared.direction_eq needle).trans (by rw [href] <;> rfl)
      have hspan : v.nc.timeout v.straps.needles needle = 300 + 120 * span := by
        rw [hvnc, hv, hu]
        exact (cleared.timeout_eq s.straps.needles needle).trans (by rw [href] <;> rfl)
      rw [began hheld, ← hv, State.settle_once (hone hheld v hv), hdrives, hup, hspan, hvnc, hv, hu]
      · rfl
      · rw [hdrives]
        exact State.quiet_of_no_kept rfl (by rw [hv, hu]; exact he)
    · obtain ⟨v, hv⟩ : ∃ v : State, v = u.replied 0xAA [0] := ⟨_, rfl⟩
      have hvnc : v.nc = { cleared with kept := some ⟨needle, .direct, none⟩ } := by rw [hv, hu]; rfl
      have hstands : v.beginCase ⟨needle, .direct, none⟩ =
          (v.modCase fun c => { c with kept := none }).caseCompleted ⟨needle, .direct, none⟩ false := by
        rw [State.beginCase, if_pos (by rw [hvnc]; exact heq), State.caseComplete_eq]
        exact if_pos rfl
      rw [began hheld, ← hv, State.settle_once (hone hheld v hv), hstands, State.caseCompleted, hv, hu]
      · refine congrArg₂ (fun (t : State) detail => Host.Outcome.next (t.latch .colourDone detail)) rfl ?_
        show b1 needle ++ b1 ChangeSource.direct.code ++ o2 none ++ bFlag false = _
        rfl
      · rw [hstands]
        exact State.quiet_of_no_kept (by simp) (by simp [hv, hu, State.replied, he])

end Sys2Proof.Machine
end

section
/-! PROOF. Held-shaft moves: the steps of an axis, the player's return and lead-in moves, and the leading axis (for O37). -/

namespace Sys2Proof.Machine

/-! ### Steps of an axis (R87) -/

theorem beyondRange_eq {p : Int} (hlo : -262143 ≤ p) (hhi : p ≤ 262143) (negative : Bool) (n : Nat) :
    (!beyondRange p negative n) = decide (-262143 ≤ (if negative then p - n else p + n) ∧
      (if negative then p - n else p + n) ≤ 262143) := by
  cases negative
  · simp only [beyondRange, Bool.false_eq_true, if_false, Bool.not_eq_eq_eq_not, ← decide_not]
    rw [decide_eq_decide]
    omega
  · simp only [beyondRange, if_true, Bool.not_eq_eq_eq_not, ← decide_not]
    rw [decide_eq_decide]
    omega

section
variable (f : Frame) (negative : Bool) (n : Nat)

theorem Frame.stepX_eq (hlo : -262143 ≤ f.x) (hhi : f.x ≤ 262143) : f.stepX negative n = { f with
    x := max (-262143) (min 262143 (if negative then f.x - n else f.x + n))
    known := f.known && decide (-262143 ≤ (if negative then f.x - n else f.x + n) ∧
      (if negative then f.x - n else f.x + n) ≤ 262143) } := by
  rw [Frame.stepX, beyondRange_eq hlo hhi]
  rfl

theorem Frame.stepY_eq (hlo : -262143 ≤ f.y) (hhi : f.y ≤ 262143) : f.stepY negative n = { f with
    y := max (-262143) (min 262143 (if negative then f.y - n else f.y + n))
    known := f.known && decide (-262143 ≤ (if negative then f.y - n else f.y + n) ∧
      (if negative then f.y - n else f.y + n) ≤ 262143) } := by
  rw [Frame.stepY, beyondRange_eq hlo hhi]
  rfl

end

/-! ### The leading axis (R92) -/

theorem le_withLead {lead : Nat} (h : 0 < lead) (m other j : Nat) : j ≤ withLead m lead other ↔ j * lead ≤ m * other := by
  rw [withLead, if_neg h.ne', Nat.le_div_iff_mul_le h]

section
variable (l : Leg) (rPos : Nat) (slowing : Bool)

@[simp] theorem Leg.advance_keeps : (l.advance rPos slowing).nx = l.nx ∧ (l.advance rPos slowing).ny = l.ny ∧
    (l.advance rPos slowing).xNeg = l.xNeg ∧ (l.advance rPos slowing).yNeg = l.yNeg := by
  unfold Leg.advance
  split <;> exact ⟨rfl, rfl, rfl, rfl⟩

theorem Leg.leads_of_le {l : Leg} (h : l.ny ≤ l.nx) : l.leads = .x := if_pos h

theorem Leg.leads_of_lt {l : Leg} (h : l.nx < l.ny) : l.leads = .y := if_neg h.not_ge

theorem Leg.advance_x {l : Leg} (h : l.leads = .x) : l.advance rPos slowing = { l with
    ex := l.ex + 1, ey := withLead (l.ex + 1) l.nx l.ny
    rateSq := nextRateSq l.rateSq (l.nx - (l.ex + 1)) rPos slowing } := by
  simp only [Leg.advance, h]

theorem Leg.advance_y {l : Leg} (h : l.leads = .y) : l.advance rPos slowing = { l with
    ey := l.ey + 1, ex := withLead (l.ey + 1) l.ny l.nx
    rateSq := nextRateSq l.rateSq (l.ny - (l.ey + 1)) rPos slowing } := by
  simp only [Leg.advance, h]

end

/-! ### The player's own moves (R33, R97) -/

/-- R97: the state in which the player's move has been asked for. -/
def State.moveAsked (s : State) (op : MoveOp) (errand : Errand) : State :=
  { s with
    player := { s.player with state := .returning, errand := errand }
    frame := s.frame.beginLegs op [s.cursorTarget] }

theorem Frame.beginLegs_eq (f : Frame) (op : MoveOp) (targets : List (Int × Int)) :
    ∃ (leg : Leg) (rest : List (Int × Int)), f.beginLegs op targets = { f with move := some (.legs op leg rest none) } := by
  unfold Frame.beginLegs
  split
  · exact ⟨_, _, rfl⟩
  · exact ⟨_, _, rfl⟩

section
variable {s : State} {op : MoveOp} {errand : Errand} {leg : Leg}

theorem State.playerMove_blocked {c : AxisCause}
    (hleg : Leg.between s.frame.x s.frame.y s.cursorTarget.1 s.cursorTarget.2 = leg) (hc : s.moveBlocked leg = some c) :
    s.playerMove op errand = (s.moveAsked op errand).axisFault c := by
  rw [State.playerMove]
  simp only [hleg, hc]
  rfl

/-- R97: a move without steps completes at once. -/
theorem State.playerMove_of_empty (hleg : Leg.between s.frame.x s.frame.y s.cursorTarget.1 s.cursorTarget.2 = leg)
    (hempty : leg.isEmpty = true) (hfree : s.moveBlocked leg = none) (hmove : s.frame.move = none)
    (howner : s.frame.owner = .player) (hafter : s.frame.after = .keep) :
    s.playerMove op errand = ({ s with player := { s.player with state := .returning, errand := errand } }.latch .frameDone
      (b1 op.code ++ [0, 0xFF] ++ sBytes4 s.frame.x ++ sBytes4 s.frame.y)).playerMoveDone := by
  obtain ⟨first, rest, hbegin⟩ := s.frame.beginLegs_eq op [s.cursorTarget]
  have hasked : s.playerMove op errand = ((s.moveAsked op errand).finishMove none).playerMoveDone := by
    rw [State.playerMove]
    simp only [hleg, hfree, hempty, if_true]
    rfl
  have hmoving : (s.moveAsked op errand).frame.move = some (.legs op first rest none) := by
    rw [State.moveAsked, hbegin]
  have hframe : { (s.moveAsked op errand).frame with move := none }.settleOwner = s.frame := by
    have hstill : { s.frame with move := none } = s.frame := by rw [← hmove]
    rw [State.moveAsked, hbegin]
    exact (Frame.settleOwner_of_keep (f := { s.frame with move := none }) howner hafter).trans hstill
  rw [hasked, State.finishMove_eq hmoving, hframe]
  rw [State.moveAsked, hbegin]
  rfl

end

/-- R88, R97: the LIMIT input or the drive that blocks a move. -/
theorem State.moveBlocked_isSome (s : State) (leg : Leg) : (s.moveBlocked leg).isSome = true ↔
    ((leg.nx ≠ 0 ∧ s.inputActive (if leg.xNeg then 26 else 27) = true) ∨
      (leg.ny ≠ 0 ∧ s.inputActive (if leg.yNeg then 28 else 29) = true)) ∨ s.frame.readyX = false ∨ s.frame.readyY = false := by
  have hahead : (s.limitAhead leg).isSome = true ↔
      (leg.nx ≠ 0 ∧ s.inputActive (if leg.xNeg then 26 else 27) = true) ∨
        (leg.ny ≠ 0 ∧ s.inputActive (if leg.yNeg then 28 else 29) = true) := by
    unfold State.limitAhead
    cases leg.xNeg <;> cases leg.yNeg <;> simp <;> grind
  unfold State.moveBlocked
  cases h : s.limitAhead leg with
  | some c => simp [← hahead, h]
  | none =>
    rw [← hahead, h]
    cases s.frame.readyX <;> cases s.frame.readyY <;> simp

/-- R88, R93, R94: a player that an axis fault halts lends the frame at once. -/
theorem State.axisFault_frame {s : State} (c : AxisCause) (howner : s.frame.owner = .player) (hafter : s.frame.after = .keep)
    (hsewing : s.gov.move = none) (hi : s.player.state ≠ .idle) (hh : ∀ k : HaltCause, s.player.state ≠ .halted k) :
    (s.axisFault c).frame = { s.frame with known := false, move := none, lent := true } := by
  have hclaimed : s.frame.claimed = true := by rw [Frame.claimed_iff]; exact Or.inl howner
  obtain ⟨-, -, hplayer, -, -, -, hsewn⟩ := s.axisStopped_keeps c
  have hstopped : (s.axisStopped c).frame = { s.frame with known := false, move := none } := by
    have hfinished : ((s.axisLatched c).finishMove (some (.axis c))).frame = { s.frame with known := false, move := none } := by
      rw [State.finishMove_frame]
      have hlatched : (s.axisLatched c).frame = { s.frame with known := false } := by simp [State.axisLatched]
      rw [hlatched]
      cases hm : s.frame.move with
      | none => simp [hm]
      | some m => simp [Frame.settleOwner, howner, hafter]
    rw [State.axisStopped, State.abandonSewing_frame, hfinished]
    have hgov : ((s.axisLatched c).finishMove (some (.axis c))).gov.move = none := by simpa [State.axisLatched] using hsewing
    rw [hgov]
    rfl
  rw [State.axisFault_of_claimed c hclaimed, State.reportFault_enters (by rw [hplayer]; exact hi) (by rw [hplayer]; exact hh),
    State.enterHalted_frame, hstopped, hsewn]
  exact if_pos howner

/-- R97: what is left of a player's move that is refused as an axis fault. -/
theorem State.playerMove_faults {s : State} {op : MoveOp} {errand : Errand} {c : AxisCause}
    (hc : s.moveBlocked (Leg.between s.frame.x s.frame.y s.cursorTarget.1 s.cursorTarget.2) = some c)
    (howner : s.frame.owner = .player) (hafter : s.frame.after = .keep) (hmove : s.frame.move = none) (hsewing : s.gov.move = none)
    (he : errand.moving = true) {t : State} (ht : t = s.playerMove op errand) :
    t.quiet = true ∧ t.player.state = .halted .axis ∧ t.player.queue = [] ∧ t.player.errand = .none ∧ t.player.displaced = true ∧
      t.player.cursor = s.player.cursor ∧ t.frame = { s.frame with known := false, lent := true } ∧
      t.ev.flags &&& Event.axisFault.bit ≠ 0 ∧ t.ev.flags &&& Event.frameDone.bit ≠ 0 := by
  obtain ⟨first, rest, hbegin⟩ := s.frame.beginLegs_eq op [s.cursorTarget]
  obtain ⟨u, hu⟩ : ∃ u, u = s.moveAsked op errand := ⟨_, rfl⟩
  have hframe : u.frame = { s.frame with move := some (.legs op first rest none) } := by rw [hu, State.moveAsked, hbegin]
  have hplayer : u.player = { s.player with state := .returning, errand := errand } := by rw [hu]; rfl
  have hsews : u.player.state ≠ .idle ∧ ∀ k : HaltCause, u.player.state ≠ .halted k := by rw [hplayer]; exact ⟨nofun, nofun⟩
  have hclaimed : u.frame.claimed = true := by rw [Frame.claimed_iff, hframe]; exact Or.inl howner
  have hfault : t = u.axisFault c := by rw [ht, hu, State.playerMove_blocked rfl hc]
  have hlent : (u.axisFault c).frame = { s.frame with known := false, lent := true } := by
    rw [State.axisFault_frame c (by rw [hframe]; exact howner) (by rw [hframe]; exact hafter) (by rw [hu]; exact hsewing) hsews.1
      hsews.2, hframe, ← hmove]
  have hfaulted := u.axisFault_axisFaulted c
  have hhalts := hfaulted.halts hclaimed hsews.1 hsews.2
  rw [hfault, hhalts, hlent]
  refine ⟨State.axisFault_quiet c (Or.inr ⟨hclaimed, hsews⟩), rfl, rfl, rfl, ?_, by rw [hplayer]; rfl, rfl, hfaulted.latched,
    hfaulted.done (by rw [hframe]; rfl)⟩
  rw [hplayer]
  show (s.player.displaced || s.player.active.isSome || errand.moving) = true
  rw [he, Bool.or_true]

end Sys2Proof.Machine
end

section
/-! PROOF. The completion of the player's moves, and the steps of held-shaft moves and homings (O37). -/

namespace Sys2Proof.Machine

/-! ### The completion of a return move (R33, R36, R43) -/

section
variable {s : State} {source : ChangeSource} {r : StopReason}

theorem State.playerMoveDone_return (he : s.player.errand = .returnMove source) :
    s.playerMoveDone = s.landed.returnDone source := by
  simp only [State.playerMoveDone, he]

theorem State.returnMove_goesOn (he : s.player.errand = .returnMove source) (hr : s.player.stopReason = none) :
    s.playerMoveDone = { s with
      player := { s.player with displaced := false, state := .changing, errand := .changeWait source 0 } } := by
  rw [State.playerMoveDone_return he, State.returnDone]
  simp only [State.landed, State.modPlayer, hr]

theorem State.returnMove_held (he : s.player.errand = .returnMove source) (hr : s.player.stopReason = some r) :
    s.playerMoveDone =
      State.takeReason { s with player := { s.player with displaced := false, errand := .none } } r r.pause := by
  rw [State.playerMoveDone_return he, State.returnDone]
  simp only [State.landed, State.modPlayer, hr]

end

/-! ### The completion of a lead-in (R34, R36) -/

section
variable {s : State} {r : StopReason}

theorem State.playerMoveDone_lead (he : s.player.errand = .leadMove) : s.playerMoveDone = s.landed.leadDone := by
  simp only [State.playerMoveDone, he]

theorem State.leadMove_held (he : s.player.errand = .leadMove) (hr : s.player.stopReason = some r) :
    s.playerMoveDone = State.takeReason { s with player := { s.player with errand := .none } } r r.pause := by
  rw [State.playerMoveDone_lead he, State.leadDone]
  simp only [State.landed, State.modPlayer, hr]

theorem State.leadMove_starves (he : s.player.errand = .leadMove) (hr : s.player.stopReason = none)
    (hq : s.player.queue = []) : s.playerMoveDone = State.enterStarved { s with player := { s.player with errand := .none } } := by
  rw [State.playerMoveDone_lead he, State.leadDone]
  simp only [State.landed, State.modPlayer, hr, hq]

theorem State.leadMove_record {e : QueueEntry} {later : List QueueEntry} (he : s.player.errand = .leadMove)
    (hr : s.player.stopReason = none) (hq : s.player.queue = e :: later) : s.playerMoveDone =
      if e.kind = .stop then State.takeStop { s with player := { s.player with errand := .none } } e
      else if e.kind = .endRec then State.enterFinished { s with player := { s.player with errand := .none } }
      else State.enterRunning { s with player := { s.player with errand := .none } } := by
  rw [State.playerMoveDone_lead he, State.leadDone]
  simp only [State.landed, State.modPlayer, hr, hq]

end

/-- R37, R34: the STOP record at the queue's head is taken. -/
theorem State.takeStop_eq (s : State) (e : QueueEntry) : s.takeStop e = State.prefetch { s with
    player := { s.player with
      state := .changing, queue := s.player.queue.drop 1, cursor := e.index + 1
      resume := if s.player.mode = .normal then max s.player.resume (e.index + 1) else s.player.resume
      stopIndex := none, soonStop := false, positionAsked := false
      errand := .changeWait .stopRecord (e.block + 1) } } := rfl

section
variable {s : State}

/-- R37, R40: an entry to FINISHED where nothing moves. -/
theorem State.enterFinished_of_still (howner : s.frame.owner = .player) (hmove : s.frame.move = none)
    (hsewing : s.gov.move = none) : s.enterFinished = { s with
      player := { s.player with
        state := .finished, stopReason := none, stopIndex := none, soonStop := false, positionAsked := false
        errand := .none, entryTrim := .none, queue := [] }
      frame := { s.frame with lent := true } }.latch .playerState (8 :: 0xFF :: b4 s.player.cursor) := by
  have hlent : s.frame.lendBy s.gov.move.isSome = { s.frame with lent := true } := by
    rw [Frame.lendBy, if_pos howner, if_neg (by simp [hmove, hsewing])]
  rw [← hlent, State.enterFinished, State.lend_eq]
  rfl

/-- R39: an entry to STARVED with nothing more stored. -/
theorem State.enterStarved_of_dry (h : ∀ d : Design, s.armedDesign = some d → d.stored < s.player.cursor + 16 ∧ d.stored ≠ d.declared) :
    s.enterStarved = { s with
      player := { s.player with
        state := .starved, stopReason := none, stopIndex := none, soonStop := false, positionAsked := false
        errand := .none, entryTrim := .none, starvedMark := s.player.cursor } }.latch .playerState
          (7 :: 0xFF :: b4 s.player.cursor) := by
  obtain ⟨u, hu⟩ : ∃ u : State, u = { s with
      player := { s.player with
        state := .starved, stopReason := none, stopIndex := none, soonStop := false, positionAsked := false
        errand := .none, entryTrim := .none, starvedMark := s.player.cursor } }.latch .playerState
          (7 :: 0xFF :: b4 s.player.cursor) := ⟨_, rfl⟩
  have hmarked : u.player.starvedMark = s.player.cursor := by simp [hu]
  have harmed : u.armedDesign = s.armedDesign := by simp [hu, State.armedDesign]
  have hdry : ¬u.starvedMet = true := by
    cases hd : s.armedDesign with
    | none => simp [State.starvedMet, harmed, hd]
    | some d =>
      obtain ⟨hfew, hopen⟩ := h d hd
      rw [State.starvedMet_eq (harmed.trans hd), hmarked]
      omega
  have hentered : (((s.modPlayer fun p => { p.clearStop with state := .starved, starvedMark := p.cursor }).reportPlayer)) = u := by
    rw [hu]
    rfl
  rw [State.enterStarved]
  simp only [hentered]
  rw [if_neg hdry, hu]

/-- R35: a planned stop at a named index, with none asked for before. -/
theorem Player.combineStop_unheld {p : Player} (r : StopReason) (i : Nat) (h : p.stopReason = none) :
    p.combineStop r (some i) = { p with
      stopReason := some r
      stopIndex := some (match p.stopIndex with
        | some held => min held i
        | none => i) } := by
  rw [Player.combineStop, h]
  cases p.stopIndex <;> simp [StopReason.combine, lowerIndex]

/-- R34, R152: the player in RUNNING, with the pass-end stop asked for in the block of H. -/
theorem State.enterRunning_of_held (hheld : s.shaft.state = .held) (hready : s.shaft.driveReady = true)
    (howner : s.frame.owner = .player) : s.enterRunning = { s with
      player :=
        if s.player.mode = .repair ∧ s.blockOf s.player.cursor = s.blockOf s.player.resume then
          { s.player.combineStop .passEnd (some s.player.resume) with state := .stopping, errand := .none }
        else { s.player with state := .running, errand := .none }
      shaft := { s.shaft.setDemand s.gov.active.motion.sStop (min s.gov.active.motion.sStart s.gov.sCmd) with
        state := .turning, runUp := true }
      nc := s.nc.endMove
      outs := s.outs.allAuto } := by
  have hnot : s.frame.owner ≠ .positioner := by simp [howner]
  rw [State.enterRunning]
  simp only []
  by_cases h : s.player.mode = .repair ∧ s.blockOf s.player.cursor = s.blockOf s.player.resume
  · rw [if_pos (by exact h), if_pos h, State.turnRequest_of_held (by exact hheld), State.enterTurning_eq (by exact hready) (by exact hnot)]
    rfl
  · rw [if_neg (by exact h), if_neg h, State.turnRequest_of_held (by exact hheld), State.enterTurning_eq (by exact hready) (by exact hnot)]
    rfl

end

/-! ### A step of the leading axis (R92, R93) -/

theorem exec_axisStep (a : Axis) (s : State) : exec (.axisStep a) s = .next (s.event fun t => t.axisStepNow a) := rfl

theorem exec_homingSearchLimit (s : State) : exec .homingSearchLimit s = .next (s.event State.homingLimit) := rfl

/-- R92, R87: the frame after a step of the leading axis and those of the other axis that go out with it. -/
def Frame.stepped (f : Frame) (leg leg' : Leg) : Frame :=
  (f.stepX leg.xNeg (leg'.ex - leg.ex)).stepY leg.yNeg (leg'.ey - leg.ey)

@[simp] theorem Frame.stepped_keeps (f : Frame) (leg leg' : Leg) :
    (f.stepped leg leg').owner = f.owner ∧ (f.stepped leg leg').lent = f.lent ∧ (f.stepped leg leg').after = f.after ∧
      (f.stepped leg leg').move = f.move := ⟨rfl, rfl, rfl, rfl⟩

/-- R94, R96: the frame once its move has ended. -/
theorem Frame.settleOwner_ended (f : Frame) : { f with move := none }.settleOwner = match f.owner with
    | .positioner => { f with move := none, owner := if f.lent then .player else .none, after := .keep }
    | .player => (match f.after with
      | .keep => { f with move := none }
      | .lend => { f with move := none, lent := true, after := .keep }
      | .release => { f with move := none, owner := .none, lent := false, after := .keep })
    | .none => { f with move := none, after := .keep } := by
  obtain ⟨x, y, known, owner, lent, move, after, hoops, hoop, settings, readyX, readyY⟩ := f
  cases owner with
  | none => rfl
  | positioner => cases lent <;> rfl
  | player => cases after <;> rfl

section
variable {s : State} {op : MoveOp} {leg leg' : Leg} {rest : List (Int × Int)} {slowing : Option AbortCause} {a : Axis}

theorem State.axisStepNow_legs (hsew : s.gov.move = none) (hm : s.frame.move = some (.legs op leg rest slowing)) :
    s.axisStepNow a = if leg.leads = a then s.legStep op leg rest slowing else s := by
  simp only [State.axisStepNow, hsew, hm]

/-- R92, R93: the state after the steps, before a leg or the move ends. -/
def State.legMoved (s : State) (op : MoveOp) (leg leg' : Leg) (rest : List (Int × Int)) (slowing : Option AbortCause) : State :=
  { s with frame := { s.frame.stepped leg leg' with move := some (.legs op leg' rest slowing) } }

theorem State.legStep_none (hleg : leg.advance s.frame.settings.rPos false = leg') : s.legStep op leg rest none =
    if leg'.done then (s.legMoved op leg leg' rest none).legDone op rest else s.legMoved op leg leg' rest none := by
  subst hleg
  rfl

theorem State.legStep_some {c : AbortCause} (hleg : leg.advance s.frame.settings.rPos true = leg') :
    s.legStep op leg rest (some c) =
      if leg'.done || decide (leg'.rateSq ≤ 4000000) then (s.legMoved op leg leg' rest (some c)).finishMove (some c)
      else s.legMoved op leg leg' rest (some c) := by
  subst hleg
  rfl

/-- R96, R97: the state in which the move has ended. -/
def State.legEnded (s : State) (op : MoveOp) (leg leg' : Leg) (abort : Option AbortCause) : State :=
  { s with frame := { s.frame.stepped leg leg' with move := none }.settleOwner }.latch .frameDone
    (b1 op.code ++ bFlag abort.isSome ++ o1 (abort.map AbortCause.code) ++ sBytes4 (s.frame.stepped leg leg').x ++
      sBytes4 (s.frame.stepped leg leg').y)

theorem State.legMoved_finish (abort : Option AbortCause) :
    (s.legMoved op leg leg' rest slowing).finishMove abort = s.legEnded op leg leg' abort := by
  have hm : (s.legMoved op leg leg' rest slowing).frame.move = some (.legs op leg' rest slowing) := rfl
  rw [State.finishMove_eq hm, State.legEnded]
  simp only [State.legMoved, FrameMove.op]

theorem State.legDone_next {next : Leg} {more : List (Int × Int)}
    (h : firstLeg (s.frame.stepped leg leg').x (s.frame.stepped leg leg').y rest = some (next, more)) :
    (s.legMoved op leg leg' rest slowing).legDone op rest = { s with frame := { s.frame.stepped leg leg' with move := some (.legs op next more none) } } := by
  have hfirst : firstLeg (s.legMoved op leg leg' rest slowing).frame.x (s.legMoved op leg leg' rest slowing).frame.y rest =
      some (next, more) := h
  simp only [State.legDone, hfirst]
  rfl

theorem State.legDone_ends (h : firstLeg (s.frame.stepped leg leg').x (s.frame.stepped leg leg').y rest = none) :
    ((op = .leadIn ∨ op = .returnMove) →
      (s.legMoved op leg leg' rest slowing).legDone op rest = (s.legEnded op leg leg' none).playerMoveDone) ∧
    (op ≠ .leadIn → op ≠ .returnMove →
      (s.legMoved op leg leg' rest slowing).legDone op rest = s.legEnded op leg leg' none) := by
  have hfirst : firstLeg (s.legMoved op leg leg' rest slowing).frame.x (s.legMoved op leg leg' rest slowing).frame.y rest =
      none := h
  simp only [State.legDone, hfirst, State.legMoved_finish]
  cases op <;> simp

@[simp] theorem State.legEnded_keeps (abort : Option AbortCause) :
    (s.legEnded op leg leg' abort).player = s.player ∧ (s.legEnded op leg leg' abort).gov = s.gov ∧
      (s.legEnded op leg leg' abort).shaft = s.shaft ∧ (s.legEnded op leg leg' abort).nc = s.nc ∧
      (s.legEnded op leg leg' abort).outs = s.outs ∧ (s.legEnded op leg leg' abort).store = s.store ∧
      (s.legEnded op leg leg' abort).heads = s.heads ∧
      (s.legEnded op leg leg' abort).frame = { s.frame.stepped leg leg' with move := none }.settleOwner := by
  simp [State.legEnded]

end

/-! ### A reason held to the end of the player's move (R36, R43) -/

theorem State.takeReason_of_ne {s : State} {r : StopReason} {why : PauseReason} (h : r ≠ .design) :
    s.takeReason r why = s.enterPaused why := if_neg h

theorem State.takeReason_design (s : State) (why : PauseReason) : s.takeReason .design why = s.enterHalted .design := if_pos rfl

/-- R36: the reasons that pause the player, each under its own name. -/
def StopReason.Pauses (r : StopReason) (why : PauseReason) : Prop :=
  (r = .hostStop ∧ why = .hostStop) ∨ (r = .buttonStop ∧ why = .buttonStop) ∨ (r = .breakStop ∧ why = .breakStop) ∨
    (r = .bobbinStop ∧ why = .bobbinStop) ∨ (r = .passEmpty ∧ why = .passEmpty)

theorem StopReason.Pauses.eq {r : StopReason} {why : PauseReason} (h : r.Pauses why) : r ≠ .design ∧ r.pause = why := by
  obtain ⟨rfl, rfl⟩ | ⟨rfl, rfl⟩ | ⟨rfl, rfl⟩ | ⟨rfl, rfl⟩ | ⟨rfl, rfl⟩ := h <;> exact ⟨nofun, rfl⟩

theorem State.takeReason_pauses {s : State} {p : Player} {f : Frame} {r : StopReason} {why : PauseReason} (h : r.Pauses why)
    (hf : s.frame = f) (howner : f.owner = .player) (hmove : f.move = none) (hsewing : s.gov.move = none) :
    State.takeReason { s with player := p } r r.pause = { s with
      player := { p with
        state := .paused why, stopReason := none, stopIndex := none, soonStop := false, positionAsked := false
        errand := .none, entryTrim := .none }
      frame := { f with lent := true } }.latch .playerState (6 :: b1 why.code ++ b4 p.cursor) := by
  subst hf
  obtain ⟨hd, rfl⟩ := h.eq
  rw [State.takeReason_of_ne hd, State.enterPaused_of_still (by exact howner) (by exact hmove) (by exact hsewing)]

theorem State.enterHalted_frame_of_still {s : State} (c : HaltCause) (howner : s.frame.owner = .player)
    (hmove : s.frame.move = none) (hsewing : s.gov.move = none) : (s.enterHalted c).frame = { s.frame with lent := true } := by
  have hslow (cause : AbortCause) : s.frame.slow cause = s.frame := by simp [Frame.slow, hmove]
  have hhalt : s.frame.haltBy c = s.frame := by
    cases c <;> first | exact hslow _ | rfl
  have hunsewn : (if c = .overrun then s.frame else s.frame.unsewn s.gov.move.isSome) = s.frame := by
    rw [hsewing]
    exact ite_self _
  have hnone : (if c = .overrun then s.gov.move else none : Option SewMove).isSome = false := by simp [hsewing]
  rw [State.enterHalted_frame, hunsewn, hhalt, hnone, Frame.lendBy_of_still hmove, if_pos howner]

theorem State.Latches.enterHalted_modPlayer (s : State) (p : Player) (c : HaltCause) :
    s.Latches (State.enterHalted { s with player := p } c) := by
  have hplayer : s.Latches { s with player := p } := .of_ev_eq rfl
  exact hplayer.trans (.enterHalted { s with player := p } c)

/-- R43: DESIGN held to the end of a move halts the player, the frame lent at once. -/
theorem State.takeReason_halts {s : State} {p : Player} {f : Frame} {why : PauseReason} (hf : s.frame = f)
    (howner : f.owner = .player) (hmove : f.move = none) (hsewing : s.gov.move = none) {t : State}
    (ht : t = State.takeReason { s with player := p } .design why) :
    t.player = p.halt .design ∧ t.frame = { f with lent := true } ∧ t.nc.kept = none ∧
      t.ev.flags &&& Event.playerState.bit ≠ 0 ∧ s.Latches t := by
  subst hf
  rw [State.takeReason_design] at ht
  rw [ht]
  refine ⟨State.enterHalted_player _ _, State.enterHalted_frame_of_still .design howner hmove hsewing, ?_,
    State.Latches.enterHalted_latched _ _, State.Latches.enterHalted_modPlayer s p .design⟩
  rw [State.enterHalted_nc]
  rfl

/-! ### Homing (R99, R100) -/

section
variable {s : State} {a : Axis} {stage : HomeStage}

theorem State.axisStepNow_homing (hsew : s.gov.move = none) (hm : s.frame.move = some (.homing a stage)) :
    s.axisStepNow a = s.homingStep a stage := by
  simp only [State.axisStepNow, hsew, hm, if_true]

theorem State.homingStep_clear {n : Nat} (h : s.homeActive a = true) :
    s.homingStep a (.clear n) = if n < 4000 then s.homeStep a true (.clear (n + 1)) else s := by
  simp only [State.homingStep, HomeStage.see, h, if_true]

theorem State.homingStep_clearMore {n : Nat} : s.homingStep a (.clearMore n) =
    if n + 1 < 40 then s.homeStep a true (.clearMore (n + 1))
    else s.homeStep a true (if s.homeActive a then .backOff 0 else .search 0) := rfl

theorem State.homingStep_search {n : Nat} (h : s.homeActive a = false) :
    s.homingStep a (.search n) = if n < searchBound a then s.homeStep a false (.search (n + 1)) else s := by
  simp only [State.homingStep, HomeStage.see, h, Bool.false_eq_true, if_false]

theorem State.homingStep_backOff {n : Nat} : s.homingStep a (.backOff n) =
    if n + 1 < 40 then s.homeStep a true (.backOff (n + 1)) else (s.homeStep a true (.backOff (n + 1))).homeDone a := rfl

theorem State.homingStep_last : s.homingStep a (.backOff 39) = (s.homeStep a true (.backOff 40)).homeDone a := rfl

theorem State.homingLimit_clear {n : Nat} (hm : s.frame.move = some (.homing a (.clear n))) (hn : 4000 ≤ n)
    (h : s.homeActive a = true) : s.homingLimit = s.axisFault .homeStuck := by
  simp only [State.homingLimit, hm]
  exact if_pos ⟨hn, h⟩

theorem State.homingLimit_search {n : Nat} (hm : s.frame.move = some (.homing a (.search n))) (hn : searchBound a ≤ n)
    (h : s.homeActive a = false) : s.homingLimit = s.axisFault .homeNotFound := by
  simp only [State.homingLimit, hm]
  exact if_pos ⟨hn, by rw [h]; rfl⟩

theorem State.setFrame_latch (s : State) (e : Event) (detail : List Byte) (f : Frame) :
    ({ s.latch e detail with frame := f } : State) = ({ s with frame := f } : State).latch e detail := by
  simp [State.latch_eq]

/-- R96, R94: a homing in a frame of the positioner alone ends in an axis fault with the frame free. -/
theorem State.axisFault_homing (c : AxisCause) (hm : s.frame.move = some (.homing a stage)) (hsew : s.gov.move = none)
    (howner : s.frame.owner = .positioner) (hlent : s.frame.lent = false) : s.axisFault c = ({ s with
      frame := { s.frame with known := false, move := none, owner := .none, after := .keep } }.latch .axisFault
        (b1 c.code ++ [4] ++ sBytes4 s.frame.x ++ sBytes4 s.frame.y)).latch .frameDone
          ([1, 1] ++ b1 c.code ++ sBytes4 s.frame.x ++ sBytes4 s.frame.y) := by
  have hfree : { s.frame with known := false, move := none }.settleOwner =
      { s.frame with known := false, move := none, owner := .none, after := .keep } := by
    simp [Frame.settleOwner, howner, hlent]
  have hkind : o1 s.moveKind = [4] := by
    simp only [State.moveKind, hsew, hm]
    rfl
  have hmoving : (s.axisLatched c).frame.move = some (.homing a stage) := by simp [State.axisLatched, hm]
  have hlatched : (s.axisLatched c).frame = { s.frame with known := false } := by simp [State.axisLatched]
  rw [State.axisFault_of_not c (by simp [Frame.claimed, howner, hlent]), State.axisStopped,
    State.abandonSewing_of_none (by simp [State.axisLatched, hsew]), State.finishMove_eq hmoving, hlatched]
  dsimp only
  rw [hfree, State.axisLatched, hkind, State.setFrame_latch]
  rfl

/-- R88, R44: where the player waits for nothing, an axis fault begins nothing. -/
theorem State.axisFault_quiet_of_no_errand (c : AxisCause) (hq : s.quiet = true) (he : s.player.errand = .none) :
    (s.axisFault c).quiet = true := by
  obtain ⟨-, -, hplayer, hshaft, -, hnc, -⟩ := s.axisStopped_keeps c
  cases hc : s.frame.claimed with
  | false =>
    rw [State.axisFault_of_not c hc]
    exact State.quiet_of_no_errand hq hnc (congrArg _ hshaft) (by rw [hplayer]; exact he)
  | true =>
    rw [State.axisFault_of_claimed c hc]
    have herrand := State.reportFault_errand (s := s.axisStopped c) .axis (Or.inl (by rw [hplayer]; exact he))
    obtain hs | hs := (s.axisStopped c).reportFault_shaft .axis
    · obtain hn | hn := (s.axisStopped c).reportFault_nc .axis
      · exact State.quiet_of_no_errand hq (hn.trans hnc) (congrArg _ (hs.trans hshaft)) herrand
      · exact State.quiet_of_no_kept (by rw [hn]; rfl) herrand
    · refine State.quiet_of_not_held ?_ herrand
      rw [hs, Shaft.brake_state]
      exact ShaftState.braked_ne_held _ _

/-- R99: the last step back of the X axis: its position is set, and the Y axis is homed. -/
theorem State.homeDone_x : (s.homeStep .x true (.backOff 40)).homeDone .x = { s with
    frame := { s.frame with
      x := 4 * s.frame.settings.offX
      known := s.frame.known && !beyondRange s.frame.x (s.frame.settings.homePositive .x) 1
      move := some (.homing .y (if s.homeActive .y then .clear 0 else .search 0)) } } := rfl

/-- R99: the last step back of the Y axis: its position is set, trust is KNOWN, and the homing ends. -/
theorem State.homeDone_y (howner : s.frame.owner = .positioner) :
    (s.homeStep .y true (.backOff 40)).homeDone .y = { s with
      frame := { s.frame with
        y := 4 * s.frame.settings.offY, known := true, move := none, after := .keep
        owner := if s.frame.lent then .player else .none } }.latch .frameDone
          ([1, 0, 0xFF] ++ sBytes4 s.frame.x ++ sBytes4 (4 * s.frame.settings.offY)) := by
  obtain ⟨f, hf⟩ : ∃ f : Frame, f = { s.frame with
    y := 4 * s.frame.settings.offY, known := true, move := some (.homing .y (.backOff 40)) } := ⟨_, rfl⟩
  have hset : (s.homeStep .y true (.backOff 40)).homeDone .y = State.finishMove { s with frame := f } none := by
    rw [hf]
    rfl
  have hback : { f with move := none }.settleOwner = { s.frame with
      y := 4 * s.frame.settings.offY, known := true, move := none, after := .keep
      owner := if s.frame.lent then .player else .none } := by
    rw [hf]
    cases hl : s.frame.lent <;> simp [Frame.settleOwner, howner, hl]
  have hmoving : f.move = some (.homing .y (.backOff 40)) := by rw [hf]
  rw [hset, State.finishMove_eq (m := .homing .y (.backOff 40)) hmoving, hf]
  rw [hf] at hback
  dsimp only at hback ⊢
  rw [hback]
  rfl

end

/-- Settles O37: the steps, the moves that begin, the leading axis, then the legs and the stages of a homing, each by its
equation. -/
theorem axisStepsMoveTheFrame : Obligations.AxisStepsMoveTheFrame := by
  refine ⟨fun f negative n hxlo hxhi hylo hyhi => ?steps, ?begins, fun leg rPos slowing => ?advance, ?moves⟩
  case steps => exact ⟨f.stepX_eq negative n hxlo hxhi, f.stepY_eq negative n hylo hyhi, rfl, rfl⟩
  case begins =>
    intro s ox oy hk hsew hmove howner hlent hafter ho place leg toward blocked begins
    have hbegins {u : State} {op : MoveOp} {errand : Errand} (hone : s.settleOne = some (u.playerMove op errand))
        (hframe : u.frame = s.frame) (hgov : u.gov = s.gov) (hnc : u.nc = s.nc) (hev : u.ev = s.ev) (hstore : u.store = s.store)
        (hplayer : u.player = { s.player with queue := u.player.queue }) (he : errand.moving = true) : begins u op errand := by
      have htarget : u.cursorTarget = (ox + 4 * place.1, oy + 4 * place.2) := by
        rw [State.cursorTarget, State.positionOf, State.armedDesign, hplayer, hstore, ho]
        rfl
      have hleg : Leg.between u.frame.x u.frame.y u.cursorTarget.1 u.cursorTarget.2 = leg := by rw [htarget, hframe]
      have hinput (n : Nat) : u.inputActive n = s.inputActive n := by rw [State.inputActive, hev, State.inputActive]
      have hblocked : (u.moveBlocked leg).isSome = true ↔ blocked := by
        rw [State.moveBlocked_isSome, hinput, hinput, hframe]
      have hfree (hb : ¬blocked) : u.moveBlocked leg = none := by
        rwa [← hblocked, Bool.not_eq_true, Option.isSome_eq_false_iff, Option.isNone_iff_eq_none] at hb
      have hempty : leg.isEmpty = true ↔ leg.nx = 0 ∧ leg.ny = 0 := by simp [Leg.isEmpty]
      refine ⟨fun hb hn => ?_, fun hb hn => ?_, fun hb => ?_⟩
      · have hmoves := State.playerMove_of_leg (op := op) (errand := errand) hleg (by rwa [← Bool.not_eq_true, hempty]) (hfree hb)
        rw [State.settle_once hone, hmoves, hframe]
        rw [hmoves]
        exact State.quiet_of_in_flight (by rw [← hk, ← hnc]) he
      · rw [State.settle_of_some hone, State.playerMove_of_empty hleg (hempty.2 hn) (hfree hb) (by rw [hframe]; exact hmove)
          (by rw [hframe]; exact howner) (by rw [hframe]; exact hafter), hframe]
      · obtain ⟨c, hc⟩ := Option.isSome_iff_exists.1 (hblocked.2 hb)
        obtain ⟨hq, hstate, hqueue, herrand, hdisplaced, hcursor, hf, hflags⟩ := State.playerMove_faults (t := u.playerMove op errand)
          (by rw [hleg]; exact hc) (by rw [hframe]; exact howner) (by rw [hframe]; exact hafter) (by rw [hframe]; exact hmove)
          (by rw [hgov]; exact hsew) he rfl
        rw [State.settle_once hone hq]
        exact ⟨hstate, hqueue, herrand, hdisplaced, by rw [hcursor, hplayer], by rw [hf, hframe], hflags⟩
    have hstill : s.frameFree = true := by simp [State.frameFree, hmove, hsew]
    refine ⟨fun he => hbegins ?_ rfl rfl rfl rfl rfl rfl rfl, fun source he hheld => ?_⟩
    · simp only [State.settleOne, hk, he, hstill, if_true]
    · have hone : s.settleOne = some (s.refill.playerMove .returnMove (.returnMove source)) := by
        simp [State.settleOne, hk, he, hstill, State.isHeld, hheld]
      have hrefill : s.refill = { s with
          player := { s.player with
            queue := { s with player := { s.player with queue := [] } }.prefetch.player.queue } } := by
        obtain ⟨q, hq⟩ := State.prefetch_queue { s with player := { s.player with queue := [] } }
        have hfilled : s.refill = State.prefetch { s with player := { s.player with queue := [] } } := rfl
        rw [hfilled, hq]
        rfl
      rw [hrefill] at hone
      exact hbegins hone rfl rfl rfl rfl rfl rfl rfl
  case advance =>
    intro l next
    obtain ⟨hnx, hny, hxn, hyn⟩ := leg.advance_keeps rPos slowing
    have hnext (owed : Nat) : nextRateSq leg.rateSq owed rPos slowing = next owed := rfl
    refine ⟨hnx, hny, hxn, hyn, fun hle => ?_, fun hlt => ?_⟩
    · have hl : l = _ := Leg.advance_x rPos slowing (Leg.leads_of_le hle)
      rw [hl]
      exact ⟨Leg.leads_of_le hle, rfl, hnext _, fun hpos j => le_withLead hpos _ _ _⟩
    · have hl : l = _ := Leg.advance_y rPos slowing (Leg.leads_of_lt hlt)
      rw [hl]
      exact ⟨Leg.leads_of_lt hlt, rfl, hnext _, fun j => le_withLead (Nat.zero_lt_of_lt hlt) _ _ _⟩
  case moves =>
    intro s hheld hq hsew
    have stepped {a : Axis} {t : State} (ht : s.axisStepNow a = t) (hquiet : t.quiet = true) : exec (.axisStep a) s = .next t := by
      rw [exec_axisStep, s.event_quiet _ hheld (by rw [ht]; exact hquiet), ht]
    refine ⟨fun op leg rest slowing a hm => ?legs, fun a n => ?homing, fun hm => ?homeX, fun hm howner he => ?homeY⟩
    case legs =>
      intro leg' moved answer detail back done rested pauses
      have hmoved : s.frame.stepped leg leg' = moved := rfl
      have hback : { moved with move := none }.settleOwner = back := Frame.settleOwner_ended moved
      have hended (abort : Option AbortCause) : s.legEnded op leg leg' abort = { s with frame := back }.latch .frameDone (detail abort) := by
        rw [State.legEnded, hmoved, hback]
      have hnow (h : leg.leads = a) : s.axisStepNow a = s.legStep op leg rest slowing :=
        (State.axisStepNow_legs hsew hm).trans (if_pos h)
      have hstill (t : State) (hnc : t.nc = s.nc) (hst : t.shaft = s.shaft) (he : t.player.errand = .none) : t.quiet = true :=
        State.quiet_of_no_errand hq hnc (congrArg Shaft.state hst) he
      have hlatched {t : State} (h : done.Latches t) : t.ev.flags &&& Event.frameDone.bit ≠ 0 := State.Latches.latched h
      have halts {p : Player} {displaced : Bool} {why : PauseReason}
          (ht : s.axisStepNow a = State.takeReason { done with player := p } .design why) (hdback : done.frame = back)
          (hbowner : back.owner = .player) (hbmove : back.move = none) (hdsew : done.gov.move = none)
          (hdisp : (p.halt .design).displaced = displaced) :
          ∃ t : State, answer = .next t ∧ t.player.state = .halted .design ∧ t.frame = { back with lent := true } ∧
            t.player.displaced = displaced ∧ t.player.queue = [] ∧
            t.ev.flags &&& Event.playerState.bit ≠ 0 ∧ t.ev.flags &&& Event.frameDone.bit ≠ 0 := by
        obtain ⟨t, hte⟩ : ∃ t, t = State.takeReason { done with player := p } .design why := ⟨_, rfl⟩
        obtain ⟨hp, hf, hk, hreport, hl⟩ := State.takeReason_halts hdback hbowner hbmove hdsew hte
        rw [← hte] at ht
        refine ⟨t, stepped ht (State.quiet_of_no_kept hk (by rw [hp]; rfl)), ?_, hf, ?_, ?_, hreport, hlatched hl⟩
        · rw [hp]
          rfl
        · rw [hp, hdisp]
        · rw [hp]
          rfl
      have going (f : Frame) (m : FrameMove) : ({ s with frame := { f with move := some m } } : State).quiet = true :=
        (State.quiet_congr { s with frame := { f with move := some m } } s rfl rfl rfl (by rw [hm]; rfl) rfl).trans hq
      have hdone : done = s.legEnded op leg leg' none := (hended none).symm
      refine ⟨fun h => stepped ((State.axisStepNow_legs hsew hm).trans (if_neg h)) hq, fun h hs hd => stepped ?_ ?_,
        fun next more h hs hd hfirst => stepped ?_ ?_, fun h hs hd hfirst => ⟨fun hl hr he => stepped ?_ ?_, ?returned, ?led⟩,
        fun c h hs he => ⟨fun hd hfast => stepped ?_ ?_, fun hends => stepped ?_ ?_⟩⟩
      · subst hs
        exact (hnow h).trans ((State.legStep_none rfl).trans (if_neg (by rw [Bool.not_eq_true]; exact hd)))
      · exact going _ _
      · subst hs
        exact (hnow h).trans ((State.legStep_none rfl).trans ((if_pos hd).trans (State.legDone_next hfirst)))
      · exact going _ _
      · subst hs
        exact (hnow h).trans ((State.legStep_none rfl).trans ((if_pos hd).trans (((State.legDone_ends hfirst).2 hl hr).trans (hended none))))
      · rw [hdone]
        exact hstill _ (by simp) (by simp) (by simpa using he)
      case returned =>
        intro source howner hafter he hop
        have hstopped : s.axisStepNow a = done.playerMoveDone := by
          rw [hdone]
          subst hs
          exact (hnow h).trans ((State.legStep_none rfl).trans ((if_pos hd).trans ((State.legDone_ends hfirst).1 hop)))
        obtain ⟨hdp, hdg, hdsh, hdnc, -, -, -, hdf⟩ := s.legEnded_keeps (op := op) (leg := leg) (leg' := leg') none
        rw [← hdone] at hdp hdg hdsh hdnc hdf
        have hdback : done.frame = back := hdf.trans hback
        have hbowner : back.owner = .player := by
          rw [← hback, Frame.settleOwner_of_keep (f := { moved with move := none }) howner hafter]
          exact howner
        have hbmove : back.move = none := by rw [← hback]; simp
        refine ⟨fun hr => ?_, fun r why hr hp => ?_, fun hr => ?_⟩
        · have hgoes := State.returnMove_goesOn (s := done) (source := source) (by rw [hdp]; exact he) (by rw [hdp]; exact hr)
          rw [hdp] at hgoes
          dsimp only [answer]
          rw [exec_axisStep, State.event_of_running hheld, hstopped, hgoes]
        · have hheldReason := State.returnMove_held (s := done) (r := r) (source := source) (by rw [hdp]; exact he) (by rw [hdp]; exact hr)
          rw [hdp] at hheldReason
          refine stepped (hstopped.trans (hheldReason.trans
            (State.takeReason_pauses hp hdback hbowner hbmove (by rw [hdg]; exact hsew)))) ?_
          rw [State.latch_quiet]
          exact hstill _ hdnc hdsh rfl
        · have hheldReason := State.returnMove_held (s := done) (source := source) (by rw [hdp]; exact he) (by rw [hdp]; exact hr)
          rw [hdp] at hheldReason
          exact halts (hstopped.trans hheldReason) hdback hbowner hbmove (by rw [hdg]; exact hsew)
            (by simp [Player.halt, Errand.moving])
      case led =>
        intro howner hafter he hop
        have hstopped : s.axisStepNow a = done.playerMoveDone := by
          rw [hdone]
          subst hs
          exact (hnow h).trans ((State.legStep_none rfl).trans ((if_pos hd).trans ((State.legDone_ends hfirst).1 hop)))
        obtain ⟨hdp, hdg, hdsh, hdnc, hdouts, hdstore, -, hdf⟩ := s.legEnded_keeps (op := op) (leg := leg) (leg' := leg') none
        rw [← hdone] at hdp hdg hdsh hdnc hdouts hdstore hdf
        have hdback : done.frame = back := hdf.trans hback
        have hbowner : back.owner = .player := by
          rw [← hback, Frame.settleOwner_of_keep (f := { moved with move := none }) howner hafter]
          exact howner
        have hbmove : back.move = none := by rw [← hback]; simp
        have hde : done.player.errand = .leadMove := by rw [hdp]; exact he
        refine ⟨fun r why hr hp => ?_, fun hr => ?_, fun e later hr hqueue => ⟨fun hkind => ?_, fun hkind => ?_, fun hstop hend hst hready => ?_⟩,
          fun hr hqueue hdry => ?_⟩
        · have hheldReason := State.leadMove_held (s := done) (r := r) hde (by rw [hdp]; exact hr)
          rw [hdp] at hheldReason
          refine stepped (hstopped.trans (hheldReason.trans
            (State.takeReason_pauses hp hdback hbowner hbmove (by rw [hdg]; exact hsew)))) ?_
          rw [State.latch_quiet]
          exact hstill _ hdnc hdsh rfl
        · have hheldReason := State.leadMove_held (s := done) hde (by rw [hdp]; exact hr)
          rw [hdp] at hheldReason
          exact halts (hstopped.trans hheldReason) hdback hbowner hbmove (by rw [hdg]; exact hsew)
            (by simp [Player.halt, Errand.moving])
        · have hrecord := State.leadMove_record (s := done) (e := e) (later := later) hde (by rw [hdp]; exact hr) (by rw [hdp]; exact hqueue)
          rw [if_pos hkind, hdp] at hrecord
          have hlater : s.player.queue.drop 1 = later := by rw [hqueue]; rfl
          dsimp only [answer]
          rw [exec_axisStep, State.event_of_running hheld, hstopped, hrecord, State.takeStop_eq]
          dsimp only
          rw [hlater]
        · have hrecord := State.leadMove_record (s := done) (e := e) (later := later) hde (by rw [hdp]; exact hr) (by rw [hdp]; exact hqueue)
          rw [if_neg (by simp [hkind]), if_pos hkind, hdp,
            State.enterFinished_of_still (by exact congrArg Frame.owner hdback |>.trans hbowner)
              (by exact congrArg Frame.move hdback |>.trans hbmove) (by exact hdg ▸ hsew)] at hrecord
          dsimp only at hrecord
          rw [hdback] at hrecord
          refine stepped (hstopped.trans hrecord) ?_
          rw [State.latch_quiet]
          exact hstill _ hdnc hdsh rfl
        · have hrecord := State.leadMove_record (s := done) (e := e) (later := later) hde (by rw [hdp]; exact hr) (by rw [hdp]; exact hqueue)
          rw [if_neg hstop, if_neg hend, hdp] at hrecord
          intro ending
          have hruns := State.enterRunning_of_held (s := { done with player := { s.player with errand := .none } })
            (by exact hdsh ▸ hst) (by exact hdsh ▸ hready) (by exact congrArg Frame.owner hdback |>.trans hbowner)
          have hblock (i : Nat) : ({ done with player := { s.player with errand := .none } } : State).blockOf i = s.blockOf i := by
            simp only [State.blockOf, State.armedDesign, hdstore]
          rw [hblock, hblock] at hruns
          refine ⟨_, stepped (hstopped.trans (hrecord.trans hruns)) (State.quiet_of_not_held nofun ?_), rfl, ?_, rfl, ?_, ?_, hdg, hdback, rfl⟩
          · dsimp only
            split <;> rfl
          · exact congrArg (fun g : Governor => min g.active.motion.sStart g.sCmd) hdg
          · have hending := Player.combineStop_unheld (p := s.player) .passEnd s.player.resume hr
            dsimp only
            by_cases h : ending
            · rw [if_pos h, if_pos h]
              exact congrArg (fun p : Player => { p with state := .stopping, errand := .none }) hending
            · rw [if_neg h, if_neg h]
          · exact congrArg Outputs.allAuto hdouts
        · have hstarves := State.leadMove_starves (s := done) hde (by rw [hdp]; exact hr) (by rw [hdp]; exact hqueue)
          rw [hdp, State.enterStarved_of_dry (s := { done with player := { s.player with errand := .none } }) ?_] at hstarves
          · refine stepped (hstopped.trans hstarves) ?_
            rw [State.latch_quiet]
            exact hstill _ hdnc hdsh rfl
          · simpa only [State.armedDesign, hdstore] using hdry
      · have hgoes : ¬(leg'.done || decide (leg'.rateSq ≤ 4000000)) = true := by
          rw [hd, Bool.false_or, decide_eq_true_iff]
          exact Nat.not_le.2 hfast
        subst hs
        exact (hnow h).trans ((State.legStep_some rfl).trans (if_neg hgoes))
      · exact going _ _
      · have hstops : (leg'.done || decide (leg'.rateSq ≤ 4000000)) = true := by simpa using hends
        subst hs
        exact (hnow h).trans ((State.legStep_some rfl).trans ((if_pos hstops).trans
          ((State.legMoved_finish _).trans (hended _))))
      · rw [← hended]
        exact hstill _ (by simp) (by simp) (by simpa using he)
    all_goals
      have going {f : Frame} {m : FrameMove} (hm : s.frame.move = some m) (hf : f.move.isNone = false) :
          ({ s with frame := f } : State).quiet = true :=
        (State.quiet_congr { s with frame := f } s rfl rfl rfl (by rw [hm]; exact hf) rfl).trans hq
    case homing =>
      intro bound away
      have hbound : bound = searchBound a := rfl
      have limit {t : State} (ht : s.homingLimit = t) (hquiet : t.quiet = true) : exec .homingSearchLimit s = .next t := by
        rw [exec_homingSearchLimit, s.event_quiet _ hheld (by rw [ht]; exact hquiet), ht]
      have hfree (c : AxisCause) (he : s.player.errand = .none) := State.axisFault_quiet_of_no_errand c hq he
      refine ⟨fun hm hact => ⟨fun hn => stepped ?_ ?_, fun hn => ⟨stepped ?_ hq, fun howner hlent he => limit ?_ ?_⟩⟩,
        fun hm => ⟨fun hn => stepped ?_ ?_, fun hn => stepped ?_ ?_⟩,
        fun hm hact => ⟨fun hn => stepped ?_ ?_, fun hn => ⟨stepped ?_ hq, fun he => ?_, fun howner hlent he => limit ?_ ?_⟩⟩,
        fun hm hn => stepped ?_ ?_⟩
      · rw [State.axisStepNow_homing hsew hm, State.homingStep_clear hact, if_pos hn]
        rfl
      · exact going hm rfl
      · rw [State.axisStepNow_homing hsew hm, State.homingStep_clear hact, if_neg (Nat.not_lt.2 hn)]
      · exact (State.homingLimit_clear hm hn hact).trans (State.axisFault_homing .homeStuck hm hsew howner hlent)
      · exact State.axisFault_homing .homeStuck hm hsew howner hlent ▸ hfree .homeStuck he
      · rw [State.axisStepNow_homing hsew hm, State.homingStep_clearMore, if_pos hn]
        rfl
      · exact going hm rfl
      · rw [State.axisStepNow_homing hsew hm, State.homingStep_clearMore, if_neg (Nat.not_lt.2 hn)]
        rfl
      · exact going hm rfl
      · rw [State.axisStepNow_homing hsew hm, State.homingStep_search hact, ← hbound, if_pos hn]
        rfl
      · exact going hm rfl
      · rw [State.axisStepNow_homing hsew hm, State.homingStep_search hact, ← hbound, if_neg (Nat.not_lt.2 hn)]
      · have hfaulted := s.axisFault_axisFaulted .homeNotFound
        exact ⟨_, limit (State.homingLimit_search hm hn hact) (hfree _ he), hfaulted.known, hfaulted.still, hfaulted.latched,
          hfaulted.done (by rw [hm]; rfl)⟩
      · exact (State.homingLimit_search hm hn hact).trans (State.axisFault_homing .homeNotFound hm hsew howner hlent)
      · exact State.axisFault_homing .homeNotFound hm hsew howner hlent ▸ hfree .homeNotFound he
      · rw [State.axisStepNow_homing hsew hm, State.homingStep_backOff, if_pos hn]
        rfl
      · exact going hm rfl
    case homeX =>
      refine stepped ?_ (going hm rfl)
      rw [State.axisStepNow_homing hsew hm, State.homingStep_last]
      exact State.homeDone_x
    case homeY =>
      refine stepped ?_ ?_
      · rw [State.axisStepNow_homing hsew hm, State.homingStep_last]
        exact State.homeDone_y howner
      · rw [State.latch_quiet]
        exact State.quiet_of_no_errand hq rfl rfl he

end Sys2Proof.Machine
end

section
/-! PROOF. Feed pulses, verdicts, suspicion runs and declared breaks (O43). -/

namespace Sys2Proof.Machine

/-! ### Lists of the heads and of their monitors -/

theorem mapFrom_pick_eq {α : Type} {h : Nat} (hpos : 1 ≤ h) (f : α → α) (l : List α) :
    mapFrom 1 (fun n a => if n == h then f a else a) l = updAt (h - 1) f l := by
  refine List.ext_getElem? fun i => ?_
  rw [mapFrom_pick, updAt_getElem?]
  exact if_congr ⟨fun _ => by omega, fun _ => by omega⟩ rfl rfl

theorem updAt_updAt {α : Type} (n : Nat) (f g : α → α) (l : List α) : updAt n g (updAt n f l) = updAt n (g ∘ f) l := by
  refine List.ext_getElem? fun i => ?_
  simp only [updAt_getElem?]
  split
  · rw [Option.map_map]
  · rfl

theorem Heads.head_of_pos (hs : Heads) {h : Nat} (hpos : 1 ≤ h) : hs.head h = hs.table[h - 1]? :=
  if_neg (Nat.pos_iff_ne_zero.1 hpos)

theorem Thread.monitorOf_of_some {t : Thread} {h : Nat} {m : HeadMonitor} (hm : t.monitors[h - 1]? = some m) :
    t.monitorOf h = m := by
  rw [Thread.monitorOf, List.getD_eq_getElem?_getD, hm]
  rfl

theorem State.engaged_of_some {s : State} {h : Nat} {d : Head} (hd : s.heads.table[h - 1]? = some d) :
    s.engaged h = d.engaged := by
  rw [State.engaged, hd]
  rfl

/-- The monitors with the record of one head replaced. -/
def Thread.put (t : Thread) (h : Nat) (m : HeadMonitor) : List HeadMonitor := t.monitors.take (h - 1) ++ m :: t.monitors.drop h

section
variable {t : Thread} {h : Nat} {m : HeadMonitor}

theorem Thread.modMonitor_eq (hpos : 1 ≤ h) (hm : t.monitors[h - 1]? = some m) (f : HeadMonitor → HeadMonitor) :
    t.modMonitor h f = { t with monitors := t.put h (f m) } := by
  rw [Thread.modMonitor, updAt_eq_take_drop f hm, Nat.sub_add_cancel hpos]
  rfl

theorem Thread.put_get (hpos : 1 ≤ h) (hm : t.monitors[h - 1]? = some m) (m' : HeadMonitor) : (t.put h m')[h - 1]? = some m' := by
  have hput : t.put h m' = updAt (h - 1) (fun _ => m') t.monitors :=
    (congrArg Thread.monitors (Thread.modMonitor_eq hpos hm fun _ => m')).symm
  rw [hput, updAt_getElem?, if_pos rfl, hm]
  rfl

/-- R129: the run of one head is cleared. -/
theorem Thread.clearRuns_put (hpos : 1 ≤ h) (hm : t.monitors[h - 1]? = some m) (m' : HeadMonitor) :
    mapFrom 1 (fun n a => if n == h then { a with run := .clear } else a) (t.put h m') = t.put h { m' with run := .clear } := by
  have hput (x : HeadMonitor) : t.put h x = updAt (h - 1) (fun _ => x) t.monitors :=
    (congrArg Thread.monitors (Thread.modMonitor_eq hpos hm fun _ => x)).symm
  rw [mapFrom_pick_eq hpos (fun a : HeadMonitor => { a with run := .clear }), hput, updAt_updAt, hput]
  rfl

end

/-! ### Verdicts and runs (R126, R129) -/

section
variable (p : NeedleProfile) (dx dy : Int) (count : Nat)

theorem verdictOf_low_iff : verdictOf p dx dy count = .low ↔ 16 * (count + 1) ≤ expectedCount p dx dy * p.rlo := by
  unfold verdictOf
  simp only []
  generalize expectedCount p dx dy * p.rlo = low
  split
  · exact iff_of_true rfl (by omega)
  · refine iff_of_false ?_ (by omega)
    split <;> exact nofun

theorem verdictOf_high_iff (h : ¬count < expectedCount p dx dy * p.rlo / 16) :
    verdictOf p dx dy count = .high ↔ expectedCount p dx dy * p.rhi < 16 * count := by
  simp only [verdictOf, if_neg h]
  split
  · exact iff_of_true rfl (by omega)
  · exact iff_of_false nofun (by omega)

theorem verdictOf_normal_iff : verdictOf p dx dy count = .normal ↔
    expectedCount p dx dy * p.rlo < 16 * (count + 1) ∧ 16 * count ≤ expectedCount p dx dy * p.rhi := by
  unfold verdictOf
  simp only []
  generalize expectedCount p dx dy * p.rlo = low
  generalize expectedCount p dx dy * p.rhi = high
  split
  · exact iff_of_false nofun (by omega)
  · split
    · exact iff_of_false nofun (by omega)
    · exact iff_of_true rfl (by omega)

end

theorem SuspicionRun.take_normal (r : SuspicionRun) (index needle : Nat) : r.take .normal index needle = ⟨0, none, none, none⟩ := rfl

theorem SuspicionRun.take_of_kind {v : Verdict} {k : RunKind} (h : v.runKind = some k) (r : SuspicionRun) (index needle : Nat) :
    r.take v index needle = if 0 < r.length ∧ r.kind = some k then ⟨min 15 (r.length + 1), r.first, r.needle, some k⟩
      else ⟨1, some index, some needle, some k⟩ := by
  simp only [SuspicionRun.take, h]
  by_cases hgoes : 0 < r.length ∧ r.kind = some k
  · rw [if_pos hgoes, if_pos ⟨Nat.pos_iff_ne_zero.1 hgoes.1, hgoes.2⟩, ← hgoes.2]
  · rw [if_neg hgoes, if_neg fun h => hgoes ⟨Nat.pos_iff_ne_zero.2 h.1, h.2⟩]

theorem threadLength_eq_zero_iff (dx dy : Int) : threadLength dx dy = 0 ↔ dx = 0 ∧ dy = 0 := by
  unfold threadLength
  omega

/-! ### The close of a feed window at one head (R127, R134) -/

/-- R129, R134: the monitor once a head's verdict is taken, with its capture where the head is selected. -/
def Thread.verdictTaken (t : Thread) (h : Nat) (m : HeadMonitor) (slot : CaptureSlot) : Thread :=
  if t.capture = h then
    { t with monitors := t.put h m, slot := some slot, overrun := t.fresh || t.overrun, fresh := true }
  else { t with monitors := t.put h m }

@[simp] theorem Thread.verdictTaken_keeps (t : Thread) (h : Nat) (m : HeadMonitor) (slot : CaptureSlot) :
    (t.verdictTaken h m slot).monitors = t.put h m ∧ (t.verdictTaken h m slot).breakPolicy = t.breakPolicy := by
  unfold Thread.verdictTaken
  split <;> exact ⟨rfl, rfl⟩

/-- R129: the run of the head that has its verdict is cleared. -/
theorem Thread.clearRuns_verdictTaken {t : Thread} {h : Nat} {m : HeadMonitor} (hpos : 1 ≤ h) (hm : t.monitors[h - 1]? = some m)
    (m' : HeadMonitor) (slot : CaptureSlot) :
    (t.verdictTaken h m' slot).clearRuns (· == h) = t.verdictTaken h { m' with run := .clear } slot := by
  unfold Thread.verdictTaken Thread.clearRuns
  split
  · simp only [Thread.clearRuns_put hpos hm]
  · simp only [Thread.clearRuns_put hpos hm]

section
variable {s : State} {r : SewnRevolution} {d : Head} {m : HeadMonitor} {h : Nat}

/-- R126, R129, R134: the state once a head's verdict is taken. -/
def State.judgedHead (s : State) (r : SewnRevolution) (h : Nat) (m m' : HeadMonitor) : State :=
  { s with
    thread := s.thread.verdictTaken h m'
      ⟨m.count, expectedCount r.profile r.dx r.dy, r.index, r.needle, verdictOf r.profile r.dx r.dy m.count⟩ }

theorem State.giveVerdict_eq (hpos : 1 ≤ h) (hm : s.thread.monitors[h - 1]? = some m) {v : Verdict} {run : SuspicionRun}
    (hv : verdictOf r.profile r.dx r.dy m.count = v) (hrun : m.run.take v r.index r.needle = run) : s.giveVerdict r h =
      if v ≠ .normal ∧ r.profile.b ≤ run.length then (s.judgedHead r h m { m with run := run }).declareBreak h
      else s.judgedHead r h m { m with run := run } := by
  subst hv hrun
  have hgiven : (s.modThread fun t =>
      let t' := t.modMonitor h fun m' =>
        { m' with run := m'.run.take (verdictOf r.profile r.dx r.dy m.count) r.index r.needle }
      if t.capture = h then t'.captureWrite
        ⟨m.count, expectedCount r.profile r.dx r.dy, r.index, r.needle, verdictOf r.profile r.dx r.dy m.count⟩ else t') =
      s.judgedHead r h m { m with run := m.run.take (verdictOf r.profile r.dx r.dy m.count) r.index r.needle } := by
    simp only [State.modThread, Thread.modMonitor_eq hpos hm, State.judgedHead, Thread.verdictTaken]
    rfl
  have hmonitor : (s.judgedHead r h m
      { m with run := m.run.take (verdictOf r.profile r.dx r.dy m.count) r.index r.needle }).thread.monitorOf h =
      { m with run := m.run.take (verdictOf r.profile r.dx r.dy m.count) r.index r.needle } := by
    refine Thread.monitorOf_of_some ?_
    rw [State.judgedHead]
    simp only [Thread.verdictTaken_keeps]
    exact Thread.put_get hpos hm _
  simp only [State.giveVerdict, Thread.monitorOf_of_some hm, hgiven, hmonitor]

theorem State.closeHead_tieIn (hpos : 1 ≤ h) (hd : s.heads.table[h - 1]? = some d) (hm : s.thread.monitors[h - 1]? = some m)
    (hengaged : d.engaged = true) (htie : 0 < m.tieIn) :
    s.closeHead r h = { s with thread := { s.thread with monitors := s.thread.put h { m with tieIn := m.tieIn - 1 } } } := by
  rw [State.closeHead, State.engaged_of_some hd, hengaged, Thread.monitorOf_of_some hm, if_neg (by simp), if_pos htie,
    State.modThread, Thread.modMonitor_eq hpos hm]

theorem State.closeHead_of_judged (hd : s.heads.table[h - 1]? = some d) (hm : s.thread.monitors[h - 1]? = some m)
    (hengaged : d.engaged = true) (htie : m.tieIn = 0) (hmonitor : r.profile.monitor = true) (hmoved : r.dx ≠ 0 ∨ r.dy ≠ 0) :
    s.closeHead r h = s.giveVerdict r h := by
  have hlength : threadLength r.dx r.dy ≠ 0 := by rwa [Ne, threadLength_eq_zero_iff, not_and_or]
  rw [State.closeHead, State.engaged_of_some hd, hengaged, Thread.monitorOf_of_some hm, if_neg (by simp), if_neg (by omega),
    if_neg (by simp [hmonitor, hlength])]

theorem State.closeHead_of_not (hd : s.heads.table[h - 1]? = some d) (hm : s.thread.monitors[h - 1]? = some m)
    (htie : ¬(d.engaged = true ∧ 0 < m.tieIn))
    (hjudged : ¬(d.engaged = true ∧ m.tieIn = 0 ∧ r.profile.monitor = true ∧ (r.dx ≠ 0 ∨ r.dy ≠ 0))) : s.closeHead r h = s := by
  rw [State.closeHead, State.engaged_of_some hd, Thread.monitorOf_of_some hm]
  cases hengaged : d.engaged with
  | false => exact if_pos rfl
  | true =>
    have hzero : m.tieIn = 0 := Nat.eq_zero_of_not_pos fun h => htie ⟨hengaged, h⟩
    rw [if_neg (by simp), if_neg (by omega), if_pos]
    by_cases hmonitor : r.profile.monitor = true
    · have hstays : r.dx = 0 ∧ r.dy = 0 := by
        rw [← not_not (a := _ ∧ _), not_and_or]
        exact fun hmoved => hjudged ⟨hengaged, hzero, hmonitor, hmoved⟩
      simp [(threadLength_eq_zero_iff _ _).2 hstays]
    · simp [hmonitor]

end

/-! ### A declared break (R130 to R132, R144, R153, R154) -/

theorem none_eligible_iff (table : List Head) : table.any (Head.eligible .normal) = false ↔
    ∀ x ∈ table, ¬(x.enabled = true ∧ x.switch = true ∧ x.condition = Condition.ok) := by
  rw [List.any_eq_false]
  simp [Head.eligible, and_assoc]

theorem none_inPass_iff (table : List Head) : table.any (fun h => h.role != .none) = false ↔ ∀ x ∈ table, x.role = .none := by
  rw [List.any_eq_false]
  simp

section
variable {s : State} {h point needle : Nat} {cause : BreakCause} {d : Head}

/-- R35: the player once a planned stop as soon as possible is asked for. -/
def Player.stopAsked (p : Player) (r : StopReason) : Player :=
  { p with state := .stopping, stopReason := some (p.stopReason.getD r), soonStop := true }

theorem State.plannedStop_soon {r : StopReason} (hr : r ≠ .design) (hsews : s.player.state = .running ∨ s.player.state = .stopping) :
    s.plannedStop r none = { s with player := s.player.stopAsked r } := by
  obtain hst | hst := hsews
  · simp only [State.plannedStop, hst, State.modPlayer, Player.combineStop_soon hr, Player.stopAsked]
  · have hdrop : s.dropSelection r = s := if_neg fun h => hr h.2
    simp only [State.plannedStop, hst, hdrop, State.modPlayer, Player.combineStop_soon hr, Player.stopAsked]

/-- R130: the state in which a break is handed over, its run cleared and HEAD_BREAK latched. -/
def State.breakTold (s : State) (h point needle : Nat) (cause : BreakCause) : State :=
  (s.modThread fun t => t.clearRuns (· == h)).latch .headBreak (b1 h ++ b1 cause.code ++ b4 point ++ b1 needle)

@[simp] theorem State.breakTold_keeps : (s.breakTold h point needle cause).player = s.player ∧
    (s.breakTold h point needle cause).heads = s.heads ∧ (s.breakTold h point needle cause).store = s.store ∧
    (s.breakTold h point needle cause).thread = s.thread.clearRuns (· == h) := by
  simp [State.breakTold]

theorem Thread.clearRuns_clearRuns (t : Thread) (hpos : 1 ≤ h) :
    (t.clearRuns (· == h)).clearRuns (· == h) = t.clearRuns (· == h) := by
  simp only [Thread.clearRuns, mapFrom_pick_eq hpos (fun a : HeadMonitor => { a with run := .clear }), updAt_updAt]
  rfl

theorem State.declareBreak_eq {run : SuspicionRun} {kind : RunKind} {length : Nat} (hpos : 1 ≤ h)
    (hd : s.heads.table[h - 1]? = some d) (hrun : (s.thread.monitorOf h).run = run)
    (hfields : run = ⟨length, some point, some needle, some kind⟩)
    (hcause : cause = if kind = .high then BreakCause.tangle else if d.bobbinLow then .bobbin else .break) :
    (s.player.mode = .normal → d.condition = .ok →
      s.declareBreak h = (s.breakTold h point needle cause).normalBreak h point needle cause) ∧
    (s.player.mode = .repair → d.condition = .repairing →
      s.declareBreak h = (s.breakTold h point needle cause).repairBreak h point needle cause) := by
  have hgives : breakCause (some kind) d.bobbinLow = cause := by
    rw [hcause]
    cases kind <;> rfl
  have hhead : s.heads.head h = some d := (s.heads.head_of_pos hpos).trans hd
  subst hfields
  refine ⟨fun hmode hcond => ?_, fun hmode hcond => ?_⟩
  all_goals
    simp only [State.declareBreak, hhead, hrun, hgives, Option.getD_some, State.latch_keeps, State.modThread, hmode, hcond]
    rfl

/-- R131, R132, R144: what the break of an OK head in a NORMAL pass leaves. -/
theorem State.firstBreak_eq {design : Nat} (hpos : 1 ≤ h) (hd : s.heads.table[h - 1]? = some d)
    (hclear : s.thread.clearRuns (· == h) = s.thread) (harmed : s.player.armed = some design) :
    s.firstBreak h point needle cause = { s with
      heads := { s.heads with
        table := s.heads.table.take (h - 1) ++ { d with condition := .broken } :: s.heads.table.drop h
        repairs := insertRepair ⟨h, design, point, cause, needle, s.blockOf point⟩
          (s.heads.repairs.filter fun x => x.head != h) }
      store := { s.store with
        dir := s.store.dir.map fun (o : Option Design) => o.map fun (x : Design) =>
          if x.number = design then { x with repairPin := true } else x } } := by
  have hupd := updAt_eq_take_drop (fun d : Head => { d with condition := .broken }) hd
  rw [Nat.sub_add_cancel hpos] at hupd
  have hdesign : s.player.armed.getD 0 = design := by rw [harmed]; rfl
  have hheads : (s.heads.modHead h fun d => { d with condition := .broken }).replaceRepair
      ⟨h, design, point, cause, needle, s.blockOf point⟩ = { s.heads with
        table := s.heads.table.take (h - 1) ++ { d with condition := .broken } :: s.heads.table.drop h
        repairs := insertRepair ⟨h, design, point, cause, needle, s.blockOf point⟩
          (s.heads.repairs.filter fun x => x.head != h) } := by
    rw [← hupd]
    rfl
  have hpin (x : Design) (l : List RepairRecord) :
      let repairs := insertRepair ⟨h, design, point, cause, needle, s.blockOf point⟩ l
      (if s.player.armed = some x.number then { x with repairPin := decide (∃ r ∈ repairs, r.design = x.number) } else x) =
        if x.number = design then { x with repairPin := true } else x := by
    intro repairs
    have hmem : ∃ r ∈ repairs, r.design = design := ⟨_, (mem_insertRepair _ _ _).2 (Or.inl rfl), rfl⟩
    rw [harmed]
    by_cases hx : x.number = design
    · rw [if_pos hx, hx, if_pos rfl, decide_eq_true hmem]
    · rw [if_neg hx, if_neg fun h => hx (Option.some.inj h).symm]
  rw [State.firstBreak, State.pinRepairs_eq]
  simp only [State.modHeads, State.modThread, hdesign, hheads, hclear]
  simp only [hpin]

theorem State.normalBreak_eq {design : Nat} (hpos : 1 ≤ h) (hd : s.heads.table[h - 1]? = some d)
    (hclear : s.thread.clearRuns (· == h) = s.thread) (hmode : s.player.mode = .normal) (harmed : s.player.armed = some design)
    (hsews : s.player.state = .running ∨ s.player.state = .stopping) (asked : Prop) [Decidable asked]
    (hasked : asked ↔ (∀ x ∈ s.heads.table.take (h - 1) ++ { d with condition := .broken } :: s.heads.table.drop h,
      ¬(x.enabled = true ∧ x.switch = true ∧ x.condition = Condition.ok)) ∨ s.thread.breakPolicy = .stop) :
    s.normalBreak h point needle cause = { s.firstBreak h point needle cause with
      player := if asked then s.player.stopAsked .breakStop else s.player } := by
  have hbreak := State.firstBreak_eq (point := point) (needle := needle) (cause := cause) hpos hd hclear harmed
  have hasks : ((!(s.firstBreak h point needle cause).anyEngageNext ||
      (s.firstBreak h point needle cause).thread.breakPolicy == .stop) = true) ↔ asked := by
    rw [hasked, ← none_eligible_iff, hbreak]
    simp [State.anyEngageNext, hmode]
  have hplayer : (s.firstBreak h point needle cause).player = s.player := by rw [hbreak]
  rw [State.normalBreak]
  simp only []
  by_cases h : asked
  · rw [if_pos (hasks.2 h), if_pos h, State.plannedStop_soon (r := .breakStop) nofun (by rw [hplayer]; exact hsews), hplayer]
  · rw [if_neg (h ∘ hasks.1), if_neg h, ← hplayer]

/-- R153, R154, R132: what the break of an ACTIVE head leaves. -/
theorem State.rebreak_eq {q : RepairRecord} (hpos : 1 ≤ h) (hd : s.heads.table[h - 1]? = some d)
    (hclear : s.thread.clearRuns (· == h) = s.thread) (hq : s.heads.repairOf h = some q) :
    s.rebreak h point needle cause = { s with
      heads := { s.heads with
        table := s.heads.table.take (h - 1) ++ { d with condition := .broken, role := .none, start := none } :: s.heads.table.drop h
        repairs := insertRepair { q with point := point, needle := needle, block := s.blockOf point, cause := cause }
          (s.heads.repairs.filter fun x => x.head != q.head) } } := by
  have hupd := updAt_eq_take_drop Head.rebroken hd
  rw [Nat.sub_add_cancel hpos] at hupd
  rw [State.rebreak_of_some hq, hclear, hupd]
  rfl

theorem State.repairBreak_eq {q : RepairRecord} (hpos : 1 ≤ h) (hd : s.heads.table[h - 1]? = some d)
    (hclear : s.thread.clearRuns (· == h) = s.thread) (hq : s.heads.repairOf h = some q)
    (hsews : s.player.state = .running ∨ s.player.state = .stopping) (empty stops : Prop) [Decidable empty] [Decidable stops]
    (hempty : empty ↔ ∀ x ∈ s.heads.table.take (h - 1) ++ { d with condition := .broken, role := .none, start := none } ::
      s.heads.table.drop h, x.role = Role.none) (hstops : stops ↔ s.thread.breakPolicy = .stop) :
    s.repairBreak h point needle cause = { s.rebreak h point needle cause with
      player :=
        if empty then s.player.stopAsked .passEmpty
        else if stops then s.player.stopAsked .breakStop else s.player } := by
  have hbreak := State.rebreak_eq (point := point) (needle := needle) (cause := cause) hpos hd hclear hq
  have hpass : ((!(s.rebreak h point needle cause).heads.inPass) = true) ↔ empty := by
    rw [hempty, ← none_inPass_iff, hbreak]
    simp [Heads.inPass]
  have hplayer : (s.rebreak h point needle cause).player = s.player := by rw [hbreak]
  have hpolicy : (s.rebreak h point needle cause).thread.breakPolicy = .stop ↔ stops := by rw [hbreak, hstops]
  rw [State.repairBreak]
  simp only []
  by_cases he : empty
  · rw [if_pos (hpass.2 he), if_pos he, State.plannedStop_soon (r := .passEmpty) nofun (by rw [hplayer]; exact hsews), hplayer]
  · rw [if_neg (he ∘ hpass.1), if_neg he]
    by_cases hs : stops
    · rw [if_pos (hpolicy.2 hs), if_pos hs, State.plannedStop_soon (r := .breakStop) nofun (by rw [hplayer]; exact hsews), hplayer]
    · rw [if_neg (hs ∘ hpolicy.1), if_neg hs, ← hplayer]

end

/-! ### The feed pulse and the feed window (R125) -/

theorem exec_feedPulse (h : Nat) (s : State) : exec (.feedPulse h) s = .next (s.event fun t => t.feed h) := rfl

theorem exec_encoderCount {s : State} (hheld : s.resetHeld = false) (forward : Bool) (elapsed : Nat) :
    exec (.encoderCount forward elapsed) s = .next (s.count forward elapsed).settle := by
  have hexec : exec (.encoderCount forward elapsed) s =
      .next (if s.resetHeld then s.modShaft fun h => { h with still := false } else (s.count forward elapsed).settle) := rfl
  rw [hexec, hheld]
  rfl

section
variable {s : State}

/-- R65, R75: the state after a forward count that moves the angle within a turn. -/
def State.countedOn (s : State) : State :=
  { s with shaft := { s.shaft with angle := s.shaft.angle + 1, still := false, stall := s.shaft.stall.map fun _ => 100 } }

/-- R70, R125: a forward count below W_open, with no sewing move in flight, acts on the feed window only. -/
theorem State.count_feedWindow {elapsed : Nat} (hst : s.shaft.state = .turning) (hsew : s.gov.move = none)
    (hbelow : s.shaft.angle + 1 < s.gov.active.motion.wOpen) (hopen : s.gov.active.motion.wOpen ≤ 1024) :
    s.count true elapsed = s.countedOn.feedWindow := by
  have hcounted : (s.modShaft fun h => h.counted true) = s.countedOn := by
    have hangle : angleAfter s.shaft.angle true = s.shaft.angle + 1 := Nat.mod_eq_of_lt (by omega)
    simp only [State.modShaft, Shaft.counted, Shaft.restartStall, hangle]
    rfl
  have hsteps : s.countedOn.sewSteps elapsed = s.countedOn := by
    have hsew : s.countedOn.gov.move = none := hsew
    simp only [State.sewSteps, hsew]
  have hcheck : s.countedOn.overrunCheck = s.countedOn := by
    have hsew : s.countedOn.gov.move = none := hsew
    simp only [State.overrunCheck, hsew]
  have hcount : s.count true elapsed = s.countedOn.turningCount elapsed := by
    simp only [State.count, hst, hcounted]
    rfl
  rw [hcount, State.turningCount, if_neg (by exact Nat.ne_of_lt hbelow), hsteps, hcheck]

theorem State.feedWindow_eq {r : SewnRevolution} (hr : s.thread.rev = some r) (hk : r.kind = .stitch)
    (hbelow : s.shaft.angle < s.gov.active.motion.wOpen) : s.feedWindow =
      if s.shaft.angle = feedOpens s.gov.active.motion then s.modThread fun t => t.open s.engaged
      else if s.thread.feedOpen = true ∧ s.shaft.angle = feedCloses s.gov.active.motion.wOpen then s.closeWindow r else s := by
  simp only [State.feedWindow, hr]
  rw [if_neg (by simp [hk, hbelow])]

theorem Thread.open_eq (t : Thread) (table : List Head) (engaged : Nat → Bool)
    (h : ∀ n : Nat, engaged (1 + n) = true ↔ (table[n]?.map Head.engaged) = some true) : t.open engaged = { t with
      feedOpen := true
      monitors := (t.monitors.zipIdx 0).map fun (p : HeadMonitor × Nat) =>
        if (table[p.2]?.map Head.engaged) = some true then { p.1 with count := 0 } else p.1 } := by
  have hmonitors : mapFrom 1 (fun h (m : HeadMonitor) => if engaged h then { m with count := 0 } else m) t.monitors =
      (t.monitors.zipIdx 0).map fun (p : HeadMonitor × Nat) =>
        if (table[p.2]?.map Head.engaged) = some true then { p.1 with count := 0 } else p.1 := by
    refine List.ext_getElem? fun i => ?_
    rw [mapFrom_getElem?, List.getElem?_map, List.getElem?_zipIdx]
    cases t.monitors[i]? with
    | none => rfl
    | some m =>
      simp only [Option.map_some, Nat.zero_add, h]
  rw [Thread.open, hmonitors]

theorem State.closeWindow_eq (r : SewnRevolution) : s.closeWindow r =
    (List.range s.straps.heads).foldl (fun (u : State) (n : Nat) => u.closeHead r (n + 1))
      { s with thread := { s.thread with feedOpen := false } } := by
  rw [State.closeWindow, List.foldl_map]
  rfl

end

/-- Settles O43: the pulse, the verdict, the run, the close at one head with the break it may declare, and the window. -/
theorem feedPulsesAreCountedAndJudged : Obligations.FeedPulsesAreCountedAndJudged := by
  refine ⟨fun s h m hheld hq hpos hm => ?pulse, fun p dx dy count => ?verdict, fun r v index needle => ?run,
    fun s r d m h hpos hd hm => ?close, fun s elapsed r hheld hq hst hsew hr hk => ?window⟩
  case pulse =>
    have hengaged : (∃ d : Head, s.heads.table[h - 1]? = some d ∧ d.engaged = true) ↔ s.engaged h = true := by
      cases hd : s.heads.table[h - 1]? with
      | none => simp [State.engaged, hd]
      | some d => simp [State.engaged, hd]
    have hfeed : s.feed h = if s.thread.feedOpen = true ∧ (∃ d : Head, s.heads.table[h - 1]? = some d ∧ d.engaged = true) then
        { s with thread := { s.thread with monitors := s.thread.put h { m with count := min 65535 (m.count + 1) } } } else s := by
      rw [State.feed, State.modThread, Thread.modMonitor_eq hpos hm]
      exact if_congr (by simp [hengaged, hpos]) rfl rfl
    rw [exec_feedPulse, State.event_quiet _ _ hheld ?_]
    · exact congrArg Host.Outcome.next hfeed
    · rw [hfeed]
      split
      · exact (State.quiet_congr _ s (by rfl) (by rfl) (by rfl) (by rfl) (by rfl)).trans hq
      · exact hq
  case verdict =>
    refine ⟨rfl, verdictOf_low_iff p dx dy count, ?_, verdictOf_normal_iff p dx dy count⟩
    by_cases h : count < expectedCount p dx dy * p.rlo / 16
    · exact Or.inl h
    · exact Or.inr (verdictOf_high_iff p dx dy count h)
  case run =>
    refine ⟨fun hv => ?_, fun k hk => ?_⟩
    · rw [hv]
      exact r.take_normal index needle
    · refine SuspicionRun.take_of_kind ?_ r index needle
      obtain ⟨rfl, rfl⟩ | ⟨rfl, rfl⟩ := hk <;> rfl
  case close =>
    intro put v run judged
    refine ⟨fun he ht => State.closeHead_tieIn hpos hd hm he ht, State.closeHead_of_not hd hm, fun hj hgoes => ?_,
      fun point needle kind hj hv hlong hrun hsews => ?_⟩
    · obtain ⟨hengaged, htie, hmonitor, hmoved⟩ := hj
      have hshort : ¬(v ≠ .normal ∧ r.profile.b ≤ run.length) := fun h => hgoes.elim h.1 (Nat.not_lt.2 h.2)
      rw [State.closeHead_of_judged hd hm hengaged htie hmonitor hmoved, State.giveVerdict_eq hpos hm rfl rfl, if_neg hshort]
      rfl
    · intro cause told others table stopped
      obtain ⟨hengaged, htie, hmonitor, hmoved⟩ := hj
      have hdeclared : s.closeHead r h = (s.judgedHead r h m { m with run := run }).declareBreak h := by
        rw [State.closeHead_of_judged hd hm hengaged htie hmonitor hmoved, State.giveVerdict_eq hpos hm rfl rfl, if_pos ⟨hv, hlong⟩]
      have htold : (s.judgedHead r h m { m with run := run }).breakTold h point needle cause = told := by
        rw [State.breakTold, State.judgedHead]
        simp only [State.modThread, Thread.clearRuns_verdictTaken hpos hm]
        rfl
      obtain ⟨htp, hth, hts, htt⟩ := State.breakTold_keeps (s := s.judgedHead r h m { m with run := run }) (h := h) (point := point)
        (needle := needle) (cause := cause)
      rw [htold] at htp hth hts htt
      have hclear : told.thread.clearRuns (· == h) = told.thread := by rw [htt, Thread.clearRuns_clearRuns _ hpos]
      have hblock : told.blockOf point = s.blockOf point := by
        rw [State.blockOf, State.armedDesign, htp, hts]
        rfl
      have hpolicy : told.thread.breakPolicy = s.thread.breakPolicy := by
        rw [htt]
        exact (Thread.verdictTaken_keeps _ _ _ _).2
      have hmonitor : ((s.judgedHead r h m { m with run := run }).thread.monitorOf h).run = run := by
        rw [State.judgedHead, Thread.monitorOf_of_some (m := { m with run := run })]
        simp only [Thread.verdictTaken_keeps]
        exact Thread.put_get hpos hm _
      obtain ⟨hnormal, hrepair⟩ := State.declareBreak_eq (s := s.judgedHead r h m { m with run := run }) (cause := cause) hpos hd
        hmonitor hrun rfl
      rw [htold] at hnormal hrepair
      refine ⟨fun design hmode hcond harmed => ?_, fun q hmode hcond hq => ?_⟩
      · intro repairs none_left
        rw [hdeclared, hnormal hmode hcond, State.normalBreak_eq hpos (by rw [hth]; exact hd) hclear (by rw [htp]; exact hmode)
          (by rw [htp]; exact harmed) (by rw [htp]; exact hsews) (none_left ∨ s.thread.breakPolicy = .stop)
          (by rw [hth, hpolicy]; exact Iff.rfl), State.firstBreak_eq hpos (by rw [hth]; exact hd) hclear (by rw [htp]; exact harmed),
          hblock, hth, hts, htp]
        rfl
      · intro broken empty
        rw [hdeclared, hrepair hmode hcond, State.repairBreak_eq hpos (by rw [hth]; exact hd) hclear (by rw [hth]; exact hq)
          (by rw [htp]; exact hsews) empty (s.thread.breakPolicy = .stop) (by rw [hth]; exact Iff.rfl) (by rw [hpolicy]),
          State.rebreak_eq hpos (by rw [hth]; exact hd) hclear (by rw [hth]; exact hq), hblock, hth, htp]
        rfl
  case window =>
    intro m opens closes counted hbelow hopen
    have hcount := State.count_feedWindow (elapsed := elapsed) hst hsew hbelow hopen
    have hwindow := State.feedWindow_eq (s := s.countedOn) (r := r) hr hk hbelow
    rw [exec_encoderCount hheld, hcount, hwindow]
    have hquiet (thread : Thread) : ({ counted with thread := thread } : State).quiet = true :=
      (State.quiet_congr _ s (by rfl) (by rfl) (by rfl) (by rfl) (by rfl)).trans hq
    refine ⟨fun h => ?_, fun h hne hfeed => ?_, fun hno hnc => ?_⟩
    · have hopens := Thread.open_eq s.thread s.heads.table s.countedOn.engaged fun n => ?_
      · rw [if_pos (by exact h), State.modThread]
        dsimp only [State.countedOn] at hopens ⊢
        rw [hopens, State.settle_of_quiet _ (hquiet _)]
      · rw [State.engaged, Nat.add_sub_cancel_left]
        show (s.heads.table[n]?.map Head.engaged).getD false = true ↔ _
        cases s.heads.table[n]? with
        | none => simp
        | some d => simp
    · rw [if_neg (by exact fun ho => hne (h.symm.trans ho)), if_pos ⟨hfeed, by exact h⟩, State.closeWindow_eq]
      rfl
    · rw [if_neg (by exact hno), if_neg (by exact fun h => hnc ⟨h.2, h.1⟩)]
      exact congrArg Host.Outcome.next (State.settle_of_quiet _ (hquiet s.thread))

end Sys2Proof.Machine
end

section
/-! PROOF. REPAIR: its refusals and the pass it begins (O46). -/

namespace Sys2Proof.Machine

/-! ### The start points of a pass (R147) -/

theorem lowestOf_mem {l : List Nat} (h : l ≠ []) : lowestOf l ∈ l := by
  induction l with
  | nil => exact absurd rfl h
  | cons n l ih =>
    cases l with
    | nil => exact List.mem_singleton.2 rfl
    | cons m l =>
      rw [lowestOf]
      · obtain hle | hle := Nat.le_total n (lowestOf (m :: l))
        · rw [Nat.min_eq_left hle]
          exact List.mem_cons_self
        · rw [Nat.min_eq_right hle]
          exact List.mem_cons_of_mem _ (ih (List.cons_ne_nil m l))
      · exact List.cons_ne_nil m l

theorem lowestOf_le {l : List Nat} {n : Nat} (h : n ∈ l) : lowestOf l ≤ n := by
  induction l with
  | nil => exact absurd h List.not_mem_nil
  | cons k l ih =>
    cases l with
    | nil => exact Nat.le_of_eq (List.mem_singleton.1 h).symm
    | cons m l =>
      rw [lowestOf]
      · obtain rfl | h := List.mem_cons.1 h
        · exact Nat.min_le_left _ _
        · exact (Nat.min_le_right _ _).trans (ih h)
      · exact List.cons_ne_nil m l

/-- R147: p0 is the lowest start point. -/
theorem lowestOf_eq {l : List Nat} {p0 : Nat} (hmem : p0 ∈ l) (hle : ∀ n ∈ l, p0 ≤ n) : lowestOf l = p0 :=
  Nat.le_antisymm (lowestOf_le hmem) (hle _ (lowestOf_mem (List.ne_nil_of_mem hmem)))

/-- R147: the selected heads wait at their start points. -/
theorem Heads.wait_eq (hs : Heads) (selected : List RepairRecord) (start : RepairRecord → Nat) :
    hs.wait (selected.map fun r => (r.head, start r)) = { hs with
      table := (hs.table.zipIdx 1).map fun (p : Head × Nat) =>
        match selected.find? fun r => r.head == p.2 with
        | some r => { p.1 with role := .waiting, start := some (start r) }
        | none => p.1 } := by
  have hfind (n : Nat) : (selected.map fun r => (r.head, start r)).find? (fun p => p.1 == n) =
      (selected.find? fun r => r.head == n).map fun r => (r.head, start r) := List.find?_map
  simp only [Heads.wait, mapFrom_eq, hfind]
  congr 2
  funext p
  cases selected.find? fun r => r.head == p.2 <;> rfl

/-! ### The refusals of REPAIR (R146) -/

theorem Heads.selected_eq (hs : Heads) (mask : Nat) :
    hs.selected mask = hs.repairs.filter fun r => decide (mask = 0 ∨ mask.testBit (r.head - 1) = true) :=
  List.filter_congr fun r _ => by rw [Bool.eq_iff_iff, selects_iff, decide_eq_true_iff]

/-! ### The pass that a REPAIR begins (R147 to R149) -/

/-- R147: the head table and the bookkeeping of a pass that is set up. -/
def State.passPrepared (s : State) (mask hEnd p0 : Nat) (start : RepairRecord → Nat) : Heads :=
  { s.heads with
    passEnd := some hEnd, passStart := some p0
    table := (s.heads.table.zipIdx 1).map fun (p : Head × Nat) =>
      match (s.heads.selected mask).find? fun r => r.head == p.2 with
      | some r => { p.1 with role := .waiting, start := some (start r) }
      | none => p.1 }

theorem State.passBegin_eq {s : State} {mask p0 hEnd : Nat} {d : Design} (saved : SavedReason) (start : RepairRecord → Nat)
    (hsel : s.heads.selection.getD 0 = mask) (hd : s.armedDesign = some d)
    (hstart : ∀ r : RepairRecord, start r = max (r.point - s.heads.overlap) ((s.store.firstOfBlock d r.block).getD 0))
    (hend : (if s.heads.leftPass then s.player.resume else s.player.cursor) = hEnd)
    (hmem : ∃ r ∈ s.heads.selected mask, start r = p0) (hle : ∀ r ∈ s.heads.selected mask, p0 ≤ start r) :
    (s.heads.trimDue = true → s.passBegin saved = (State.prefetch { s with
      heads := s.passPrepared mask hEnd p0 start
      player := { s.player.clearStop with resume := hEnd, saved := saved, state := .stopping, entryTrim := .asked } }).turnRequest) ∧
    (s.heads.trimDue = false → s.passBegin saved = (State.refill { s with
      heads := { s.passPrepared mask hEnd p0 start with leftPass := false }
      player := { s.player.clearStop with
        resume := hEnd, saved := saved, state := .returning, mode := .repair, cursor := p0, displaced := true
        errand := .returnWait .pass } }).holdRequest) := by
  have hpoint (r : RepairRecord) : s.startPoint r = start r := by
    rw [State.startPoint, hd, hstart]
    rfl
  have hlowest : lowestOf ((s.heads.selected mask).map start) = p0 := by
    obtain ⟨r, hr, hp⟩ := hmem
    refine lowestOf_eq (List.mem_map.2 ⟨r, hr, hp⟩) fun n hn => ?_
    obtain ⟨r, hr, rfl⟩ := List.mem_map.1 hn
    exact hle r hr
  have hstarts : ((s.heads.selected mask).map fun r => (r.head, s.startPoint r)) =
      (s.heads.selected mask).map fun r => (r.head, start r) := by simp only [hpoint]
  have hheads : ({ s.heads.wait ((s.heads.selected mask).map fun r => (r.head, start r)) with
      passEnd := some hEnd
      passStart := some (lowestOf (((s.heads.selected mask).map fun r => (r.head, start r)).map Prod.snd)) } : Heads) =
      s.passPrepared mask hEnd p0 start := by
    have hsnd : ((s.heads.selected mask).map fun r => (r.head, start r)).map Prod.snd = (s.heads.selected mask).map start := by
      rw [List.map_map]
      rfl
    rw [Heads.wait_eq, hsnd, hlowest, State.passPrepared]
  refine ⟨fun hdue => ?_, fun hdue => ?_⟩
  · rw [State.passBegin]
    simp only [hsel, hend, hstarts, State.modPlayer, State.modHeads, hheads]
    exact if_pos hdue
  · rw [State.passBegin]
    simp only [hsel, hend, hstarts, State.modPlayer, State.modHeads, hheads]
    exact if_neg (Bool.eq_false_iff.1 hdue)

/-- R146: REPAIR in a player that rests. -/
theorem State.repairNow_of_rest {s : State} {mask : Nat} {saved : SavedReason}
    (h : (s.player.state = .finished ∧ saved = .finished) ∨ ∃ r : PauseReason, s.player.state = .paused r ∧ saved = .paused r) :
    s.repairNow mask = State.passBegin { s with
      heads := { s.heads with selection := some mask }, frame := s.frame.take, outs := s.outs.allAuto } saved := by
  obtain ⟨hst, rfl⟩ | ⟨r, hst, rfl⟩ := h
  · simp only [State.repairNow, hst]
    rfl
  · simp only [State.repairNow, hst]
    rfl

theorem State.repairNow_of_running {s : State} {mask : Nat} (hst : s.player.state = .running) (hr : s.player.stopReason = none) :
    s.repairNow mask = { s with
      heads := { s.heads with selection := some mask }
      player := { s.player with state := .stopping, stopReason := some .repair, soonStop := true } } := by
  have hnow : s.repairNow mask = State.plannedStop { s with heads := { s.heads with selection := some mask } } .repair none := by
    simp only [State.repairNow, hst]
    rfl
  rw [hnow, State.plannedStop_soon (s := { s with heads := { s.heads with selection := some mask } }) (r := .repair) nofun
    (Or.inl hst)]
  simp only [Player.stopAsked, hr, Option.getD_none]

/-- Settles O46: the checks in their order, the planned stop from RUNNING, and the pass set up by `State.passBegin_eq`. -/
theorem repairBeginsAPass : Obligations.RepairBeginsAPass := by
  intro s mask hready answer refused selected inPass rests stopped fit
  have habove : maskAbove s.straps.heads mask = true ↔ 2 ^ s.straps.heads ≤ mask := decide_eq_true_iff
  have hpass : (s.player.mode == .repair || s.heads.inPass) = true ↔ inPass := by
    rw [Bool.or_eq_true, beq_iff_eq, Heads.inPass_iff]
  have hwrong : (!(s.player.state.isPaused || s.player.state == .finished || s.player.state == .running)) = true ↔
      ¬rests ∧ s.player.state ≠ .running := by
    rw [Bool.not_eq_true', ← Bool.not_eq_true, Bool.or_eq_true, Bool.or_eq_true, PlayerState.isPaused_iff, beq_iff_eq,
      beq_iff_eq, not_or, or_comm (a := ∃ r, _)]
  have hstopped : (s.takingOn.estop || s.shaftStopped) = true ↔ stopped := s.stopped_iff hready
  have hselected : s.heads.selected mask = selected := s.heads.selected_eq mask
  have hempty : (s.heads.selected mask).isEmpty = true ↔ selected = [] := by rw [hselected, List.isEmpty_iff]
  have refuse {st : Status} (h : s.takingOn.repairRefusal mask = some st) :
      answer = .next (s.replied 0xDA (replyOf st [])) := by
    refine exec_refused hready rfl rfl ?_
    simp only [State.serve, State.serveRepair, h]
  have refusal : s.takingOn.repairRefusal mask =
      if maskAbove s.straps.heads mask then some .badValue
      else if s.player.mode == .repair || s.heads.inPass then some .busy
      else if !(s.player.state.isPaused || s.player.state == .finished || s.player.state == .running) then some .wrongState
      else if s.takingOn.estop || s.shaftStopped then some .wrongState
      else if (s.heads.selected mask).isEmpty then some .notFound
      else if !s.frame.known then some .notHomed
      else if s.positionerBusy then some .busy
      else none := rfl
  have fits (hfit : mask < 2 ^ s.straps.heads) : ¬maskAbove s.straps.heads mask = true := mt habove.1 (Nat.not_le.2 hfit)
  have rested (hrests : rests ∨ s.player.state = .running) :
      ¬(!(s.player.state.isPaused || s.player.state == .finished || s.player.state == .running)) = true :=
    fun h => hrests.elim (hwrong.1 h).1 (hwrong.1 h).2
  refine ⟨fun hbad => refuse (st := .badValue) ?_, fun hfit hp => refuse (st := .busy) ?_,
    fun hfit hp hw => refuse (st := .wrongState) ?_, fun hfit hp hr hs he => refuse (st := .notFound) ?_,
    fun hfit hp hr hs he hk => refuse (st := .notHomed) ?_, fun hfit hp hr hs he hk ho => refuse (st := .busy) ?_, fun hfit hrun hno => ?_,
    fun d saved p0 hfit hd hrest => ?_⟩
  · rw [refusal, if_pos (habove.2 hbad)]
  · rw [refusal, if_neg (fits hfit), if_pos (hpass.2 hp)]
  · rw [refusal, if_neg (fits hfit), if_neg (mt hpass.1 hp)]
    by_cases hbad : ¬rests ∧ s.player.state ≠ .running
    · rw [if_pos (hwrong.2 hbad)]
    · rw [if_neg (mt hwrong.1 hbad), if_pos (hstopped.2 (hw.resolve_left hbad))]
  · rw [refusal, if_neg (fits hfit), if_neg (mt hpass.1 hp), if_neg (rested hr), if_neg (mt hstopped.1 hs), if_pos (hempty.2 he)]
  · rw [refusal, if_neg (fits hfit), if_neg (mt hpass.1 hp), if_neg (rested hr), if_neg (mt hstopped.1 hs),
      if_neg (mt hempty.1 he), if_pos (by rw [hk]; rfl)]
  · rw [refusal, if_neg (fits hfit), if_neg (mt hpass.1 hp), if_neg (rested hr), if_neg (mt hstopped.1 hs),
      if_neg (mt hempty.1 he), if_neg (by rw [hk]; simp), if_pos (s.positionerBusy_iff.2 ho)]
  all_goals
    have hserve : s.takingOn.serve (.repair mask) = okWith (s.takingOn.repairNow mask) [] := by
      obtain ⟨hfit, hp, hr, hs, he, hk, ho⟩ := hfit
      have hnone : s.takingOn.repairRefusal mask = none := by
        rw [refusal, if_neg (fits hfit), if_neg (mt hpass.1 hp), if_neg (rested hr), if_neg (mt hstopped.1 hs),
          if_neg (mt hempty.1 he), if_neg (by rw [hk]; simp), if_neg (mt s.positionerBusy_iff.1 ho)]
      simp only [State.serve, State.serveRepair, hnone]
  · rw [State.repairNow_of_running (by exact hrun) (by exact hno)] at hserve
    exact exec_stored hready rfl rfl hserve rfl rfl rfl rfl rfl
  · rw [State.repairNow_of_rest (s := s.takingOn) (saved := saved) hrest] at hserve
    intro start hEnd heads player taken trimDue hmem hle
    obtain ⟨s0, hs0⟩ : ∃ s0 : State, s0 = { s.takingOn with
      heads := { s.heads with selection := some mask }, frame := s.frame.take, outs := s.outs.allAuto } := ⟨_, rfl⟩
    have hsame : s0.heads.selected mask = selected := by
      rw [← hselected]
      subst hs0
      rfl
    have hprepared : s0.passPrepared mask hEnd p0 start = heads := by
      rw [State.passPrepared, hsame]
      subst hs0
      rfl
    obtain ⟨hdue, hnot⟩ := State.passBegin_eq (s := s0) (mask := mask) (p0 := p0) (hEnd := hEnd) (d := d) saved start
      (by subst hs0; exact rfl) (by rw [hs0]; exact hd) (fun r => by subst hs0; rfl) (by subst hs0; rfl) (by rw [hsame]; exact hmem)
      (by rw [hsame]; exact hle)
    rw [hprepared, hs0] at hdue hnot
    have htrim : s.heads.trimDue = true ↔ trimDue := by
      rw [Heads.trimDue, Bool.and_eq_true, Bool.or_eq_true, beq_iff_eq, beq_iff_eq]
    refine ⟨fun ht => ?_, fun ht => ?_⟩
    · exact exec_settled hready rfl rfl (hserve.trans (congrArg (okWith · []) (hdue (htrim.2 ht))))
    · exact exec_settled hready rfl rfl (hserve.trans (congrArg (okWith · []) (hnot (Bool.eq_false_iff.2 (mt htrim.1 ht)))))

end Sys2Proof.Machine
end

section
/-! PROOF. The condition inputs: lines, levels, latches and the machine functions (O49). -/

namespace Sys2Proof.Machine

/-! ### A stop as soon as possible (R35, R36) -/

section
variable {s : State} {r : StopReason}

/-- R35, R36: a planned stop as soon as possible, by the state of the player. -/
theorem State.stopsSoon_of_plannedStop {answers : State → Prop} (hr : r ≠ .design) (h : answers (s.plannedStop r none)) :
    s.StopsSoon r r.pause answers := by
  have hdrop : s.dropSelection r = s := if_neg fun h => hr h.2
  have hcombine := StopReason.combine_of_ne hr (held := s.player.stopReason)
  unfold State.StopsSoon
  cases hst : s.player.state with
  | running =>
    simpa only [State.plannedStop, hst, State.modPlayer, Player.combineStop_soon hr] using h
  | stopping =>
    simpa only [State.plannedStop, hst, hdrop, State.modPlayer, Player.combineStop_soon hr] using h
  | changing => simpa only [State.plannedStop, hst, State.modPlayer, hcombine] using h
  | returning => simpa only [State.plannedStop, hst, State.modPlayer, hcombine] using h
  | starved =>
    intro _ howner hmove hsewing
    rw [← State.enterPaused_of_still howner hmove hsewing]
    simpa only [State.plannedStop, hst, State.takeReason_of_ne hr] using h
  | idle => simpa only [State.plannedStop, hst] using h
  | armed => simpa only [State.plannedStop, hst] using h
  | finished => simpa only [State.plannedStop, hst] using h
  | paused why => simpa only [State.plannedStop, hst] using h
  | halted c => simpa only [State.plannedStop, hst] using h

/-- R36: a stop that is not asked for changes nothing; one that is asked for is a planned stop. -/
theorem State.askStop_getD (s : State) (r : StopReason) : (s.askStop r).getD s = s.plannedStop r none := by
  unfold State.askStop State.plannedStop
  cases s.player.state <;> rfl

theorem Frame.lendBy_move (f : Frame) (sewing : Bool) : (f.lendBy sewing).move = f.move := by
  unfold Frame.lendBy
  (repeat' split) <;> rfl

/-- R36: what a planned stop of the host, of a button or of a head leaves of the shaft, the case and the frame's moves. -/
theorem State.plannedStop_keeps (hr : r ≠ .design) (index : Option Nat) :
    (s.plannedStop r index).nc = s.nc ∧ (s.plannedStop r index).shaft = s.shaft ∧ (s.plannedStop r index).gov = s.gov ∧
      (s.plannedStop r index).frame.move = s.frame.move ∧ (s.plannedStop r index).straps = s.straps ∧
      (s.plannedStop r index).heads = s.heads ∧
      ((s.plannedStop r index).player.errand = .none ∨ (s.plannedStop r index).player.errand = s.player.errand) := by
  have hdrop : s.dropSelection r = s := if_neg fun h => hr h.2
  unfold State.plannedStop
  cases hst : s.player.state <;>
    simp [hdrop, State.takeReason_of_ne hr, State.enterPaused, Player.clearStop, State.modPlayer, Player.combineStop, State.lend_eq, Frame.lendBy_move]

theorem State.plannedStop_quiet (hq : s.quiet = true) (hr : r ≠ .design) (index : Option Nat) :
    (s.plannedStop r index).quiet = true := by
  obtain ⟨hnc, hshaft, hgov, hmove, -, -, herrand⟩ := State.plannedStop_keeps (s := s) hr index
  obtain he | he := herrand
  · exact State.quiet_of_no_errand hq hnc (congrArg Shaft.state hshaft) he
  · exact (State.quiet_congr _ s hnc (congrArg Shaft.state hshaft) he (by rw [hmove]) (by rw [hgov])).trans hq

end

/-! ### The start button (R31, R32, R166) -/

section
variable {s : State}

/-- R31, R32: what neither START nor RESUME is refused for. -/
def State.Wakes (s : State) : Prop :=
  s.ev.estop ≠ some false ∧ s.shaft.state ≠ .fault ∧ s.shaft.state ≠ .braking ∧ s.frame.known = true ∧
    s.frame.owner ≠ .positioner

theorem State.startRefusal_none_iff (hheld : s.resetHeld = false) :
    s.startRefusal = none ↔ s.player.state = .armed ∧ s.Wakes ∧ s.nc.state ≠ .fault := by
  have hestop : s.estop = true ↔ s.ev.estop = some false := by rw [State.estop_of_running hheld, decide_eq_true_iff]
  rw [State.startRefusal, State.Wakes]
  simp only [State.shaftStopped, State.positionerBusy, Bool.or_eq_true, beq_iff_eq, hestop]
  (repeat' split) <;> simp_all <;> tauto

theorem State.resumeRefusal_none_iff (hheld : s.resetHeld = false) :
    s.resumeRefusal = none ↔ (∃ r : PauseReason, s.player.state = .paused r) ∧ s.Wakes ∧
      (s.player.mode = .normal ∨ ∃ h ∈ s.heads.table, h.role ≠ .none) := by
  have hestop : s.estop = true ↔ s.ev.estop = some false := by rw [State.estop_of_running hheld, decide_eq_true_iff]
  have hmode : s.player.mode = .repair ↔ s.player.mode ≠ .normal := by cases s.player.mode <;> simp
  rw [State.resumeRefusal, State.Wakes, ← PlayerState.isPaused_iff, ← Heads.inPass_iff]
  simp only [State.shaftStopped, State.positionerBusy, Bool.or_eq_true, Bool.and_eq_true, beq_iff_eq, hestop, hmode]
  (repeat' split) <;> simp_all <;> tauto

/-- R166: START_BTN is ignored where neither START nor RESUME would be accepted. -/
theorem State.startPress_ignored (hheld : s.resetHeld = false)
    (hstart : ¬(s.player.state = .armed ∧ s.Wakes ∧ s.nc.state ≠ .fault))
    (hresume : ¬((∃ r : PauseReason, s.player.state = .paused r) ∧ s.Wakes ∧
      (s.player.mode = .normal ∨ ∃ h ∈ s.heads.table, h.role ≠ .none))) : s.startPress = s := by
  rw [← State.startRefusal_none_iff hheld, ← Option.isNone_iff_eq_none] at hstart
  rw [← State.resumeRefusal_none_iff hheld, ← Option.isNone_iff_eq_none] at hresume
  rw [State.startPress, if_neg hstart, if_neg hresume]

theorem State.startPress_starts (hheld : s.resetHeld = false) (hst : s.player.state = .armed) (hw : s.Wakes)
    (hcase : s.nc.state ≠ .fault) : s.startPress = State.holdRequest { s with
      frame := s.frame.take
      outs := s.outs.allAuto
      player :=
        if s.player.displaced then { s.player with state := .returning, errand := .returnWait .start }
        else { s.player with state := .changing, errand := .changeWait .start 0 } } := by
  have h := (State.startRefusal_none_iff hheld).2 ⟨hst, hw, hcase⟩
  rw [State.startPress, if_pos (by rw [h]; rfl)]
  rfl

theorem State.startPress_resumes {r : PauseReason} (hheld : s.resetHeld = false) (hst : s.player.state = .paused r) (hw : s.Wakes)
    (hsews : s.player.mode = .normal ∨ ∃ h ∈ s.heads.table, h.role ≠ .none) : s.startPress = State.holdRequest { s with
      frame := s.frame.take
      outs := s.outs.allAuto
      heads := { s.heads with leftPass := false }
      player :=
        let p := { s.player with cursor := if s.heads.leftPass then s.player.resume else s.player.cursor }
        if s.player.displaced then { p with state := .returning, errand := .returnWait .resume }
        else { p with state := .changing, errand := .changeWait .resume 0 } } := by
  have hno : ¬s.startRefusal.isNone = true := by
    rw [Option.isNone_iff_eq_none, State.startRefusal_none_iff hheld, hst]
    exact fun h => PlayerState.noConfusion h.1
  have h := (State.resumeRefusal_none_iff hheld).2 ⟨⟨r, hst⟩, hw, hsews⟩
  rw [State.startPress, if_neg hno, if_pos (by rw [h]; rfl), State.resumeNow, State.returnToPass_eq]
  rfl

end

/-! ### Levels and latches (R162, R163) -/

section
variable {s : State} {n : Nat} {i : Input}

/-- The inputs with one replaced. -/
def State.putInput (s : State) (n : Nat) (j : Input) : List Input := s.ev.inputs.take n ++ j :: s.ev.inputs.drop (n + 1)

theorem State.modInput_eq (hi : s.ev.inputs[n]? = some i) (f : Input → Input) :
    s.modInput n f = { s with ev := { s.ev with inputs := s.putInput n (f i) } } := by
  rw [State.modInput, State.putInput, ← updAt_eq_take_drop f hi]
  rfl

theorem State.modInput_modInput (s : State) (n : Nat) (f g : Input → Input) :
    (s.modInput n f).modInput n g = s.modInput n (g ∘ f) := by
  simp only [State.modInput, State.modEv, updAt_updAt]

theorem State.modInput_get (hi : s.ev.inputs[n]? = some i) (f : Input → Input) :
    (s.modInput n f).ev.inputs[n]? = some (f i) := by
  show (updAt n f s.ev.inputs)[n]? = _
  rw [updAt_getElem?, if_pos rfl, hi]
  rfl

/-- R163: the latch of a line without a head behind it, and without a report. -/
theorem State.latchInput_silent (hn : 12 ≤ n) {j : Input} (hj : j.report = false) :
    s.latchInput n j = s.modInput n fun x => { x with latch := true, armed := false } := by
  rw [State.latchInput, if_neg (Nat.not_lt.2 hn), if_neg (by rw [hj]; exact Bool.false_ne_true)]

theorem State.latchInput_bobbin (hn : n < 12) {j : Input} (hj : j.report = false) :
    s.latchInput n j = (s.modInput n fun x => { x with latch := true, armed := false }).bobbinLatched (n + 1) := by
  rw [State.latchInput, if_pos hn, if_neg (by rw [hj]; exact Bool.false_ne_true)]

/-- R133: a BOBBIN input's latch marks its head. -/
def State.bobbinMarked (s : State) (n : Nat) : State :=
  State.latch { s with
    heads := { s.heads with table := updAt n (fun d => { d with bobbinLow := true }) s.heads.table } } .bobbinLow (b1 (n + 1))

theorem State.bobbinLatched_eq {d : Head} (hd : s.heads.table[n]? = some d) : s.bobbinLatched (n + 1) =
    if s.thread.bobbinPolicy = .stop ∧ d.enabled = true then (s.bobbinMarked n).plannedStop .bobbinStop none
    else s.bobbinMarked n := by
  have hhead : s.heads.head (n + 1) = some d := hd
  have hpolicy : (s.bobbinMarked n).thread.bobbinPolicy = s.thread.bobbinPolicy := by simp [State.bobbinMarked]
  rw [← hpolicy]
  simp only [State.bobbinLatched, hhead]
  rfl

theorem State.latchLevel_of_some (hi : s.ev.inputs[n]? = some i) :
    s.latchLevel n = if i.standing = true ∧ i.latch = false then s.latchInput n i else s := by
  simp only [State.latchLevel, hi]
  exact if_congr (by simp [Input.standing]) rfl rfl

/-- R162: the level changes the active state with it. -/
theorem Input.isActive_change (h : i.level = some (!i.raw)) :
    ({ i with level := some i.raw } : Input).isActive ≠ i.isActive := by
  simp only [Input.isActive, h]
  cases i.raw <;> cases i.mode.activeHigh <;> decide

theorem State.takeLevel_same (h : i.level = some i.raw) : s.takeLevel n i = s := by
  simp only [State.takeLevel, h, if_true]

theorem State.takeLevel_change (h : i.level = some (!i.raw)) : s.takeLevel n i = State.activeChanged
    (if i.mode.takes i.raw = true ∧ i.armed = true then
      (s.modInput n fun j => { j with level := some j.raw }).latchInput n { i with level := some i.raw }
    else (s.modInput n fun j => { j with level := some j.raw }).latchLevel n) n
      ({ i with level := some i.raw } : Input).isActive := by
  have hne : ¬(!i.raw) = i.raw := by cases i.raw <;> decide
  simp only [State.takeLevel, h, if_neg hne]
  rw [if_neg (Input.isActive_change h)]
  simp only [Bool.and_eq_true]

theorem State.takeLevel_first (h : i.level = none) : s.takeLevel n i =
    (((s.modInput n fun j => { j with level := some j.raw }).latchLevel n).followSwitch n
      ({ i with level := some i.raw } : Input).isActive).homeInput := by
  simp only [State.takeLevel, h]

/-! ### The machine functions (R140, R166) -/

theorem State.homeInput_of_not (h : ¬∃ (a : Axis) (stage : HomeStage), s.frame.move = some (.homing a stage)) :
    s.homeInput = s := by
  unfold State.homeInput
  split
  · rename_i a st hm
    exact absurd ⟨a, st, hm⟩ h
  · rfl
  · rfl

theorem State.homeInput_of_none (h : s.frame.move = none) : s.homeInput = s :=
  State.homeInput_of_not (by rw [h]; rintro ⟨a, st, hm⟩; cases hm)

theorem State.followSwitch_of_not (h : n < 12 ∨ 24 ≤ n) (on : Bool) : s.followSwitch n on = s := if_neg (by omega)

theorem State.becameActive_of_plain (h : n < 24 ∨ 30 ≤ n) : s.becameActive n = s := by
  have hlimit : limitCause n = none := by
    unfold limitCause
    split
    case h_5 => rfl
    all_goals omega
  rw [State.becameActive, hlimit]
  simp only []
  rw [if_neg (by omega), if_neg (by omega)]

/-- R166: an input without a machine function. -/
theorem State.activeChanged_of_bobbin (h : n < 12) (on : Bool) : s.activeChanged n on = s.homeInput := by
  rw [State.activeChanged, State.followSwitch_of_not (Or.inl h)]
  cases on
  · rfl
  · exact State.becameActive_of_plain (by omega)

theorem State.activeChanged_of_home (h : 30 ≤ n) (on : Bool) : s.activeChanged n on = s.homeInput := by
  rw [State.activeChanged, State.followSwitch_of_not (by omega)]
  cases on
  · rfl
  · exact State.becameActive_of_plain (Or.inr h)

theorem State.activeChanged_of_switch (hlo : 12 ≤ n) (hhi : n < 24) (on : Bool) :
    s.activeChanged n on = State.homeInput { s with
      heads := { s.heads with table := updAt (n - 12) (fun h => { h with switch := on }) s.heads.table } } := by
  have hswitch : s.followSwitch n on = { s with
      heads := { s.heads with table := updAt (n - 12) (fun h => { h with switch := on }) s.heads.table } } := if_pos ⟨hlo, hhi⟩
  rw [State.activeChanged, hswitch]
  cases on
  · rfl
  · exact State.becameActive_of_plain (Or.inl hhi)

theorem State.activeChanged_start (s : State) : s.activeChanged 24 true = s.homeInput.startPress := by
  rw [State.activeChanged, State.followSwitch_of_not (by omega)]
  rfl

theorem State.activeChanged_stop (s : State) : s.activeChanged 25 true = s.homeInput.plannedStop .buttonStop none := by
  rw [State.activeChanged, State.followSwitch_of_not (by omega), ← State.askStop_getD]
  rfl

end

end Sys2Proof.Machine
end

section
/-! PROOF. Input lines that change and levels that settle (O49). -/

namespace Sys2Proof.Machine

theorem exec_inputLineChange (n : Nat) (high : Bool) (s : State) :
    exec (.inputLineChange n high) s = .next ((s.rawLine n high).event fun t => t.followUnfiltered n) := rfl

section
variable {s : State} {n : Nat} {i : Input}

theorem State.settleInput_of_some (hi : s.ev.inputs[n]? = some i) : s.settleInput n = s.takeLevel n i := by
  simp only [State.settleInput, hi]

theorem State.followUnfiltered_of_some (hi : s.ev.inputs[n]? = some i) :
    s.followUnfiltered n = if i.filter = 0 then s.takeLevel n i else s := by
  simp only [State.followUnfiltered, hi]

/-- R162, R163: an armed edge of an input without a head latches and disarms it before its machine function acts. -/
theorem State.takeLevel_edge (hi : s.ev.inputs[n]? = some i) (hn : 12 ≤ n) {l : Bool} (hraw : i.raw = l)
    (hlevel : i.level = some (!l)) (htakes : i.mode.takes l = true) (harmed : i.armed = true) (hreport : i.report = false) :
    s.takeLevel n i = State.activeChanged { s with
      ev := { s.ev with inputs := s.putInput n { i with level := some l, latch := true, armed := false } } } n
        ({ i with level := some l } : Input).isActive := by
  subst hraw
  rw [State.takeLevel_change hlevel, if_pos ⟨htakes, harmed⟩, State.latchInput_silent (j := { i with level := some i.raw }) hn hreport,
    State.modInput_modInput, State.modInput_eq hi]
  rfl

/-- R133, R163: an armed edge of a BOBBIN input latches it and marks its head. -/
theorem State.takeLevel_bobbin {d : Head} (hi : s.ev.inputs[n]? = some i) (hn : n < 12) (hd : s.heads.table[n]? = some d)
    (hlevel : i.level = some (!i.raw)) (htakes : i.mode.takes i.raw = true) (harmed : i.armed = true) (hreport : i.report = false)
    {low : State} (hlow : State.bobbinMarked { s with
      ev := { s.ev with inputs := s.putInput n { i with level := some i.raw, latch := true, armed := false } } } n = low) :
    s.takeLevel n i =
      State.homeInput (if s.thread.bobbinPolicy = .stop ∧ d.enabled = true then low.plannedStop .bobbinStop none else low) := by
  rw [State.takeLevel_change hlevel, if_pos ⟨htakes, harmed⟩, State.activeChanged_of_bobbin hn,
    State.latchInput_bobbin (j := { i with level := some i.raw }) hn hreport, State.modInput_modInput, State.modInput_eq hi]
  have hmarked := State.bobbinLatched_eq (s := { s with
    ev := { s.ev with inputs := s.putInput n { i with level := some i.raw, latch := true, armed := false } } }) hd
  rw [hlow] at hmarked
  exact congrArg State.homeInput hmarked

/-- R163: a level input of mode LEVEL_LOW once its level is taken. -/
theorem State.latchLevel_levelLow (hi : s.ev.inputs[n]? = some i) (hn : 12 ≤ n) (hmode : i.mode = .levelLow)
    (hreport : i.report = false) : (s.modInput n fun j => { j with level := some j.raw }).latchLevel n = { s with
      ev := { s.ev with inputs := s.putInput n { i with
        level := some i.raw, latch := i.latch || !i.raw, armed := i.armed && (i.latch || i.raw) } } } := by
  have hstanding : ({ i with level := some i.raw } : Input).standing = !i.raw := by
    simp [Input.standing, Input.isActive, InputMode.isLevel, InputMode.activeHigh, hmode]
  rw [State.latchLevel_of_some (State.modInput_get hi _), hstanding]
  by_cases h : (!i.raw) = true ∧ i.latch = false
  · obtain ⟨hraw, hlatch⟩ := h
    rw [if_pos ⟨hraw, hlatch⟩, State.latchInput_silent (j := { i with level := some i.raw }) hn hreport, State.modInput_modInput,
      State.modInput_eq hi]
    have hlow : i.raw = false := by simpa using hraw
    simp [hlatch, hlow]
  · rw [if_neg (by exact h), State.modInput_eq hi]
    have hkept : (i.latch || !i.raw) = i.latch ∧ (i.armed && (i.latch || i.raw)) = i.armed := by
      revert h
      cases i.latch <;> cases i.raw <;> simp
    rw [hkept.1, hkept.2]

/-- R99: what a homing in flight sees of its switch. -/
theorem State.homeInput_homing {a : Axis} {stage : HomeStage} (h : s.frame.move = some (.homing a stage)) {active : Bool}
    (hactive : s.homeActive a = active) :
    s.homeInput = { s with frame := { s.frame with move := some (.homing a (stage.see active)) } } := by
  subst hactive
  simp only [State.homeInput, h]
  rfl

end

/-- Settles O49: the raw line, then a settled level by the input it belongs to. -/
theorem inputLinesAreFilteredAndTaken : Obligations.InputLinesAreFilteredAndTaken := by
  intro s n i hheld hq hlen hi put settled
  have hn32 : n < 32 := by
    rw [← hlen]
    exact (List.getElem?_eq_some_iff.1 hi).1
  have hput (j : Input) : s.putInput n j = put j := rfl
  have calm (ev : Events) (heads : Heads) : ({ s with ev := ev, heads := heads } : State).quiet = true :=
    (State.quiet_congr _ s (by rfl) (by rfl) (by rfl) (by rfl) (by rfl)).trans hq
  have settles {t : State} (ht : s.takeLevel n i = t) (hquiet : t.quiet = true) : settled = .next t := by
    have hsettle := (State.settleInput_of_some hi).trans ht
    dsimp only [settled]
    rw [exec_inputFilterSettled, State.event_quiet _ _ hheld (by rw [hsettle]; exact hquiet), hsettle]
  refine ⟨fun high => ⟨fun h => ?raw, fun hfilter hlevel => ?unfiltered, ?estop⟩, fun h => settles (State.takeLevel_same h) hq,
    fun hlevel hmode hn hmove => settles ?first (calm _ s.heads), fun d hn hd hlevel harmed hreport hedge hmove => ?bobbin,
    fun d hlo hhi hd hlevel hmode hlatched hmove => settles ?switch (calm _ _),
    fun hn hlevel hraw hmode harmed hreport hmove hrun hno => ?stopping,
    fun hn hlevel hraw hmode harmed hreport hmove => ?buttons,
    fun a stage hn hmove hmode hreport hlevel => ?homing, fun hlo hhi hlevel hraw hmode he hk => ?limit⟩
  case raw =>
    have hraw : (s.rawLine n high) = s.modInput n fun i => { i with raw := high } := if_neg (by omega)
    have hstays : (s.modInput n fun i => { i with raw := high }).followUnfiltered n = s.modInput n fun i => { i with raw := high } := by
      rw [State.followUnfiltered_of_some (State.modInput_get hi _)]
      obtain hfilter | hlevel := h
      · exact if_neg (Nat.pos_iff_ne_zero.1 hfilter)
      · rw [State.takeLevel_same (by exact hlevel), ite_self]
    rw [exec_inputLineChange, hraw, State.event_quiet _ _ (by exact hheld) (by rw [hstays]; exact calm _ s.heads), hstays,
      State.modInput_eq hi, hput]
  case unfiltered =>
    have hraw : (s.rawLine n high) = { s with ev := { s.ev with inputs := put { i with raw := high } } } := by
      rw [← hput, ← State.modInput_eq hi fun i => { i with raw := high }]
      exact if_neg (by omega)
    have hget := State.modInput_get hi fun i => { i with raw := high }
    rw [State.modInput_eq hi, hput] at hget
    rw [exec_inputLineChange, hraw, exec_inputFilterSettled, State.event_of_running (by exact hheld),
      State.event_of_running (by exact hheld), State.followUnfiltered_of_some hget, if_pos (by exact hfilter),
      State.settleInput_of_some hget]
  case estop =>
    have hraw : s.rawLine 32 high = { s with ev := { s.ev with estopRaw := high } } := if_pos rfl
    have hnone : s.ev.inputs[32]? = none := List.getElem?_eq_none (by omega)
    have hstays : State.followUnfiltered { s with ev := { s.ev with estopRaw := high } } 32 =
        { s with ev := { s.ev with estopRaw := high } } := by
      simp only [State.followUnfiltered, hnone]
    rw [exec_inputLineChange, hraw, State.event_quiet _ _ (by exact hheld) (by rw [hstays]; exact calm _ s.heads), hstays]
  case first =>
    have hlevelled : (s.modInput n fun j => { j with level := some j.raw }).latchLevel n =
        s.modInput n fun j => { j with level := some j.raw } := by
      rw [State.latchLevel_of_some (State.modInput_get hi _), if_neg]
      rintro ⟨hst, -⟩
      obtain h | h | h := hmode <;> simp [Input.standing, InputMode.isLevel, h] at hst
    rw [State.takeLevel_first hlevel, hlevelled, State.followSwitch_of_not (Or.inr hn), State.homeInput_of_none (by exact hmove),
      State.modInput_eq hi, hput]
  case bobbin =>
    intro low
    have htakes : i.mode.takes i.raw = true := by
      obtain ⟨h, hr⟩ | ⟨h, hr⟩ | h := hedge <;> simp [h, InputMode.takes, *]
    have hlow : State.bobbinMarked { s with
        ev := { s.ev with inputs := s.putInput n { i with level := some i.raw, latch := true, armed := false } } } n = low := by
      rw [State.bobbinMarked]
      simp only [updAt_eq_take_drop _ hd]
      rfl
    have htaken := State.takeLevel_bobbin hi hn hd hlevel htakes harmed hreport hlow
    have hlowmove : low.frame.move = none := by rw [← hlow]; simp [State.bobbinMarked, hmove]
    have hlowquiet : low.quiet = true := by
      rw [← hlow, State.bobbinMarked, State.latch_quiet]
      exact calm _ _
    refine ⟨fun h => settles ?_ hlowquiet, fun hstop hen => State.stopsSoon_of_plannedStop (r := .bobbinStop) nofun
      (settles ?_ (State.plannedStop_quiet (r := .bobbinStop) hlowquiet nofun none))⟩
    · rw [htaken, if_neg, State.homeInput_of_none hlowmove]
      rintro ⟨hp, he⟩
      obtain h | h := h
      · rw [h] at hp
        exact BobbinPolicy.noConfusion hp
      · rw [h] at he
        cases he
    · rw [htaken, if_pos ⟨hstop, hen⟩, State.homeInput_of_none]
      exact (State.plannedStop_keeps (r := .bobbinStop) nofun none).2.2.2.1.trans hlowmove
  case switch =>
    have hactive : ({ i with level := some i.raw } : Input).isActive = i.raw := by
      simp [Input.isActive, hmode, InputMode.activeHigh]
    have hlevelled : (s.modInput n fun j => { j with level := some j.raw }).latchLevel n =
        s.modInput n fun j => { j with level := some j.raw } := by
      rw [State.latchLevel_of_some (State.modInput_get hi _), if_neg]
      rintro ⟨hst, hlatch⟩
      have hraw : i.raw = true := by
        rw [← hactive]
        exact (Bool.and_eq_true_iff.1 hst).2
      exact Bool.false_ne_true (hlatch.symm.trans (hlatched hraw))
    have htaken : s.takeLevel n i = State.homeInput { s with
        ev := { s.ev with inputs := put { i with level := some i.raw } }
        heads := { s.heads with table := updAt (n - 12) (fun h => { h with switch := i.raw }) s.heads.table } } := by
      rw [State.takeLevel_change hlevel, if_neg (by simp [hmode, InputMode.takes]), hlevelled, hactive,
        State.activeChanged_of_switch hlo hhi, State.modInput_eq hi, hput]
    have hnext : n - 12 + 1 = n - 11 := by omega
    rw [htaken, State.homeInput_of_none (by exact hmove), updAt_eq_take_drop _ hd, hnext]
  case stopping =>
    subst hn
    have htaken := State.takeLevel_edge hi (by omega) hraw hlevel (by simp [hmode, InputMode.takes]) harmed hreport
    have hactive : ({ i with level := some false } : Input).isActive = true := by
      simp [Input.isActive, hmode, InputMode.activeHigh]
    rw [hactive, State.activeChanged_stop, State.homeInput_of_none (by exact hmove), State.plannedStop_soon (r := .buttonStop) nofun (Or.inl (by exact hrun)),
      hput] at htaken
    refine settles (htaken.trans ?_) ((State.quiet_congr _ s (by rfl) (by rfl) (by rfl) (by rfl) (by rfl)).trans hq)
    simp only [Player.stopAsked, hno, Option.getD_none]
  case buttons =>
    intro pressed wakes sews
    have htaken := State.takeLevel_edge hi (by omega) hraw hlevel (by simp [hmode, InputMode.takes]) harmed hreport
    have hactive : ({ i with level := some false } : Input).isActive = true := by
      simp [Input.isActive, hmode, InputMode.activeHigh]
    rw [hactive, hput] at htaken
    have pressedStart {t : State} (hn : n = 24) (ht : pressed.startPress = t) : s.takeLevel n i = t := by
      subst hn
      rw [htaken, State.activeChanged_start, State.homeInput_of_none (by exact hmove)]
      exact ht
    have begun {t : State} (hn : n = 24) (ht : pressed.startPress = t) : settled = .next t.settle := by
      dsimp only [settled]
      rw [exec_inputFilterSettled, State.event_of_running hheld, State.settleInput_of_some hi, pressedStart hn ht]
    refine ⟨fun hn hstart hresume => settles (pressedStart hn (State.startPress_ignored (by exact hheld) hstart hresume)) (calm _ s.heads),
      fun hn hst hw hcase => begun hn (State.startPress_starts (by exact hheld) hst hw hcase),
      fun r hn hst hw hs => begun hn (State.startPress_resumes (by exact hheld) hst hw hs), fun hn => ?_⟩
    subst hn
    refine State.stopsSoon_of_plannedStop (r := .buttonStop) nofun (settles ?_
      (State.plannedStop_quiet (r := .buttonStop) (calm _ s.heads) nofun none))
    rw [htaken, State.activeChanged_stop, State.homeInput_of_none (by exact hmove)]
  case homing =>
    have hn30 : 30 ≤ n := by cases a <;> simp only [] at hn <;> omega
    have hlatched := State.latchLevel_levelLow hi (by omega) hmode hreport
    have htaken : s.takeLevel n i = State.homeInput { s with
        ev := { s.ev with inputs := s.putInput n { i with
          level := some i.raw, latch := i.latch || !i.raw, armed := i.armed && (i.latch || i.raw) } } } := by
      obtain hlevel | hlevel := hlevel
      · rw [State.takeLevel_first hlevel, State.followSwitch_of_not (by omega), hlatched]
      · rw [State.takeLevel_change hlevel, if_neg (by simp [hmode, InputMode.takes]), hlatched, State.activeChanged_of_home hn30]
    refine settles (htaken.trans ((State.homeInput_homing (a := a) (stage := stage) (active := !i.raw) (by exact hmove) ?_).trans ?_))
      ((State.quiet_congr _ s (by rfl) (by rfl) (by rfl) (by rw [hmove]; rfl) (by rfl)).trans hq)
    · have hget (j : Input) : (put j)[n]? = some j := by
        have hput := State.modInput_get hi fun _ => j
        rw [State.modInput_eq hi] at hput
        exact hput
      have hinput (k : Nat) (hk : n = k) (u : State) (hu : u.ev.inputs = put { i with
          level := some i.raw, latch := i.latch || !i.raw, armed := i.armed && (i.latch || i.raw) }) : u.inputActive k = !i.raw := by
        subst hk
        rw [State.inputActive, hu, hget]
        simp [Input.isActive, hmode, InputMode.activeHigh]
      cases a with
      | x => exact hinput 30 hn _ rfl
      | y => exact hinput 31 hn _ rfl
    · cases stage <;> cases i.raw <;> rfl
  case limit =>
    obtain ⟨u, c, hu, hp, hnc, hf, hm⟩ := State.settleInput_limit hlo hhi hi hlevel hraw hmode
    have hfault := u.axisFault_axisFaulted c
    rw [State.settleInput_of_some hi] at hu
    refine ⟨_, settles hu (State.axisFault_quiet c (Or.inl ⟨by rw [hp]; exact he, by rw [hnc]; exact hk⟩)), hfault.known, hfault.still,
      hfault.unsewn, hfault.latched, hfault.x.trans (by rw [hf]), hfault.y.trans (by rw [hf]), fun howner hrun => ?_⟩
    have hclaimed : u.frame.claimed = true := (Frame.claimed_iff _).2 (Or.inl (by rw [hf]; exact howner))
    rw [hfault.halts hclaimed (by rw [hp, hrun]; nofun) (by rw [hp, hrun]; nofun)]
    rfl

end Sys2Proof.Machine
end

section
/-! PROOF. SET_INPUT and INPUT_CLEAR (O48). -/

namespace Sys2Proof.Machine

theorem updAt_eq_zipIdx {α : Type} (k n : Nat) (f : α → α) (l : List α) :
    updAt n f l = (l.zipIdx k).map fun p => if p.2 = n + k then f p.1 else p.1 := by
  refine List.ext_getElem? fun i => ?_
  rw [updAt_getElem?, List.getElem?_map, List.getElem?_zipIdx]
  cases l[i]? with
  | none => simp
  | some a =>
    by_cases h : i = n
    · simp [h, Nat.add_comm]
    · simp [h, Nat.add_comm, show ¬k + i = k + n by omega]

theorem InputMode.ofCode_code (m : InputMode) : InputMode.ofCode m.code = some m := by cases m <;> rfl

theorem InputMode.ofCode_of_gt {n : Nat} (h : 4 < n) : InputMode.ofCode n = none := by
  obtain ⟨k, rfl⟩ := Nat.exists_eq_add_of_le' h
  rfl

theorem State.Latches.plannedStop {s : State} {r : StopReason} (hr : r ≠ .design) (index : Option Nat) :
    s.Latches (s.plannedStop r index) := by
  have hdrop : s.dropSelection r = s := if_neg fun h => hr h.2
  have hpaused : s.Latches (s.enterPaused r.pause) :=
    .trans (.of_ev_eq (by simp [State.lend_eq])) (.latch (s.modPlayer fun p => { p.clearStop with state := .paused r.pause }).lend _ _)
  unfold State.plannedStop
  cases hst : s.player.state
  case starved =>
    simp only [State.takeReason_of_ne hr]
    exact hpaused
  all_goals
    simp only [hdrop]
    exact .of_ev_eq rfl

section
variable {s : State} {n : Nat}

theorem State.bobbinMarked_ev (s : State) (n : Nat) :
    (s.bobbinMarked n).ev = { s.ev with flags := s.ev.flags ||| Event.bobbinLow.bit } := by
  rw [State.bobbinMarked, State.latch_flags]

/-- R133: what a BOBBIN input's latch does leaves the inputs and the frame's moves. -/
theorem State.bobbinLatched_keeps (s : State) (n : Nat) : (s.bobbinLatched (n + 1)).ev.inputs = s.ev.inputs ∧
    (s.bobbinLatched (n + 1)).frame.move = s.frame.move := by
  cases hd : s.heads.table[n]? with
  | none =>
    have hhead : s.heads.head (n + 1) = none := hd
    simp only [State.bobbinLatched, hhead, and_self]
  | some d =>
    rw [State.bobbinLatched_eq hd]
    have hmarked : (s.bobbinMarked n).ev.inputs = s.ev.inputs ∧ (s.bobbinMarked n).frame.move = s.frame.move := by
      rw [State.bobbinMarked_ev]
      simp [State.bobbinMarked]
    split
    · obtain ⟨-, -, -, hmove, -⟩ := State.plannedStop_keeps (s := s.bobbinMarked n) (r := .bobbinStop) nofun none
      obtain ⟨more, hmore⟩ := State.Latches.plannedStop (s := s.bobbinMarked n) (r := .bobbinStop) nofun none
      exact ⟨(congrArg Events.inputs hmore).trans hmarked.1, hmove.trans hmarked.2⟩
    · exact hmarked

/-- R164: the head table once a BOBBIN input is cleared. -/
def clearedTable (n : Nat) (table : List Head) : List Head :=
  (table.zipIdx 0).map fun (p : Head × Nat) => if p.2 = n ∧ n < 12 then { p.1 with bobbinLow := false } else p.1

theorem clearedTable_of_lt (h : n < 12) (table : List Head) :
    clearedTable n table = updAt n (fun d => { d with bobbinLow := false }) table := by
  rw [updAt_eq_zipIdx 0, clearedTable]
  simp only [h, and_true, Nat.add_zero]

theorem clearedTable_of_le (h : 12 ≤ n) (table : List Head) : clearedTable n table = table := by
  have hno (p : Head × Nat) : ¬(p.2 = n ∧ n < 12) := fun hp => Nat.not_lt.2 h hp.2
  simp only [clearedTable, hno, if_false]
  exact List.zipIdx_map_fst 0 table

/-- R164, R163: an input is cleared, its head's flag with it, and its fields are set. -/
theorem State.clearInput_modInput {i : Input} (hi : s.ev.inputs[n]? = some i) (g : Input → Input) :
    (s.clearInput n).modInput n g = { s with
      ev := { s.ev with inputs := s.putInput n (g { i with latch := false, armed := true }) }
      heads := { s.heads with table := clearedTable n s.heads.table } } := by
  have hinput : (s.modInput n fun i => { i with latch := false, armed := true }).modInput n g =
      { s with ev := { s.ev with inputs := s.putInput n (g { i with latch := false, armed := true }) } } := by
    rw [State.modInput_modInput, State.modInput_eq hi]
    rfl
  by_cases h : n < 12
  · have hheads : s.clearInput n = { s.modInput n fun i => { i with latch := false, armed := true } with
        heads := { s.heads with table := clearedTable n s.heads.table } } := by
      rw [clearedTable_of_lt h, State.clearInput, if_pos h]
      rfl
    rw [hheads]
    exact congrArg (fun t : State => { t with heads := { s.heads with table := clearedTable n s.heads.table } }) hinput
  · rw [clearedTable_of_le (Nat.not_lt.1 h), State.clearInput, if_neg h, hinput]

end

/-- R164: the level at which a mode is active, as SET_INPUT's text has it. -/
theorem InputMode.activeHigh_iff (m : InputMode) : m.activeHigh = true ↔ m = .levelHigh ∨ m = .rising ∨ m = .both := by
  cases m <;> simp [InputMode.activeHigh]

theorem InputMode.isLevel_iff (m : InputMode) : m.isLevel = true ↔ m = .levelHigh ∨ m = .levelLow := by
  cases m <;> simp [InputMode.isLevel]

section
variable {s : State} {n : Nat} {i j : Input}

theorem State.putInput_get (hi : s.ev.inputs[n]? = some i) (j : Input) : (s.putInput n j)[n]? = some j := by
  have hput := State.modInput_get hi fun _ => j
  rw [State.modInput_eq hi] at hput
  exact hput

theorem State.modInput_put {t : State} (hi : s.ev.inputs[n]? = some i) (ht : t.ev.inputs = s.putInput n j) (g : Input → Input) :
    t.modInput n g = { t with ev := { t.ev with inputs := s.putInput n (g j) } } := by
  have hput (x : Input) : s.putInput n x = updAt n (fun _ => x) s.ev.inputs := (updAt_eq_take_drop (fun _ => x) hi).symm
  have hinputs : updAt n g t.ev.inputs = s.putInput n (g j) := by
    rw [ht, hput, updAt_updAt, hput]
    rfl
  rw [← hinputs]
  rfl

theorem limitCause_of_limit (hlo : 26 ≤ n) (hhi : n ≤ 29) : ∃ c, limitCause n = some c := by
  have : n = 26 ∨ n = 27 ∨ n = 28 ∨ n = 29 := by omega
  obtain rfl | rfl | rfl | rfl := this <;> exact ⟨_, rfl⟩

/-- R163, R133: a level input that is active latches again, as its report and its head have it. -/
theorem State.latchLevel_relatches {t latched : State} (hj : t.ev.inputs[n]? = some j) (hst : j.standing = true)
    (hlatch : j.latch = false)
    (hlatched : (if j.report = true then (t.modInput n fun x => { x with latch := true, armed := false }).latch .input
      (b1 n ++ bFlag j.levelNow) else t.modInput n fun x => { x with latch := true, armed := false }) = latched) :
    t.latchLevel n = if n < 12 then latched.bobbinLatched (n + 1) else latched := by
  rw [State.latchLevel_of_some hj, if_pos ⟨hst, hlatch⟩, State.latchInput, ← hlatched]

theorem State.latchLevel_stays {t : State} (hj : t.ev.inputs[n]? = some j) (hst : ¬j.standing = true) : t.latchLevel n = t := by
  rw [State.latchLevel_of_some hj, if_neg fun h => hst h.1]

/-- R164: the judgement of an input afresh, once the level modes have had their latch. -/
theorem State.judgeAfresh_eq {t u : State} {was on : Bool} (hu : t.latchLevel n = u) (hon : u.inputActive n = on) :
    t.judgeAfresh n was = if on = was then u else u.activeChanged n on := by
  subst hu hon
  rfl

end

/-! ### INPUT_CLEAR (R165) -/

theorem BitVec.or_and_ne_zero {w : Nat} {x bit : BitVec w} (more : BitVec w) (h : x &&& bit ≠ 0) : (x ||| more) &&& bit ≠ 0 := by
  intro hzero
  refine h (BitVec.eq_of_getElem_eq fun i hi => ?_)
  have hbit := congrArg (fun v : BitVec w => v[i]) hzero
  simp only [BitVec.getElem_and, BitVec.getElem_or] at hbit ⊢
  cases hx : x[i]
  · simp
  · simpa [hx] using hbit

theorem updAt_of_none {α : Type} {n : Nat} {l : List α} (h : l[n]? = none) (f : α → α) : updAt n f l = l := by
  refine List.ext_getElem? fun k => ?_
  rw [updAt_getElem?]
  split
  · rename_i hk
    rw [hk, h]
    rfl
  · rfl

/-- R163, R133: what the latch of input `n` makes of the state in which it is set. -/
structure State.Latched (s u : State) (n : Nat) : Prop where
  latches : (s.modInput n fun x => { x with latch := true, armed := false }).Latches u
  shaft : u.shaft = s.shaft
  nc : u.nc = s.nc
  straps : u.straps = s.straps
  table : u.heads.table = bobbinTable n s.heads.table
  marked : ∀ d : Head, n < 12 → s.heads.table[n]? = some d → u.ev.flags &&& Event.bobbinLow.bit ≠ 0
  quiet : s.quiet = true → u.quiet = true

theorem State.bobbinLatched_latched {s : State} {n : Nat} (hn : n < 12) :
    s.Latches (s.bobbinLatched (n + 1)) ∧ (s.bobbinLatched (n + 1)).shaft = s.shaft ∧ (s.bobbinLatched (n + 1)).nc = s.nc ∧
      (s.bobbinLatched (n + 1)).straps = s.straps ∧ (s.bobbinLatched (n + 1)).heads.table = bobbinTable n s.heads.table ∧
      (∀ d : Head, s.heads.table[n]? = some d → (s.bobbinLatched (n + 1)).ev.flags &&& Event.bobbinLow.bit ≠ 0) ∧
      (s.quiet = true → (s.bobbinLatched (n + 1)).quiet = true) := by
  rw [bobbinTable, if_pos hn]
  cases hd : s.heads.table[n]? with
  | none =>
    have hhead : s.heads.head (n + 1) = none := hd
    have hsame : s.bobbinLatched (n + 1) = s := by simp only [State.bobbinLatched, hhead]
    rw [hsame, updAt_of_none hd]
    exact ⟨.refl s, rfl, rfl, rfl, rfl, nofun, id⟩
  | some d =>
    have hmarked : s.Latches (s.bobbinMarked n) := .trans (.of_ev_eq rfl) (.latch _ _ _)
    have hquiet (hq : s.quiet = true) : (s.bobbinMarked n).quiet = true := by
      rw [State.bobbinMarked, State.latch_quiet]
      exact (State.quiet_congr _ s (by rfl) (by rfl) (by rfl) (by rfl) (by rfl)).trans hq
    rw [State.bobbinLatched_eq hd]
    split
    · obtain ⟨hnc, hshaft, -, -, hstraps, hheads, -⟩ := State.plannedStop_keeps (s := s.bobbinMarked n) (r := .bobbinStop) nofun none
      have hstop := State.Latches.plannedStop (s := s.bobbinMarked n) (r := .bobbinStop) nofun none
      rw [hnc, hshaft, hstraps, hheads]
      refine ⟨hmarked.trans hstop, by simp [State.bobbinMarked], by simp [State.bobbinMarked], by simp [State.bobbinMarked],
        by simp [State.bobbinMarked], fun _ _ => State.Latches.latched hstop,
        fun hq => State.plannedStop_quiet (r := .bobbinStop) (hquiet hq) nofun none⟩
    · exact ⟨hmarked, by simp [State.bobbinMarked], by simp [State.bobbinMarked], by simp [State.bobbinMarked],
        by simp [State.bobbinMarked], fun _ _ => State.Latches.latched (.refl _), hquiet⟩

theorem State.latchInput_latched (s : State) (n : Nat) (j : Input) : s.Latched (s.latchInput n j) n := by
  obtain ⟨y, hy⟩ : ∃ y : State, y = s.modInput n fun x => { x with latch := true, armed := false } := ⟨_, rfl⟩
  obtain ⟨x, hx⟩ : ∃ x : State, x = if j.report = true then y.latch .input (b1 n ++ bFlag j.levelNow) else y := ⟨_, rfl⟩
  have hinput : y.Latches x ∧ x.shaft = s.shaft ∧ x.nc = s.nc ∧ x.straps = s.straps ∧ x.heads = s.heads ∧
      (s.quiet = true → x.quiet = true) := by
    have hquiet (hq : s.quiet = true) : y.quiet = true := by
      rw [hy]
      exact (State.quiet_congr _ s (by rfl) (by rfl) (by rfl) (by rfl) (by rfl)).trans hq
    have hkept : y.shaft = s.shaft ∧ y.nc = s.nc ∧ y.straps = s.straps ∧ y.heads = s.heads := by
      rw [hy]
      exact ⟨rfl, rfl, rfl, rfl⟩
    rw [hx]
    split
    · simp only [State.latch_keeps, State.latch_quiet]
      exact ⟨.latch _ _ _, hkept.1, hkept.2.1, hkept.2.2.1, hkept.2.2.2, hquiet⟩
    · exact ⟨.refl _, hkept.1, hkept.2.1, hkept.2.2.1, hkept.2.2.2, hquiet⟩
  obtain ⟨hlatches, hshaft, hnc, hstraps, hheads, hquiet⟩ := hinput
  have hlatch : s.latchInput n j = if n < 12 then x.bobbinLatched (n + 1) else x := by
    rw [State.latchInput, hx, hy]
  rw [hlatch]
  split
  · rename_i hn
    obtain ⟨hl, hsh, hn', hst, htable, hmarks, hq⟩ := State.bobbinLatched_latched (s := x) hn
    refine ⟨?_, hsh.trans hshaft, hn'.trans hnc, hst.trans hstraps, by rw [htable, hheads], fun d _ hd => hmarks d (by rw [hheads]; exact hd),
      hq ∘ hquiet⟩
    rw [← hy]
    exact hlatches.trans hl
  · rename_i hn
    refine ⟨?_, hshaft, hnc, hstraps, by rw [hheads, bobbinTable, if_neg hn], fun _ h => absurd h hn, hquiet⟩
    rw [← hy]
    exact hlatches

/-- R165: an input that is cleared and takes the latch of its level again. -/
def Input.cleared (i : Input) : Input := { i with latch := i.standing, armed := !i.standing }

theorem Input.cleared_standing (i : Input) : i.cleared.standing = i.standing := rfl

/-- R165: what the clear of input `n` leaves, with the latch that its level sets again. -/
structure State.ClearedAt (s u : State) (n : Nat) : Prop where
  ev : ∃ more, u.ev = { s.ev with inputs := updAt n Input.cleared s.ev.inputs, flags := s.ev.flags ||| more }
  shaft : u.shaft = s.shaft
  nc : u.nc = s.nc
  straps : u.straps = s.straps
  table : u.heads.table = if n < 12 then
      updAt n (fun d => { d with bobbinLow := (s.ev.inputs[n]?.map Input.standing).getD false }) s.heads.table
    else s.heads.table
  marked : ∀ (i : Input) (d : Head), n < 12 → s.ev.inputs[n]? = some i → i.standing = true → s.heads.table[n]? = some d →
    u.ev.flags &&& Event.bobbinLow.bit ≠ 0
  quiet : s.quiet = true → u.quiet = true
  silent : (∀ i : Input, s.ev.inputs[n]? = some i → i.standing = false) →
    u = { s with ev := { s.ev with inputs := u.ev.inputs }, heads := { s.heads with table := u.heads.table } }

/-- R165: the cleared state before a level latches again. -/
def State.clearedBare (s : State) (n : Nat) : State := { s with
  ev := { s.ev with inputs := updAt n (fun i => { i with latch := false, armed := true }) s.ev.inputs }
  heads := { s.heads with
    table := if n < 12 then updAt n (fun d => { d with bobbinLow := false }) s.heads.table else s.heads.table } }

theorem State.clearInput_eq_bare (s : State) (n : Nat) : s.clearInput n = s.clearedBare n := by
  unfold State.clearInput State.clearedBare
  by_cases h : n < 12
  · simp only [if_pos h]
    rfl
  · simp only [if_neg h]
    rfl

theorem State.clearedAt (s : State) (n : Nat) : s.ClearedAt ((s.clearInput n).latchLevel n) n := by
  rw [State.clearInput_eq_bare]
  have hbareQuiet (hq : s.quiet = true) : (s.clearedBare n).quiet = true :=
    (State.quiet_congr _ s (by rfl) (by rfl) (by rfl) (by rfl) (by rfl)).trans hq
  cases hi : s.ev.inputs[n]? with
  | none =>
    have hnone : (s.clearedBare n).ev.inputs[n]? = none := by
      show (updAt n _ s.ev.inputs)[n]? = none
      rw [updAt_of_none hi, hi]
    have hsame : (s.clearedBare n).latchLevel n = s.clearedBare n := by simp only [State.latchLevel, hnone]
    rw [hsame]
    refine ⟨⟨0, ?_⟩, rfl, rfl, rfl, by rw [hi]; rfl, ?_, hbareQuiet, fun _ => rfl⟩
    · rw [updAt_of_none hi]
      simp [State.clearedBare, updAt_of_none hi]
    · intro i _ _ h
      rw [hi] at h
      cases h
  | some i =>
    have hget : (s.clearedBare n).ev.inputs[n]? = some { i with latch := false, armed := true } := by
      show (updAt n _ s.ev.inputs)[n]? = _
      rw [updAt_getElem?, if_pos rfl, hi]
      rfl
    by_cases hst : i.standing = true
    · have hlatched : (s.clearedBare n).latchLevel n = (s.clearedBare n).latchInput n { i with latch := false, armed := true } := by
        rw [State.latchLevel_of_some hget, if_pos ⟨hst, rfl⟩]
      rw [hlatched]
      have h := (s.clearedBare n).latchInput_latched n { i with latch := false, armed := true }
      obtain ⟨more, hmore⟩ := h.latches
      refine ⟨⟨more, ?_⟩, h.shaft, h.nc, h.straps, ?_, fun _ d hn _ _ hd => ?_, h.quiet ∘ hbareQuiet, fun hno => ?_⟩
      · have hcleared : updAt n (fun x => { x with latch := true, armed := false })
            (updAt n (fun i : Input => { i with latch := false, armed := true }) s.ev.inputs) = updAt n Input.cleared s.ev.inputs := by
          rw [updAt_updAt, updAt_eq_take_drop _ hi, updAt_eq_take_drop _ hi]
          simp [Input.cleared, hst]
        rw [hmore, ← hcleared]
        rfl
      · rw [h.table, hi, bobbinTable]
        by_cases hn : n < 12
        · simp only [if_pos hn, State.clearedBare, updAt_updAt, Option.map_some, Option.getD_some, hst]
          rfl
        · simp only [if_neg hn, State.clearedBare]
      · refine h.marked { d with bobbinLow := false } hn ?_
        simp only [State.clearedBare, if_pos hn]
        rw [updAt_getElem?, if_pos rfl, hd]
        rfl
      · rw [hno i hi] at hst
        cases hst
    · have hoff : i.standing = false := Bool.eq_false_iff.2 hst
      have hsame : (s.clearedBare n).latchLevel n = s.clearedBare n := State.latchLevel_stays hget hst
      rw [hsame]
      refine ⟨⟨0, ?_⟩, rfl, rfl, rfl, ?_, ?_, hbareQuiet, fun _ => rfl⟩
      · have hcleared : updAt n (fun i : Input => { i with latch := false, armed := true }) s.ev.inputs =
            updAt n Input.cleared s.ev.inputs := by
          rw [updAt_eq_take_drop _ hi, updAt_eq_take_drop _ hi]
          simp [Input.cleared, hoff]
        rw [← hcleared]
        simp [State.clearedBare]
      · simp [State.clearedBare, hi, hoff]
      · intro i' _ _ h hst'
        rw [hi] at h
        cases h
        exact absurd hst' hst

/-- R165, R163: the state once the first `k` inputs have had their turn in an INPUT_CLEAR. -/
structure State.Cleared (s t : State) (mask k : Nat) : Prop where
  inputs : ∀ n : Nat, t.ev.inputs[n]? =
    if n < k ∧ mask.testBit n = true then s.ev.inputs[n]?.map Input.cleared else s.ev.inputs[n]?
  subscribed : t.ev.subscribed = s.ev.subscribed
  shaft : t.shaft = s.shaft
  nc : t.nc = s.nc
  straps : t.straps = s.straps
  heads : ∀ n : Nat, t.heads.table[n]? = s.heads.table[n]?.map fun d =>
    if n < k ∧ n < 12 ∧ mask.testBit n = true then
      { d with bobbinLow := (s.ev.inputs[n]?.map Input.standing).getD false }
    else d
  flags : ∀ (n : Nat) (i : Input) (d : Head), n < k → n < 12 → mask.testBit n = true → s.ev.inputs[n]? = some i →
    i.standing = true → s.heads.table[n]? = some d → t.ev.flags &&& Event.bobbinLow.bit ≠ 0
  quiet : s.quiet = true → t.quiet = true
  silent : (∀ (n : Nat) (i : Input), mask.testBit n = true → s.ev.inputs[n]? = some i → i.standing = false) →
    t = { s with ev := { s.ev with inputs := t.ev.inputs }, heads := { s.heads with table := t.heads.table } }

theorem State.Cleared.refl (s : State) (mask : Nat) : s.Cleared s mask 0 :=
  ⟨fun _ => by simp, rfl, rfl, rfl, rfl, fun _ => by simp, fun _ _ _ h => absurd h (Nat.not_lt_zero _), id, fun _ => rfl⟩

theorem State.Cleared.step {s t : State} {mask k : Nat} (h : s.Cleared t mask k) :
    s.Cleared (State.clearNamed mask t k) mask (k + 1) := by
  have hk : t.ev.inputs[k]? = s.ev.inputs[k]? := by rw [h.inputs, if_neg fun h => Nat.lt_irrefl k h.1]
  by_cases hm : mask.testBit k = true
  · have hnamed : State.clearNamed mask t k = (t.clearInput k).latchLevel k := if_pos hm
    have hone := t.clearedAt k
    have hlt {n : Nat} (hn : n ≠ k) : n < k + 1 ↔ n < k :=
      ⟨fun h => Nat.lt_of_le_of_ne (Nat.lt_succ_iff.1 h) hn, fun h => Nat.lt_succ_of_lt h⟩
    rw [hnamed]
    obtain ⟨more, hev⟩ := hone.ev
    refine ⟨fun n => ?_, by rw [hev]; exact h.subscribed, hone.shaft.trans h.shaft, hone.nc.trans h.nc, hone.straps.trans h.straps,
      fun n => ?_, fun n i d hn hn12 hmn hi hst hd => ?_, hone.quiet ∘ h.quiet, fun hno => ?_⟩
    · rw [hev]
      show (updAt k Input.cleared t.ev.inputs)[n]? = _
      rw [updAt_getElem?]
      by_cases hn : n = k
      · subst hn
        rw [if_pos rfl, hk, if_pos ⟨Nat.lt_succ_self n, hm⟩]
      · rw [if_neg hn, h.inputs]
        exact if_congr (and_congr_left fun _ => (hlt hn).symm) rfl rfl
    · rw [hone.table, hk]
      by_cases hn : n = k
      · subst hn
        by_cases hn12 : n < 12
        · rw [if_pos hn12, updAt_getElem?, if_pos rfl, h.heads, Option.map_map]
          congr 1
          funext d
          rw [if_pos ⟨Nat.lt_succ_self n, hn12, hm⟩, Function.comp, if_neg fun h => Nat.lt_irrefl n h.1]
        · rw [if_neg hn12, h.heads]
          congr 1
          funext d
          rw [if_neg fun h => hn12 h.2.1, if_neg fun h => hn12 h.2.1]
      · have hother : (if k < 12 then updAt k (fun d => { d with
            bobbinLow := (s.ev.inputs[k]?.map Input.standing).getD false }) t.heads.table else t.heads.table)[n]? =
            t.heads.table[n]? := by
          split
          · rw [updAt_getElem?, if_neg hn]
          · rfl
        rw [hother, h.heads]
        congr 1
        funext d
        exact if_congr (and_congr_left fun _ => (hlt hn).symm) rfl rfl
    · by_cases hnk : n = k
      · subst hnk
        obtain ⟨d', hd'⟩ : ∃ d', t.heads.table[n]? = some d' := by
          rw [h.heads, hd]
          exact ⟨_, rfl⟩
        exact hone.marked i d' hn12 (hk.trans hi) hst hd'
      · have hset := h.flags n i d ((hlt hnk).1 hn) hn12 hmn hi hst hd
        rw [hev]
        exact BitVec.or_and_ne_zero more hset
    · have hkept := hone.silent fun i hi => hno k i hm (hk ▸ hi)
      rw [hkept, h.silent hno]
  · have hnamed : State.clearNamed mask t k = t := if_neg hm
    have hlt {n : Nat} (hmn : mask.testBit n = true) : n < k + 1 ↔ n < k := by
      refine ⟨fun hn => Nat.lt_of_le_of_ne (Nat.lt_succ_iff.1 hn) ?_, fun hn => Nat.lt_succ_of_lt hn⟩
      rintro rfl
      exact hm hmn
    rw [hnamed]
    refine ⟨fun n => ?_, h.subscribed, h.shaft, h.nc, h.straps, fun n => ?_,
      fun n i d hn hn12 hmn => h.flags n i d ((hlt hmn).1 hn) hn12 hmn, h.quiet, h.silent⟩
    · rw [h.inputs]
      exact if_congr (and_congr_left fun hmn => (hlt hmn).symm) rfl rfl
    · rw [h.heads]
      congr 1
      funext d
      exact if_congr (and_congr_left fun hmn => (hlt hmn.2).symm) rfl rfl

theorem State.cleared_foldl (s : State) (mask k : Nat) : s.Cleared ((List.range k).foldl (State.clearNamed mask) s) mask k := by
  induction k with
  | zero => exact .refl s mask
  | succ k ih =>
    rw [List.range_succ, List.foldl_append]
    exact ih.step

theorem State.setHeads_latch (s : State) (e : Event) (detail : List Byte) (h : Heads) :
    ({ s with heads := h } : State).latch e detail = { s.latch e detail with heads := h } := by
  simp [State.latch_eq]

/-- R165: the mask of a single input. -/
theorem State.clearNamed_pow (s : State) (n k : Nat) : (List.range k).foldl (State.clearNamed (2 ^ n)) s =
    if n < k then (s.clearInput n).latchLevel n else s := by
  have hone (t : State) (k : Nat) : State.clearNamed (2 ^ n) t k = if n = k then (t.clearInput k).latchLevel k else t := by
    rw [State.clearNamed, maskHas, Nat.testBit_two_pow]
    simp only [decide_eq_true_eq]
  induction k with
  | zero => rfl
  | succ k ih =>
    rw [List.range_succ, List.foldl_append, ih, List.foldl_cons, List.foldl_nil, hone]
    obtain h | rfl | h := Nat.lt_trichotomy n k
    · rw [if_neg (Nat.ne_of_lt h), if_pos h, if_pos (Nat.lt_succ_of_lt h)]
    · rw [if_pos rfl, if_neg (Nat.lt_irrefl n), if_pos (Nat.lt_succ_self n)]
    · rw [if_neg (Nat.ne_of_gt h), if_neg (Nat.lt_asymm h), if_neg (by omega)]

/-- R133, R165: a BOBBIN input whose level latches again marks its head again, as `low` has it. -/
theorem State.clearedBobbin {s low : State} {n : Nat} {i : Input} {d : Head} {inputs : List Input} (hn : n < 12)
    (hi : s.ev.inputs[n]? = some i) (hst : i.standing = true) (hd : s.heads.table[n]? = some d)
    (hinputs : ((s.clearInput n).latchLevel n).ev.inputs = inputs) {base latched : State}
    (hbase : base = { s with ev := { s.ev with inputs := inputs } })
    (hlatched : latched = if i.report = true then base.latch .input (b1 n ++ bFlag i.levelNow) else base)
    (hlow : low = State.latch { latched with
      heads := { s.heads with
        table := (s.heads.table.zipIdx 0).map fun (p : Head × Nat) =>
          if p.2 = n then { p.1 with bobbinLow := true } else p.1 } } .bobbinLow (b1 (n + 1))) :
    (s.clearInput n).latchLevel n =
      if s.thread.bobbinPolicy = .stop ∧ d.enabled = true then low.plannedStop .bobbinStop none else low := by
  obtain ⟨y, hy⟩ : ∃ y : State, y = (s.clearedBare n).modInput n fun x => { x with latch := true, armed := false } := ⟨_, rfl⟩
  obtain ⟨x, hx⟩ : ∃ x : State, x = if i.report = true then y.latch .input (b1 n ++ bFlag i.levelNow) else y := ⟨_, rfl⟩
  have hget : (s.clearedBare n).ev.inputs[n]? = some { i with latch := false, armed := true } := by
    show (updAt n _ s.ev.inputs)[n]? = _
    rw [updAt_getElem?, if_pos rfl, hi]
    rfl
  have hlevel : (s.clearInput n).latchLevel n = x.bobbinLatched (n + 1) := by
    rw [State.clearInput_eq_bare, State.latchLevel_relatches hget hst rfl (latched := x) (by rw [hx, hy]; rfl), if_pos hn]
  have hyinputs : y.ev.inputs = inputs := by
    have hsame := (x.bobbinLatched_keeps n).1
    rw [← hlevel, hinputs] at hsame
    rw [hsame, hx]
    split
    · rw [State.latch_flags]
    · rfl
  have hybase : y = { base with heads := { s.heads with table := updAt n (fun d => { d with bobbinLow := false }) s.heads.table } } := by
    rw [hbase, ← hyinputs, hy]
    simp only [State.modInput, State.modEv, State.clearedBare, if_pos hn]
  have hxlatched : x = { latched with
      heads := { s.heads with table := updAt n (fun d => { d with bobbinLow := false }) s.heads.table } } := by
    rw [hx, hlatched, hybase]
    split
    · exact State.setHeads_latch _ _ _ _
    · rfl
  have hmarked : x.bobbinMarked n = low := by
    have htable : updAt n (fun d => { d with bobbinLow := true })
        (updAt n (fun d : Head => { d with bobbinLow := false }) s.heads.table) =
        (s.heads.table.zipIdx 0).map fun (p : Head × Nat) => if p.2 = n then { p.1 with bobbinLow := true } else p.1 := by
      rw [updAt_updAt, updAt_eq_zipIdx 0]
      rfl
    rw [hlow, ← htable, State.bobbinMarked, hxlatched]
  have hxget : x.heads.table[n]? = some { d with bobbinLow := false } := by
    rw [hxlatched]
    show (updAt n _ s.heads.table)[n]? = _
    rw [updAt_getElem?, if_pos rfl, hd]
    rfl
  have hpolicy : x.thread = s.thread := by
    rw [hx, hy]
    split
    · simp only [State.latch_keeps]
      rfl
    · rfl
  rw [hlevel, State.bobbinLatched_eq hxget, hmarked, hpolicy]

end Sys2Proof.Machine
end

section
/-! PROOF. SET_INPUT and INPUT_CLEAR: the statements (O48). -/

namespace Sys2Proof.Machine

/-- Settles O48. -/
theorem setInputAndInputClear : Obligations.SetInputAndInputClear := by
  refine ⟨fun s input mode filter report hready => ?set, fun s mask hready hlen => ?clear⟩
  case clear =>
    intro still
    have hstill (i : Input) : i.standing = decide (still i) := Bool.eq_iff_iff.2 ((Input.standing_iff i).trans decide_eq_true_iff.symm)
    obtain ⟨t, ht⟩ : ∃ t : State, t = (List.range 32).foldl (State.clearNamed mask) s.takingOn := ⟨_, rfl⟩
    have hcleared : s.takingOn.Cleared t mask 32 := ht ▸ State.cleared_foldl s.takingOn mask 32
    have hquiet : t.quiet = true := hcleared.quiet
      ((State.quiet_congr _ s (by rfl) (by rfl) (by rfl) (by rfl) (by rfl)).trans (State.quiet_of_ready hready))
    have hserve : s.takingOn.serve (.inputClear mask) = okWith t (b4 t.latchMask) := by rw [ht]; rfl
    have hexec : exec (.inputClear mask) s = .next (t.replied 0x87 (0 :: b4 t.latchMask)) :=
      exec_answered hready rfl rfl hserve hquiet
    have hrange {n : Nat} {i : Input} (hi : s.ev.inputs[n]? = some i) : n < 32 := by
      rw [← hlen]
      exact (List.getElem?_eq_some_iff.1 hi).1
    have hinput {n : Nat} {i : Input} (hi : s.ev.inputs[n]? = some i) : t.ev.inputs[n]? = some (
        if mask.testBit n then { i with latch := decide (still i), armed := decide ¬still i } else i) := by
      have hsame : s.takingOn.ev.inputs[n]? = some i := hi
      rw [hcleared.inputs, hsame]
      by_cases hm : mask.testBit n = true
      · rw [if_pos ⟨hrange hi, hm⟩, if_pos hm, Option.map_some, Input.cleared, hstill i, ← decide_not]
      · rw [if_neg fun h => hm h.2, if_neg hm]
    have hlong : t.ev.inputs.length ≤ 32 := by
      rw [← List.getElem?_eq_none_iff, hcleared.inputs, if_neg (by simp)]
      exact List.getElem?_eq_none (Nat.le_of_eq hlen)
    refine ⟨t, t.latchMask, hexec, ?below, fun n i hi => ⟨hinput hi, ?mask⟩, hcleared.subscribed, hcleared.shaft, hcleared.nc,
      hcleared.straps, fun n d hd => ?heads, fun n i d hn hm hi hst hd => hcleared.flags n i d (by omega) hn hm hi ?_ hd,
      fun n i d hn hm hi hst hd => ?single, fun hno => ?silent⟩
    case below =>
      exact (maskOf_lt _).trans_le (Nat.pow_le_pow_right (by decide) (by rw [List.length_map]; exact hlong))
    case mask =>
      rw [State.latchMask, maskOf_testBit, List.getD_eq_getElem?_getD, List.getElem?_map, hinput hi]
      by_cases hm : mask.testBit n = true
      · simp only [if_pos hm, Option.map_some, Option.getD_some]
      · simp only [if_neg hm, Option.map_some, Option.getD_some]
    case heads =>
      have hsame : s.takingOn.heads.table[n]? = some d := hd
      have hlow : ((s.takingOn.ev.inputs[n]?).map Input.standing).getD false =
          decide (∃ i : Input, s.ev.inputs[n]? = some i ∧ still i) := by
        show ((s.ev.inputs[n]?).map Input.standing).getD false = _
        cases hi : s.ev.inputs[n]? with
        | none => simp
        | some i => simp [hstill i]
      rw [hcleared.heads, hsame, Option.map_some, hlow]
      by_cases h : n < 12 ∧ mask.testBit n = true
      · rw [if_pos h, if_pos ⟨by omega, h⟩]
      · rw [if_neg h, if_neg fun h' => h h'.2]
    case single =>
      intro base latched low done
      have honly : (s.takingOn.clearInput n).latchLevel n = t := by
        rw [ht, hm, State.clearNamed_pow, if_pos (by omega)]
      have hstanding : i.standing = true := by rw [hstill i, decide_eq_true hst]
      have hbytes : b1 n ++ bFlag i.levelNow = [BitVec.ofNat 8 n, if i.mode = .levelHigh then 1 else 0] := by
        obtain ⟨hmode, hlevel⟩ | ⟨hmode, hlevel⟩ := hst <;> simp [Input.levelNow, hmode, hlevel] <;> rfl
      have hmarks := State.clearedBobbin (s := s.takingOn) (low := low) (base := base) (latched := latched) hn hi hstanding hd
        (inputs := t.ev.inputs) (by rw [honly]) rfl (by rw [hbytes]) rfl
      rw [honly] at hmarks
      have given {u : State} (hu : t = u) : done u := hu ▸ hexec
      refine ⟨fun h => given (hmarks.trans (if_neg ?_)), fun hstop hen =>
        State.stopsSoon_of_plannedStop (r := .bobbinStop) nofun (given (hmarks.trans (if_pos ⟨hstop, hen⟩)))⟩
      rintro ⟨hp, he⟩
      obtain h | h := h
      · exact BobbinPolicy.noConfusion (h.symm.trans hp)
      · exact Bool.false_ne_true (h.symm.trans he)
    case silent =>
      have htable : t.heads.table = (s.heads.table.zipIdx 0).map fun (p : Head × Nat) =>
          if p.2 < 12 ∧ mask.testBit p.2 then { p.1 with bobbinLow := false } else p.1 := by
        refine List.ext_getElem? fun n => ?_
        rw [hcleared.heads, List.getElem?_map, List.getElem?_zipIdx, Nat.zero_add]
        show (s.heads.table[n]?).map _ = _
        cases s.heads.table[n]? with
        | none => rfl
        | some d =>
          have hoff (hm : mask.testBit n = true) : ((s.takingOn.ev.inputs[n]?).map Input.standing).getD false = false := by
            show ((s.ev.inputs[n]?).map Input.standing).getD false = false
            cases hi : s.ev.inputs[n]? with
            | none => rfl
            | some i => exact (hstill i).trans (decide_eq_false (hno n i hi hm))
          simp only [Option.map_some]
          by_cases h : n < 12 ∧ mask.testBit n = true
          · rw [if_pos h, if_pos ⟨by omega, h⟩, hoff h.2]
          · rw [if_neg h, if_neg fun h' => h h'.2]
      rw [← htable]
      have hsilent := hcleared.silent fun n i hm hi => by
        rw [hstill i]
        exact decide_eq_false (hno n i hi hm)
      have hlink : t.link = s.takingOn.link := by
        rw [hsilent]
      rw [hlink]
      exact hsilent
    rw [hstill i, decide_eq_true hst]
  case set =>
    intro answer
    have hheld : s.resetHeld = false := (State.ready_parts hready).1
    refine ⟨fun hbad => exec_refused (st := .badValue) hready rfl rfl ?_, fun m hin hreport hm => ?_⟩
    · simp only [State.serve, State.serveSetInput]
      obtain h | h | h := hbad
      · cases InputMode.ofCode mode with
        | none => rfl
        | some m =>
          cases flagField report with
          | none => rfl
          | some r => exact if_pos h
      · rw [InputMode.ofCode_of_gt h]
      · rw [flagField_of_gt h]
        cases InputMode.ofCode mode <;> rfl
    subst hm
    have hserve : s.takingOn.serveSetInput input m.code filter report =
        if s.takingOn.inputBusy input then refuse s.takingOn .busy
        else okWith (s.takingOn.setInputNow input m (min 31 filter) (decide (report = 1)))
          (b1 m.code ++ b1 (min 31 filter) ++ bFlag (decide (report = 1))) := by
      simp only [State.serveSetInput, InputMode.ofCode_code, flagField_of_le hreport, if_neg (Nat.not_lt.2 hin), clampNat, Nat.zero_max]
    refine ⟨fun hhigh hmoving => exec_refused (st := .busy) hready rfl rfl (hserve.trans (if_pos ?_)), fun i hfree hi => ?_⟩
    · simp only [State.inputBusy, State.frameMoving, Bool.and_eq_true, Bool.or_eq_true, decide_eq_true_iff]
      exact ⟨hhigh, hmoving⟩
    intro f high active relatches held base latched done homing wakes sews
    have hidle : ¬s.takingOn.inputBusy input = true := by
      simp only [State.inputBusy, State.frameMoving, Bool.and_eq_true, Bool.or_eq_true, decide_eq_true_iff]
      rintro ⟨hhigh, hmoving⟩
      obtain h | ⟨hm, hg⟩ := hfree
      · omega
      · obtain h | h := hmoving
        · simp [hm] at h
        · simp [hg] at h
    rw [if_neg hidle] at hserve
    obtain ⟨j, hj⟩ : ∃ j : Input, j = { i with mode := m, filter := f, report := decide (report = 1), latch := false, armed := true } :=
      ⟨_, rfl⟩
    obtain ⟨base0, hbase0⟩ : ∃ u : State, u = { base with ev := { s.ev with inputs := s.putInput input j } } := ⟨_, rfl⟩
    have hnow : s.takingOn.setInputNow input m f (decide (report = 1)) = base0.judgeAfresh input i.isActive := by
      have hwas : s.takingOn.inputActive input = i.isActive := by
        rw [State.inputActive, show s.takingOn.ev = s.ev from rfl, hi]
        rfl
      have hprepared := State.clearInput_modInput (s := s.takingOn) hi
        fun i => { i with mode := m, filter := f, report := decide (report = 1) }
      rw [State.setInputNow, hwas, hprepared, hbase0, hj]
      rfl
    have hget : base0.ev.inputs[input]? = some j := by
      rw [hbase0]
      exact State.putInput_get hi j
    have hhigh : m.activeHigh = decide high := by rw [Bool.eq_iff_iff, InputMode.activeHigh_iff, decide_eq_true_iff]
    have hon : j.isActive = true ↔ active := by
      rw [hj]
      simp only [Input.isActive, hhigh, beq_iff_eq]
      rfl
    have hstanding : j.standing = true ↔ relatches := by
      rw [Input.standing, Bool.and_eq_true, hon, hj, InputMode.isLevel_iff, and_comm]
    have hbaseOf {x : Input} (hx : x = held) : ({ base with ev := { s.ev with inputs := s.putInput input x } } : State) = base := by
      rw [hx]
      rfl
    have hstays (h : ¬relatches) : base0.latchLevel input = latched := by
      have hunlatched : latched = base := if_neg fun hr => h hr.1
      rw [State.latchLevel_stays hget (mt hstanding.1 h), hunlatched, hbase0]
      refine hbaseOf ?_
      rw [hj]
      dsimp only [held]
      rw [decide_eq_false h, decide_eq_true h]
    have hrelatches (h : relatches) : base0.latchLevel input = if input < 12 then latched.bobbinLatched (input + 1) else latched := by
      refine State.latchLevel_relatches hget (hstanding.2 h) (by rw [hj]) ?_
      have hmarks : base0.modInput input (fun x => { x with latch := true, armed := false }) = base := by
        rw [State.modInput_put hi (t := base0) (j := j) (by rw [hbase0]), hbase0]
        refine hbaseOf ?_
        rw [hj]
        dsimp only [held]
        rw [decide_eq_true h, decide_eq_false (not_not_intro h)]
      have hlevel : j.levelNow = decide high := by
        rw [hj]
        rw [Input.levelNow, show i.level = some (decide high) from h.1]
        rfl
      have hbytes : b1 input ++ bFlag j.levelNow = [BitVec.ofNat 8 input, if high then 1 else 0] := by
        rw [hlevel]
        by_cases hh : high
        · simp only [hh, decide_true, if_true]
          rfl
        · simp only [hh, decide_false, if_false]
          rfl
      rw [hmarks, hbytes]
      dsimp only [latched]
      refine if_congr ?_ rfl rfl
      rw [hj]
      simp [h]
    have hlatchedBase : ∃ flags link, latched = { base with ev := { base.ev with flags := flags }, link := link } := by
      dsimp only [latched]
      split
      · rw [base.latch_eq]
        exact ⟨_, _, rfl⟩
      · exact ⟨base.ev.flags, base.link, rfl⟩
    have hreply : okWith (s.takingOn.setInputNow input m f (decide (report = 1))) (b1 m.code ++ b1 f ++ bFlag (decide (report = 1))) =
        (base0.judgeAfresh input i.isActive, [0, BitVec.ofNat 8 m.code, BitVec.ofNat 8 f, BitVec.ofNat 8 report]) := by
      rw [hnow, bFlag_of_le hreport]
      rfl
    have give {u : State} (hu : base0.judgeAfresh input i.isActive = u) (hquiet : u.quiet = true) : done u := by
      rw [hu] at hreply
      exact exec_answered hready rfl rfl (hserve.trans hreply) hquiet
    have giveSettled {u : State} (hu : base0.judgeAfresh input i.isActive = u) :
        answer = .next (u.replied 0x86 [0, BitVec.ofNat 8 m.code, BitVec.ofNat 8 f, BitVec.ofNat 8 report]).settle := by
      rw [hu] at hreply
      exact exec_settled hready rfl rfl (hserve.trans hreply)
    obtain ⟨flags, link, hlatched⟩ := hlatchedBase
    have hinputs : latched.ev.inputs = base.ev.inputs := by rw [hlatched]
    have hplain (h : ¬relatches ∨ 12 ≤ input) : base0.latchLevel input = latched := by
      by_cases hr : relatches
      · rw [hrelatches hr, if_neg (Nat.not_lt.2 (h.resolve_left (not_not_intro hr)))]
      · exact hstays hr
    have judged {u : State} (hu : base0.latchLevel input = u) (hin : u.ev.inputs = latched.ev.inputs) :
        base0.judgeAfresh input i.isActive = if j.isActive = i.isActive then u else u.activeChanged input j.isActive := by
      refine State.judgeAfresh_eq hu ?_
      have hheldGet : base.ev.inputs[input]? = some held := State.putInput_get hi held
      rw [State.inputActive, hin, hinputs, hheldGet, hj]
      rfl
    have hsame (h : i.isActive = true ↔ active) : j.isActive = i.isActive := Bool.eq_iff_iff.2 (hon.trans h.symm)
    have hdiff (h : ¬(i.isActive = true ↔ active)) : ¬j.isActive = i.isActive := fun he => h (by rw [← he, hon])
    have calm (heads : Heads) : ({ latched with heads := heads } : State).quiet = true := by
      rw [hlatched]
      exact (State.quiet_congr _ s (by rfl) (by rfl) (by rfl) (by rfl) (by rfl)).trans (State.quiet_of_ready hready)
    have hbaseUnlatched (h : ¬relatches) : latched = base := if_neg fun hr => h hr.1
    have hlframe : latched.frame = s.frame := by rw [hlatched]
    have hlplayer : latched.player = s.player := by rw [hlatched]
    have hlheads : latched.heads = { s.heads with table := clearedTable input s.heads.table } := by rw [hlatched]; rfl
    have hstill (h : ¬homing) : latched.homeInput = latched := State.homeInput_of_not (by rw [hlframe]; exact h)
    have hbobbin {u : State} (hr : relatches) (hlo : input < 12) (hhome : ¬homing) (hu : latched.bobbinLatched (input + 1) = u) :
        base0.judgeAfresh input i.isActive = u := by
      obtain ⟨hin, hmove⟩ := latched.bobbinLatched_keeps input
      rw [hu] at hin hmove
      rw [judged ((hrelatches hr).trans ((if_pos hlo).trans hu)) hin, State.activeChanged_of_bobbin hlo,
        State.homeInput_of_not (by rw [hmove, hlframe]; exact hhome), ite_self]
    refine ⟨fun h => ⟨fun hno => give ?_ ?_, fun hr hhi => give ?_ (calm latched.heads)⟩, fun hr hlo hhome => ⟨fun hshort => give ?_ (calm latched.heads),
      fun d hd => ?_⟩, fun hchange hhome => ?_⟩
    · rw [judged (hplain (Or.inl hno)) rfl, if_pos (hsame h), hbaseUnlatched hno]
    · rw [← hbaseUnlatched hno]
      exact calm latched.heads
    · rw [judged (hplain (Or.inr hhi)) rfl, if_pos (hsame h)]
    · have hnone : latched.heads.head (input + 1) = none := by
        rw [hlheads, clearedTable_of_lt hlo]
        show (updAt input _ s.heads.table)[input]? = none
        rw [updAt_getElem?, if_pos rfl, List.getElem?_eq_none hshort]
        rfl
      refine hbobbin hr hlo hhome ?_
      simp only [State.bobbinLatched, hnone]
    · intro low
      have hget : latched.heads.table[input]? = some { d with bobbinLow := false } := by
        rw [hlheads, clearedTable_of_lt hlo]
        show (updAt input _ s.heads.table)[input]? = _
        rw [updAt_getElem?, if_pos rfl, hd]
        rfl
      have hlow : latched.bobbinMarked input = low := by
        have htable : updAt input (fun d => { d with bobbinLow := true })
            (updAt input (fun d : Head => { d with bobbinLow := false }) s.heads.table) =
            (s.heads.table.zipIdx 0).map fun (p : Head × Nat) => if p.2 = input then { p.1 with bobbinLow := true } else p.1 := by
          rw [updAt_updAt, updAt_eq_zipIdx 0]
          rfl
        rw [State.bobbinMarked, hlheads, clearedTable_of_lt hlo]
        dsimp only
        rw [htable]
        rfl
      have hmarked := State.bobbinLatched_eq hget
      rw [hlow, show latched.thread = s.thread by rw [hlatched]] at hmarked
      have hlowquiet : low.quiet = true := by
        rw [← hlow, State.bobbinMarked, State.latch_quiet]
        exact calm _
      refine ⟨fun h => give (hbobbin hr hlo hhome (hmarked.trans (if_neg ?_))) hlowquiet, fun hstop hen =>
        State.stopsSoon_of_plannedStop (r := .bobbinStop) nofun (give (hbobbin hr hlo hhome (hmarked.trans (if_pos ⟨hstop, hen⟩)))
          (State.plannedStop_quiet (r := .bobbinStop) hlowquiet nofun none))⟩
      rintro ⟨hp, he⟩
      obtain h | h := h
      · exact BobbinPolicy.noConfusion (h.symm.trans hp)
      · exact Bool.false_ne_true (h.symm.trans he)
    have changed (h : ¬relatches ∨ 12 ≤ input) : base0.judgeAfresh input i.isActive = latched.activeChanged input j.isActive := by
      rw [judged (hplain h) rfl, if_neg (hdiff hchange)]
    have hactive : j.isActive = decide active := Bool.eq_iff_iff.2 (hon.trans decide_eq_true_iff.symm)
    have hlheads' (h : 12 ≤ input) : latched.heads = s.heads := by rw [hlheads, clearedTable_of_le h]
    have hlheld : latched.resetHeld = false := by rw [hlatched]; exact hheld
    have hlwakes : latched.Wakes ↔ wakes := by
      rw [State.Wakes, hlatched]
    have pressed {u : State} (h24 : input = 24) (hact : active) (hu : latched.startPress = u) :
        base0.judgeAfresh input i.isActive = u := by
      rw [changed (Or.inr (by omega)), hon.2 hact]
      subst h24
      rw [State.activeChanged_start, hstill hhome, hu]
    refine ⟨fun hlo hno => ?bobbin, fun hlo hhi => ?switch, fun hlo hplain => ?plain, fun h24 hact harmed hpaused => ?ignored,
      fun h24 hact harmed hw hcase => ?starts, fun h24 hact hstart hresume => ?refused, fun r h24 hact hst hw hs => ?resumes,
      fun h25 hact => ?stops, fun hlo hhi hact he hk => ?limit⟩
    case bobbin =>
      rw [← hbaseUnlatched hno]
      refine give ?_ (calm latched.heads)
      rw [changed (Or.inl hno), State.activeChanged_of_bobbin hlo, hstill hhome]
    case switch =>
      refine give ?_ (calm _)
      rw [changed (Or.inr hlo), State.activeChanged_of_switch hlo hhi, State.homeInput_of_not (by dsimp only; rw [hlframe]; exact hhome),
        hlheads' hlo, updAt_eq_zipIdx 12, Nat.sub_add_cancel hlo, ← hactive]
    case plain =>
      refine give ?_ (calm latched.heads)
      rw [changed (Or.inr (by omega))]
      obtain hinactive | h30 := hplain
      · have hoff : j.isActive = false := Bool.eq_false_iff.2 (mt hon.1 hinactive)
        rw [hoff, State.activeChanged, State.followSwitch_of_not (Or.inr hlo), hstill hhome]
        rfl
      · rw [State.activeChanged_of_home h30, hstill hhome]
    case ignored =>
      refine give (pressed h24 hact (State.startPress_ignored hlheld ?_ ?_)) (calm latched.heads)
      · rw [hlplayer]
        exact fun h => harmed h.1
      · rw [hlplayer]
        exact fun ⟨⟨r, hr⟩, _⟩ => hpaused r hr
    case starts =>
      refine giveSettled (pressed h24 hact ?_)
      rw [State.startPress_starts hlheld (by rw [hlplayer]; exact harmed) (hlwakes.2 hw) (by rw [hlatched]; exact hcase), hlplayer, hlframe,
        show latched.outs = s.outs by rw [hlatched]]
      rfl
    case refused =>
      refine give (pressed h24 hact (State.startPress_ignored hlheld ?_ ?_)) (calm latched.heads)
      · rw [hlplayer, hlwakes, show latched.nc = s.nc by rw [hlatched]]
        exact hstart
      · rw [hlplayer, hlwakes, hlheads' (by omega)]
        exact hresume
    case resumes =>
      refine giveSettled (pressed h24 hact ?_)
      rw [State.startPress_resumes hlheld (by rw [hlplayer]; exact hst) (hlwakes.2 hw) (by rw [hlplayer, hlheads' (by omega)]; exact hs),
        hlplayer, hlframe, hlheads' (by omega), show latched.outs = s.outs by rw [hlatched]]
      rfl
    case stops =>
      refine State.stopsSoon_of_plannedStop (r := .buttonStop) nofun (give ?_
        (State.plannedStop_quiet (r := .buttonStop) (calm latched.heads) nofun none))
      subst h25
      rw [changed (Or.inr (by omega)), hon.2 hact, State.activeChanged_stop, hstill hhome]
    case limit =>
      have hmove : s.frame.move = none := (hfree.resolve_left (by omega)).1
      obtain ⟨c, hc⟩ := limitCause_of_limit hlo hhi
      have hfaults : latched.activeChanged input j.isActive = latched.axisFault c := by
        rw [hon.2 hact, State.activeChanged, State.followSwitch_of_not (by omega), hstill hhome]
        simp only [if_true, State.becameActive, hc]
      have hfault := latched.axisFault_axisFaulted c
      refine ⟨_, give ((changed (Or.inr (by omega))).trans hfaults)
        (State.axisFault_quiet c (Or.inl ⟨by rw [hlplayer]; exact he, by rw [hlatched]; exact hk⟩)), hfault.known, hfault.latched,
        hfault.x.trans (by rw [hlframe]), hfault.y.trans (by rw [hlframe]), rfl, fun howner hrun => ?_⟩
      have hclaimed : latched.frame.claimed = true := (Frame.claimed_iff _).2 (Or.inl (by rw [hlframe]; exact howner))
      have hhalted := hfault.halts hclaimed (by rw [hlplayer, hrun]; nofun) (by rw [hlplayer, hrun]; nofun)
      exact congrArg Player.state hhalted

end Sys2Proof.Machine
end

section
/-! PROOF. The encoder counts: a sewing move that ends lets a waiting lead-in begin (O56). -/

namespace Sys2Proof.Machine

/-- The sewing move of a STITCH with one step left, due at any offset from 16 on. -/
def oneStepLeft : SewMove where
  index := 0
  kind := .stitch
  nx := 1
  ny := 0
  xNeg := false
  yNeg := false
  ex := 0
  ey := 0
  window := 16
  slice := 1
  profile := []
  waitX := 0
  waitY := 0
  overrun := false

/-- A turning shaft whose sewing move has one step left, with a lead-in that waits for the frame to be free. -/
def leadAwaitsSewing : State :=
  { State.reset with
    shaft := { State.reset.shaft with state := .turning, angle := 899 }
    player := { State.reset.player with errand := .leadWait }
    gov := { State.reset.gov with move := some oneStepLeft }
    frame := { State.reset.frame with owner := .player, lent := false, x := 40 } }

/-- The errand of the player in the state that an outcome leads to. -/
def errandAfter : Next → Errand
  | .next t => t.player.errand
  | .fault _ => .none
  | .refused _ => .none

/-- The count that brings the last step out leaves nothing in motion, so the lead-in begins at once. -/
theorem leadAwaitsSewing_begins : errandAfter (exec (.encoderCount true 100) leadAwaitsSewing) = .leadMove := rfl

/-- Refutes O56: at a forward count that ends a sewing move the statement leaves the player as it was, without a premise on
its chain. In `leadAwaitsSewing` a lead-in waits for the frame, and it begins with that count. -/
theorem not_angleFollowsTheEncoder : ¬ Obligations.AngleFollowsTheEncoder := by
  intro h
  obtain ⟨-, -, -, hsews, -⟩ := h
  obtain ⟨hscheduled, -⟩ := hsews leadAwaitsSewing 100 oneStepLeft rfl rfl rfl rfl rfl rfl rfl nofun (by decide)
  obtain ⟨ex, ey, waitX, waitY, -, -, -, -, hexec⟩ := hscheduled (by decide)
  have herrand := leadAwaitsSewing_begins
  rw [hexec] at herrand
  exact Errand.noConfusion herrand

end Sys2Proof.Machine
end

section
/-! PROOF. The revolution boundary in its parts: the end of the revolution before, the heads of a pass, the handover
(R30, R79, R142, R148, R150, R151); what O59 and O60 rest on. -/

namespace Sys2Proof.Machine

/-! ### The end of the revolution before (R79, R82, R128) -/

section
variable (s : State)

/-- R79: a TRIM revolution is in progress. -/
def State.trims : Bool := s.revolution == some .trim

theorem State.trims_iff : s.trims = true ↔ ∃ a : ActiveRecord, s.player.active = some a ∧ a.kind = .trim := by
  simp [State.trims, State.revolution]

/-- R142: the last completed kind once the revolution in progress has ended at a boundary. -/
def State.endedKind : Option RecKind :=
  match s.player.active with
  | some a => some a.kind
  | none => s.heads.lastKind

/-- R82: the outputs once the revolution in progress has ended at a boundary. -/
def State.endedOuts : Outputs :=
  { s.outs with
    holderCount := if s.trims then 2 else s.outs.holderCount
    holderArmed := s.outs.holderArmed && s.player.active.isNone }

/-- R128: the thread monitor once the revolution in progress has ended. -/
def State.endedThread : Thread :=
  if s.player.active.isSome then
    { (if s.trims then s.thread.setTieIn s.engaged ((s.thread.rev.map fun r => r.profile.f).getD 0) else s.thread) with
      rev := none, feedOpen := false }
  else s.thread

theorem State.endRevolution_true : s.endRevolution true = { s with
    player := { s.player with active := none }
    heads := { s.heads with lastKind := s.endedKind }
    outs := s.endedOuts
    thread := s.endedThread } := by
  unfold State.endRevolution State.endedOuts State.endedThread State.endedKind State.trims State.revolution
  cases ha : s.player.active with
  | none =>
    have hplayer : ({ s.player with active := none } : Player) = s.player := by rw [← ha]
    simp [hplayer]
  | some a =>
    by_cases hk : a.kind = .trim
    · simp [hk, State.modPlayer, State.modHeads, State.modThread, State.modOuts, Outputs.oweHolder]
    · simp [hk, State.modPlayer, State.modHeads, State.modThread, State.modOuts]

theorem State.endedThread_rest : s.endedThread = { s.thread with
    monitors := s.endedThread.monitors, rev := s.endedThread.rev, feedOpen := s.endedThread.feedOpen } := by
  unfold State.endedThread Thread.setTieIn
  split
  · split <;> rfl
  · rfl

/-- R128: the monitor of a head once the revolution in progress has ended: a TRIM sets its tie-in countdown if it sewed. -/
theorem State.endedThread_monitor {i : Nat} {n : HeadMonitor} (hn : s.thread.monitors[i]? = some n) :
    s.endedThread.monitors[i]? = some { n with
      tieIn := if s.trims = true ∧ s.engaged (i + 1) = true then (s.thread.rev.map fun r => r.profile.f).getD 0 else n.tieIn } := by
  unfold State.endedThread
  cases ha : s.player.active with
  | none =>
    have htrims : s.trims = false := by simp [State.trims, State.revolution, ha]
    simpa [htrims] using hn
  | some a =>
    cases htrims : s.trims with
    | false => simpa using hn
    | true =>
      simp only [Option.isSome_some, if_true, Thread.setTieIn, mapFrom_getElem?, hn, Nat.add_comm 1 i]
      cases s.engaged (i + 1) <;> simp

end

/-! ### The boundary that a forward count reaches (R65, R70) -/

section
variable {s : State} {elapsed : Nat}

/-- R65: the state with a forward count taken by the angle. -/
def State.counted (s : State) : State := s.modShaft fun h => h.counted true

theorem exec_boundary (hheld : s.resetHeld = false) (hst : s.shaft.state = .turning)
    (hangle : (s.shaft.angle + 1) % 1024 = s.gov.active.motion.wOpen) :
    exec (.encoderCount true elapsed) s = .next s.counted.boundary.settle := by
  have hcount : s.count true elapsed = s.counted.boundary := by
    have hturn : s.count true elapsed = s.counted.turningCount elapsed := by
      simp only [State.count, hst]
      rfl
    rw [hturn]
    exact if_pos hangle
  rw [exec_encoderCount hheld, hcount]

theorem State.positionRequest_of_turning (h : s.shaft.state = .turning) : s.positionRequest = s.enterPositioning := by
  simp only [State.positionRequest, h]

theorem Player.holdsBack_nil {p : Player} (h : p.queue = []) : p.holdsBack = true := by
  simp only [Player.holdsBack, h]

/-- R30: what is held back at a boundary: a STOP, an END, and a record that the stop index excludes. -/
theorem Player.holdsBack_cons {p : Player} {e : QueueEntry} {rest : List QueueEntry} (h : p.queue = e :: rest) :
    p.holdsBack = true ↔ e.kind = .stop ∨ e.kind = .endRec ∨ ∃ i : Nat, p.stopIndex = some i ∧ i ≤ e.index := by
  simp only [Player.holdsBack, h, QueueEntry.stops, Bool.or_eq_true, beq_iff_eq, or_assoc]
  cases p.stopIndex <;> simp

/-- R30: a boundary in RUNNING or STOPPING. -/
theorem State.boundary_of_sewing (hsews : s.player.state = .running ∨ s.player.state = .stopping)
    (htrim : s.player.entryTrim = .none) : s.boundary = s.playerBoundary := by
  obtain h | h := hsews <;> simp only [State.boundary, htrim, h]

theorem State.playerBoundary_holdsBack (h : s.player.holdsBack = true) :
    s.playerBoundary = (s.endRevolution true).noHandover := by
  have hback : (s.endRevolution true).player.holdsBack = true := by
    rw [State.endRevolution_true]
    exact h
  rw [State.playerBoundary]
  simp only [hback, if_true]
  split
  · rfl
  · rfl

theorem State.playerBoundary_handover {e : QueueEntry} {rest : List QueueEntry} (hq : s.player.queue = e :: rest)
    (h : ¬s.player.holdsBack = true) : s.playerBoundary = (s.endRevolution true).handover e := by
  have hqueue : (s.endRevolution true).player.queue = e :: rest := by
    rw [State.endRevolution_true]
    exact hq
  have hback : ¬(s.endRevolution true).player.holdsBack = true := by
    rw [State.endRevolution_true]
    exact h
  rw [State.playerBoundary]
  simp only [hqueue, if_neg hback]

end

/-! ### The heads of a pass at a handover (R150, R151, R154) -/

section
variable {s : State}

/-- R151: the ACTIVE heads that may not sew. -/
def State.unfitHeads (s : State) : List Nat := headNumbers (fun h => h.role == .active && !(h.enabled && h.switch)) 1 s.heads.table

theorem State.mem_unfitHeads (s : State) (i : Nat) : i + 1 ∈ s.unfitHeads ↔
    ∃ d : Head, s.heads.table[i]? = some d ∧ d.role = .active ∧ ¬(d.enabled = true ∧ d.switch = true) := by
  have hpick (d : Head) : (d.role == .active && !(d.enabled && d.switch)) = true ↔
      d.role = .active ∧ ¬(d.enabled = true ∧ d.switch = true) := by
    cases d.enabled <;> cases d.switch <;> simp
  rw [State.unfitHeads, mem_headNumbers]
  constructor
  · rintro ⟨k, d, hd, hp, hk⟩
    obtain rfl : i = k := by omega
    exact ⟨d, hd, (hpick d).1 hp⟩
  · rintro ⟨d, hd, hp⟩
    exact ⟨i, d, hd, (hpick d).2 hp, by omega⟩

theorem State.passHeads_of_normal (hmode : s.player.mode = .normal) (index block : Nat) : s.passHeads index block = s := by
  simp only [State.passHeads, hmode]

/-- R151: the ACTIVE heads that may not sew break at the record handed over. -/
theorem State.dropHeads_broken (s : State) (index block : Nat) :
    s.HeadsBroken index block (s.dropHeads index block) s.unfitHeads := by
  refine State.HeadsBroken.foldl (done := []) (.refl s index block) (fun h hmem => ?_) (headNumbers_nodup _ _ _)
  obtain ⟨i, d, -, -, rfl⟩ := mem_headNumbers.1 hmem
  exact Nat.le_add_right 1 i

/-- R150, R151, R154: the heads of a REPAIR pass at a handover, and the stop that an emptied pass asks for. -/
theorem State.passHeads_of_repair (hmode : s.player.mode = .repair)
    (hsews : s.player.state = .running ∨ s.player.state = .stopping) (index block : Nat) : ∃ u : State,
    (s.joinHeads index).HeadsBroken index block u (s.joinHeads index).unfitHeads ∧
    s.passHeads index block =
      if s.heads.inPass = true ∧ u.heads.inPass = false then { u with player := u.player.stopAsked .passEmpty } else u := by
  have hbroken := (s.joinHeads index).dropHeads_broken index block
  refine ⟨_, hbroken, ?_⟩
  obtain ⟨table, repairs, monitors, hrest⟩ := hbroken.rest
  have hplayer : ((s.joinHeads index).dropHeads index block).player = s.player := by
    rw [hrest]
    rfl
  simp only [State.passHeads, hmode, Bool.and_eq_true, Bool.not_eq_true']
  rw [State.plannedStop_soon (r := .passEmpty) nofun (by rw [hplayer]; exact hsews)]

/-- R154: what the heads of a pass can change at a handover: heads, records, monitors, and the stop that is asked for. -/
def State.passTaken (s : State) (table : List Head) (repairs : List RepairRecord) (monitors : List HeadMonitor)
    (stop : PlayerState × Option StopReason × Bool) : State :=
  { s with
    heads := { s.heads with table := table, repairs := repairs }
    thread := { s.thread with monitors := monitors }
    player := { s.player with state := stop.1, stopReason := stop.2.1, soonStop := stop.2.2 } }

theorem State.passHeads_taken (hsews : s.player.state = .running ∨ s.player.state = .stopping) (index block : Nat) :
    ∃ table repairs monitors stop, s.passHeads index block = s.passTaken table repairs monitors stop := by
  cases hmode : s.player.mode with
  | normal =>
    exact ⟨s.heads.table, s.heads.repairs, s.thread.monitors, ⟨s.player.state, s.player.stopReason, s.player.soonStop⟩,
      State.passHeads_of_normal hmode index block⟩
  | repair =>
    obtain ⟨u, hu, hpass⟩ := State.passHeads_of_repair hmode hsews index block
    obtain ⟨table, repairs, monitors, rfl⟩ := hu.rest
    rw [hpass]
    split
    · exact ⟨table, repairs, monitors, ⟨.stopping, some (s.player.stopReason.getD .passEmpty), true⟩, rfl⟩
    · exact ⟨table, repairs, monitors, ⟨s.player.state, s.player.stopReason, s.player.soonStop⟩, rfl⟩

/-! ### The handover (R30, R56 to R59, R82, R122, R142) -/

/-- R58: the speed commanded at the handover of a record. -/
def State.handedSpeed (s : State) (p : Player) : Nat :=
  commandedSpeed s.gov.active.motion s.shaft.runUp s.gov.sCmd s.gov.cPrev (speedBound s.gov.active.motion p.queue p.stopIndex)

/-- R30, R56 to R59: the player, the governor and the shaft unit at the handover of a record. -/
def State.handed (s : State) (e : QueueEntry) : State :=
  let p := s.player.takeStopPosition s.gov.active.motion s.shaft.runUp s.gov.cPrev e
  { s with
    player := p.handOver e
    gov := { s.gov with cPrev := s.handedSpeed p, move := beginMove s.gov.active e }
    shaft := { s.shaft.setDemand s.gov.active.motion.sStop (s.handedSpeed p) with runUp := false } }

/-- R142, R122, R128, R82: the heads, the monitor and the holder at the handover of a record. -/
def State.sewing (s : State) (kind : RecKind) (index : Nat) (dx dy : Int) (before : Nat → Bool) : State :=
  (s.engage.handMonitor kind index dx dy before).armHolder kind

theorem State.handover_eq (s : State) (e : QueueEntry) : s.handover e =
    (((s.handed e).passHeads e.index e.block).sewing e.kind e.index e.dx e.dy s.engaged).prefetch := rfl

/-- R142: the heads that may sew are engaged. -/
def State.engagedTable (s : State) : List Head := s.heads.table.map fun h => { h with engaged := h.eligible s.player.mode }

theorem State.sewing_eq (s : State) (kind : RecKind) (index : Nat) (dx dy : Int) (before : Nat → Bool) :
    s.sewing kind index dx dy before = { s with
      heads := { s.heads with table := s.engagedTable }
      thread := { s.thread.setTieIn (fun h => s.engage.engaged h && !before h) (s.thread.profileAt s.nc.pos).f with
        rev := some ⟨kind, index, dx, dy, s.thread.profileAt s.nc.pos, s.nc.pos⟩, feedOpen := false }
      outs := if kind = .stitch ∧ s.engagedTable.any Head.engaged = true ∧ 0 < s.outs.holderCount then
          { s.outs with holderArmed := true, holderCount := s.outs.holderCount - 1 } else s.outs } := by
  unfold State.sewing State.armHolder
  split
  · rename_i h
    rw [if_pos (by exact h)]
    rfl
  · rename_i h
    rw [if_neg (by exact h)]
    rfl

/-- R28: the prefetcher only appends. -/
theorem State.prefetch_appends (s : State) (hworks : s.player.state.prefetches = true) :
    ∃ more : List QueueEntry, s.prefetch = s.queueMore more := by
  by_cases hidle : 32 ≤ s.player.queue.length ∨ endsInEnd s.player.queue
  · exact ⟨[], (State.prefetch_of_idle (Or.inr hidle)).trans s.queueMore_nil.symm⟩
  · rw [not_or, Nat.not_le] at hidle
    obtain ⟨more, hmore, -⟩ := State.prefetch_prefetched s hworks hidle.1.le hidle.2
    exact ⟨more, hmore⟩

end

end Sys2Proof.Machine
end

section
/-! PROOF. A boundary releases the needle bars only of heads that may sew (O60). -/

namespace Sys2Proof.Machine

section
variable {s : State}

/-- R79, R80: no needle bar can be released: no head is engaged, and every HOLD output is in AUTO. -/
structure State.BarsHeld (s : State) : Prop where
  engaged : ∀ d ∈ s.heads.table, d.engaged = false
  auto : ∀ o ∈ s.outs.hold, o.mode = .auto

/-- R80: in AUTO a bar is released in a STITCH or TRIM revolution that engages its head. -/
theorem State.released_auto (hauto : ∀ o ∈ s.outs.hold, o.mode = .auto) {h : Nat} (hr : s.released h = true) :
    (∃ a : ActiveRecord, s.player.active = some a ∧ (a.kind = .stitch ∨ a.kind = .trim)) ∧
      ∃ d : Head, s.heads.table[h - 1]? = some d ∧ d.engaged = true := by
  rw [State.released, beq_iff_eq, State.holdValue] at hr
  cases ho : s.outs.hold[h - 1]? with
  | none => simp [ho] at hr
  | some o =>
    have hmode := hauto o (List.mem_of_getElem? ho)
    cases hkill : s.killEffect with
    | true => simp [ho, hkill, outputValue] at hr
    | false =>
      have hhold : s.autoHold h = false := by simpa [ho, hkill, outputValue, hmode] using hr
      rw [State.autoHold, Bool.not_eq_false', Bool.and_eq_true, State.revolution, State.engaged] at hhold
      obtain ⟨hkind, hengaged⟩ := hhold
      refine ⟨?_, ?_⟩
      · cases ha : s.player.active with
        | none => simp [ha] at hkind
        | some a => exact ⟨a, rfl, by simpa [ha] using hkind⟩
      · cases hd : s.heads.table[h - 1]? with
        | none => simp [hd] at hengaged
        | some d => exact ⟨d, rfl, by simpa [hd] using hengaged⟩

theorem State.BarsHeld.not_released (hb : s.BarsHeld) {h : Nat} (hr : s.released h = true) : False := by
  obtain ⟨-, d, hd, he⟩ := State.released_auto hb.auto hr
  rw [hb.engaged d (List.mem_of_getElem? hd)] at he
  cases he

theorem State.BarsHeld.congr {t : State} (hb : s.BarsHeld) (hh : t.heads = s.heads) (ho : t.outs.hold = s.outs.hold) : t.BarsHeld :=
  ⟨by rw [hh]; exact hb.engaged, by rw [ho]; exact hb.auto⟩

/-- R41, R42: a report of a fault engages no head and changes no mode. -/
theorem State.BarsHeld.reportFault (hb : s.BarsHeld) (c : HaltCause) : (s.reportFault c).BarsHeld := by
  refine ⟨?_, by rw [State.reportFault_hold]; exact hb.auto⟩
  obtain h | ⟨k, h⟩ | ⟨hi, hh⟩ := s.player.state.idle_or_halted_or
  · rw [State.reportFault_of_idle c h]
    simpa using hb.engaged
  · have hheads : (s.haltAgain k c).heads = s.heads := by simp
    rw [State.reportFault_of_halted c h, hheads]
    exact hb.engaged
  · rw [State.reportFault_enters hi hh]
    exact s.enterHalted_disengaged c

theorem State.BarsHeld.enterOff (hb : s.BarsHeld) : s.enterOff.BarsHeld := by
  refine hb.congr (by simp) ?_
  unfold State.enterOff
  simp only [State.modOuts_outs, Outputs.clearKill]
  split <;> rfl

theorem State.BarsHeld.shaftFault (hb : s.BarsHeld) (c : ShaftCause) : (s.shaftFault c).BarsHeld := by
  have hstruck : (s.struck c).BarsHeld := hb.congr (by simp [State.struck]) (by simp [State.struck])
  rw [State.shaftFault_eq]
  split
  · exact (hstruck.reportFault .shaft).enterOff
  · exact hstruck.reportFault .shaft

/-- R71, R84: an entry to POSITIONING engages no head; every output returns to AUTO. -/
theorem State.BarsHeld.enterPositioning (hb : s.BarsHeld) : s.enterPositioning.BarsHeld := by
  have hauto (t : State) (hheads : t.heads = s.heads) (houts : t.outs = s.outs) :
      ((t.modOuts Outputs.allAuto).slowPositioner .shaft).BarsHeld := by
    refine ⟨by simpa [hheads] using hb.engaged, ?_⟩
    simp [houts, Outputs.allAuto]
  unfold State.enterPositioning
  simp only []
  generalize hu : (if s.shaft.state = .held then _ else _ : State) = u
  have hbars : ((u.modOuts Outputs.allAuto).slowPositioner .shaft).BarsHeld := by
    subst hu
    split
    · exact hauto _ rfl rfl
    · exact hauto _ rfl rfl
  split
  · exact hbars
  · exact hbars.shaftFault .drive

/-- R71: nothing waits for an entry to POSITIONING when no operation of the player does. -/
theorem State.enterPositioning_quiet (he : s.player.errand = .none) : s.enterPositioning.quiet = true := by
  unfold State.enterPositioning
  simp only []
  generalize hu : (if s.shaft.state = .held then _ else _ : State) = u
  have hparts : u.player = s.player ∧ u.shaft.state = .positioning := by
    subst hu
    split <;> exact ⟨rfl, rfl⟩
  obtain ⟨hplayer, hshaft⟩ := hparts
  split
  · exact State.quiet_of_not_held (by simp [hshaft]) (by simp [hplayer, he])
  · exact State.shaftFault_quiet .drive (Or.inl (by simp [hplayer, he]))

/-- R30, R142: where nothing is handed over no bar is released. -/
theorem State.BarsHeld.of_disengage {f : Player → Player} (hst : s.shaft.state = .turning)
    (hauto : ∀ o ∈ s.outs.hold, o.mode = .auto) :
    (((s.endRevolution true).modPlayer f).disengage.positionRequest).BarsHeld := by
  have hturn : ((s.endRevolution true).modPlayer f).disengage.shaft.state = .turning := by simp [hst]
  rw [State.positionRequest_of_turning hturn]
  refine State.BarsHeld.enterPositioning ⟨?_, ?_⟩
  · simp [State.disengage, Heads.disengage]
  · simpa [State.endRevolution_hold] using hauto

theorem State.positionRequest_quiet {f : Player → Player} (hst : s.shaft.state = .turning)
    (he : ((s.endRevolution true).modPlayer f).player.errand = .none) :
    (((s.endRevolution true).modPlayer f).disengage.positionRequest).quiet = true := by
  have hturn : ((s.endRevolution true).modPlayer f).disengage.shaft.state = .turning := by simp [hst]
  rw [State.positionRequest_of_turning hturn]
  exact State.enterPositioning_quiet (by simpa using he)

/-! ### Heads that may sew (R80, R141) -/

/-- R80: the head may sew, by its condition in a REPAIR pass too. -/
def Head.fitToSew (mode : PassMode) (d : Head) : Prop :=
  d.enabled = true ∧ d.switch = true ∧
    (match mode with
      | .normal => d.condition = .ok
      | .repair => d.condition = .repairing)

theorem Head.fitToSew_of_eligible {mode : PassMode} {d : Head} (h : d.eligible mode = true)
    (hactive : mode = .repair → d.role = .active → d.condition = .repairing) : d.fitToSew mode := by
  simp only [Head.eligible, Bool.and_eq_true] at h
  obtain ⟨⟨henabled, hswitch⟩, hmode⟩ := h
  cases mode with
  | normal => exact ⟨henabled, hswitch, by simpa using hmode⟩
  | repair => exact ⟨henabled, hswitch, hactive rfl (by simpa using hmode)⟩

/-- R150, R151: an ACTIVE head that a handover leaves in the pass is REPAIRING. -/
theorem State.passHeads_active (hsews : s.player.state = .running ∨ s.player.state = .stopping)
    (hactive : ∀ d ∈ s.heads.table, d.role = .active → d.condition = .repairing) (index block : Nat) :
    ∀ d ∈ (s.passHeads index block).heads.table, d.role = .active → d.condition = .repairing := by
  cases hmode : s.player.mode with
  | normal =>
    rw [State.passHeads_of_normal hmode]
    exact hactive
  | repair =>
    obtain ⟨u, hu, hpass⟩ := State.passHeads_of_repair hmode hsews index block
    have htable : (s.passHeads index block).heads.table = u.heads.table := by
      rw [hpass]
      split <;> rfl
    rw [htable]
    intro d hd hrole
    obtain ⟨i, hi⟩ := List.mem_iff_getElem?.1 hd
    have hentry := hu.table i
    have hjoined : (s.joinHeads index).heads.table[i]? = (s.heads.table[i]?).map (Head.join index) := List.getElem?_map
    rw [hi, hjoined] at hentry
    cases hd0 : s.heads.table[i]? with
    | none => simp [hd0] at hentry
    | some d0 =>
      rw [hd0] at hentry
      split at hentry
      · cases hentry
        cases hrole
      · cases hentry
        unfold Head.join at hrole ⊢
        split at hrole
        · rename_i hmeets
          rw [if_pos hmeets]
          split at hrole
          · rename_i hfit
            rw [if_pos hfit]
          · cases hrole
        · rename_i hmeets
          rw [if_neg hmeets]
          exact hactive d0 (List.mem_of_getElem? hd0) hrole

/-- R80: the bars that a revolution releases as its heads are engaged. -/
theorem State.sewing_released {kind : RecKind} {index : Nat} {dx dy : Int} {before : Nat → Bool} {t : State}
    (hactive : s.player.mode = .repair → ∀ d ∈ s.heads.table, d.role = .active → d.condition = .repairing)
    (hauto : ∀ o ∈ s.outs.hold, o.mode = .auto) (hmode : t.player.mode = s.player.mode)
    (hheads : t.heads = (s.sewing kind index dx dy before).heads) (houts : t.outs = (s.sewing kind index dx dy before).outs)
    {h : Nat} (hr : t.released h = true) :
    (∃ a : ActiveRecord, t.player.active = some a ∧ (a.kind = .stitch ∨ a.kind = .trim)) ∧
      ∃ d : Head, t.heads.table[h - 1]? = some d ∧ d.fitToSew t.player.mode := by
  have hhold : t.outs.hold = s.outs.hold := by
    rw [houts, State.sewing_eq]
    show (if _ then _ else _ : Outputs).hold = _
    split <;> rfl
  obtain ⟨hkind, d, hd, hengaged⟩ := State.released_auto (by rw [hhold]; exact hauto) hr
  refine ⟨hkind, d, hd, ?_⟩
  rw [hmode]
  rw [hheads, State.sewing_eq] at hd
  have hentry : s.engagedTable[h - 1]? = some d := hd
  rw [State.engagedTable, List.getElem?_map, Option.map_eq_some_iff] at hentry
  obtain ⟨d0, hd0, rfl⟩ := hentry
  exact Head.fitToSew_of_eligible (d := d0) hengaged fun hrepair => hactive hrepair d0 (List.mem_of_getElem? hd0)

/-- R148: the state in which a pass-entry trim begins its revolution. -/
def State.trimBegun (s : State) : State :=
  (s.modPlayer fun p =>
    { p with entryTrim := .active, active := some ⟨none, .trim, 0, 0, s.blockOf p.cursor⟩ }).command
      (entryTrimSpeed s.gov.active.motion s.gov.sCmd)

theorem State.beginEntryTrim_eq : s.beginEntryTrim = s.trimBegun.sewing .trim 0 0 0 s.engaged := by
  rw [State.sewing, State.armHolder, if_neg (by simp)]
  rfl

/-- R30, R148: the boundaries with a handover, or that begin a trim, engage heads and keep the modes. -/
theorem State.boundary_cases (hsews : s.player.entryTrim = .asked ∨ s.player.entryTrim = .active ∨
      (s.player.entryTrim = .none ∧ (s.player.state = .running ∨ s.player.state = .stopping))) :
    (∃ f : Player → Player, (f { s.player with active := none }).errand = s.player.errand ∧
      s.boundary = ((s.endRevolution true).modPlayer f).disengage.positionRequest) ∨
    s.boundary = s.trimBegun.sewing .trim 0 0 0 s.engaged ∨
    ∃ e : QueueEntry, (s.player.state = .running ∨ s.player.state = .stopping) ∧
      s.boundary = (s.endRevolution true).handover e := by
  obtain htrim | htrim | ⟨htrim, hsews⟩ := hsews
  · refine Or.inr (Or.inl ?_)
    rw [← State.beginEntryTrim_eq, State.boundary]
    simp only [htrim]
  · refine Or.inl ⟨fun p => { p with entryTrim := .ending, positionAsked := true }, rfl, ?_⟩
    rw [State.boundary]
    simp only [htrim]
    rfl
  · rw [State.boundary_of_sewing hsews htrim]
    by_cases hback : s.player.holdsBack = true
    · refine Or.inl ⟨fun p => { p with state := .stopping, positionAsked := true }, rfl, ?_⟩
      rw [State.playerBoundary_holdsBack hback]
      rfl
    · cases hq : s.player.queue with
      | nil => exact absurd (Player.holdsBack_nil hq) hback
      | cons e rest => exact Or.inr (Or.inr ⟨e, hsews, State.playerBoundary_handover hq hback⟩)

theorem State.handed_sews (s : State) (e : QueueEntry) (hsews : s.player.state = .running ∨ s.player.state = .stopping) :
    (s.handed e).player.state = .running ∨ (s.handed e).player.state = .stopping := by
  have hstate : (s.handed e).player.state = s.player.state := by
    simp only [State.handed, Player.handOver, Player.takeStopPosition]
    split <;> rfl
  rw [hstate]
  exact hsews

/-- R30, R142: the state that a handover leads to, its heads engaged and the queue filled up. -/
theorem State.handover_parts (hsews : s.player.state = .running ∨ s.player.state = .stopping) (e : QueueEntry) :
    ∃ u q, u = (s.handed e).passHeads e.index e.block ∧
      s.handover e = (u.sewing e.kind e.index e.dx e.dy s.engaged).modPlayer (fun p => { p with queue := q }) ∧
      u.outs = s.outs ∧ u.player.mode = s.player.mode ∧ u.player.errand = s.player.errand ∧
      u.shaft.state = s.shaft.state ∧ u.nc = s.nc := by
  obtain ⟨q, hq⟩ := (((s.handed e).passHeads e.index e.block).sewing e.kind e.index e.dx e.dy s.engaged).prefetch_queue
  refine ⟨_, q, rfl, (s.handover_eq e).trans hq, ?_⟩
  obtain ⟨table, repairs, monitors, stop, hpass⟩ := State.passHeads_taken (s.handed_sews e hsews) e.index e.block
  rw [hpass]
  refine ⟨rfl, ?_, ?_, rfl, rfl⟩
  · simp only [State.passTaken, State.handed, Player.handOver, Player.takeStopPosition]
    split <;> rfl
  · simp only [State.passTaken, State.handed, Player.handOver, Player.takeStopPosition]
    split <;> rfl

/-- Settles O60: a boundary without a handover disengages every head, and any other engages the heads that are eligible, of which
`Head.fitToSew_of_eligible` speaks. -/
theorem boundaryReleasesOnlyHeadsThatMaySew : Obligations.BoundaryReleasesOnlyHeadsThatMaySew := by
  intro s t elapsed hheld hst hangle he hcase hauto hactive hexec h hpos hr
  rw [exec_boundary hheld hst hangle] at hexec
  have hturning : s.counted.shaft.state = .turning := hst
  have hsettled (hq : s.counted.boundary.quiet = true) : t = s.counted.boundary := by
    rw [State.settle_of_quiet _ hq] at hexec
    injection hexec with hexec
    exact hexec.symm
  obtain ⟨f, hf, hb⟩ | hb | ⟨e, hsews, hb⟩ := State.boundary_cases (s := s.counted) hcase
  · rw [hb] at hsettled
    have ht := hsettled (State.positionRequest_quiet hturning (by
      rw [State.modPlayer_player, State.endRevolution_true]
      exact hf.trans he))
    rw [ht] at hr
    exact (State.BarsHeld.not_released (State.BarsHeld.of_disengage hturning hauto) hr).elim
  · rw [hb] at hsettled
    have ht := hsettled (State.quiet_of_not_held
      (by rw [State.sewing_eq]; exact fun hh => nomatch hst.symm.trans hh) (by rw [State.sewing_eq]; exact he))
    exact State.sewing_released (s := s.counted.trimBegun) (fun _ => hactive) hauto (by rw [ht, State.sewing_eq])
      (by rw [ht]) (by rw [ht]) hr
  · obtain ⟨u, q, hu, hhand, houts, hmode, herrand, hshaft, -⟩ :=
      State.handover_parts (s := s.counted.endRevolution true) (by rw [State.endRevolution_true]; exact hsews) e
    have hstate : u.shaft.state = .turning := hshaft.trans (by simpa using hturning)
    have herrand : u.player.errand = .none := herrand.trans (by rw [State.endRevolution_true]; exact he)
    rw [hb, hhand] at hsettled
    have ht := hsettled (State.quiet_of_not_held (by rw [State.sewing_eq]; exact fun hh => nomatch hstate.symm.trans hh)
      (by rw [State.sewing_eq]; exact herrand))
    have hpass : ∀ d ∈ u.heads.table, d.role = .active → d.condition = .repairing := by
      rw [hu]
      refine State.passHeads_active (State.handed_sews _ e ?_) ?_ _ _
      · rw [State.endRevolution_true]
        exact hsews
      · rw [State.endRevolution_true]
        exact hactive
    exact State.sewing_released (s := u) (fun _ => hpass) (by rw [houts, State.endRevolution_hold]; exact hauto)
      (by rw [ht, State.sewing_eq]; exact rfl) (by rw [ht]; exact rfl) (by rw [ht]; exact rfl) hr

end

end Sys2Proof.Machine
end

section
/-! PROOF. The revolution boundary: the bound on the speed, what is handed over, a pass-entry trim, a REPAIR pass (O59). -/

namespace Sys2Proof.Machine

/-! ### The bound T is the least of its terms (R56) -/

/-- R56: none of the first `j` entries is a STOP or an END. -/
def scanned (queue : List QueueEntry) (j : Nat) : Prop :=
  ∀ i < j, ∀ e : QueueEntry, queue[i]? = some e → e.kind ≠ .stop ∧ e.kind ≠ .endRec

/-- R56: a term of the bound T for a queue whose first entry stands at position `j`. -/
def boundTerm (m : Motion) (j : Nat) (queue : List QueueEntry) (t : Nat) : Prop :=
  (∃ (k : Nat) (e : QueueEntry), queue[k]? = some e ∧ scanned queue k ∧
    t = (if e.kind = .stop ∨ e.kind = .endRec then m.sStop else e.limit) + (j + k) * m.dn) ∨
  (scanned queue queue.length ∧ t = m.sStop + (j + queue.length) * m.dn)

theorem QueueEntry.stops_iff (e : QueueEntry) : e.stops = true ↔ e.kind = .stop ∨ e.kind = .endRec := by
  simp [QueueEntry.stops]

theorem scanned_cons (e : QueueEntry) (queue : List QueueEntry) (k : Nat) :
    scanned (e :: queue) (k + 1) ↔ ¬(e.kind = .stop ∨ e.kind = .endRec) ∧ scanned queue k := by
  constructor
  · intro h
    exact ⟨by simpa using h 0 (Nat.succ_pos k) e rfl, fun i hi e' he' => h (i + 1) (by omega) e' he'⟩
  · rintro ⟨hfirst, hrest⟩ i hi e' he'
    cases i with
    | zero =>
      cases he'
      exact not_or.1 hfirst
    | succ i => exact hrest i (by omega) e' he'

theorem boundTerm_cons (m : Motion) (j : Nat) (e : QueueEntry) (queue : List QueueEntry) (t : Nat) :
    boundTerm m j (e :: queue) t ↔
      t = (if e.kind = .stop ∨ e.kind = .endRec then m.sStop else e.limit) + j * m.dn ∨
      (¬(e.kind = .stop ∨ e.kind = .endRec) ∧ boundTerm m (j + 1) queue t) := by
  have hshift (k : Nat) : j + (k + 1) = j + 1 + k := by omega
  constructor
  · rintro (⟨k, e', hk, hscan, rfl⟩ | ⟨hscan, rfl⟩)
    · cases k with
      | zero =>
        cases hk
        exact Or.inl rfl
      | succ k =>
        obtain ⟨hfirst, hrest⟩ := (scanned_cons e queue k).1 hscan
        exact Or.inr ⟨hfirst, Or.inl ⟨k, e', hk, hrest, by rw [← hshift]⟩⟩
    · obtain ⟨hfirst, hrest⟩ := (scanned_cons e queue queue.length).1 hscan
      exact Or.inr ⟨hfirst, Or.inr ⟨hrest, by rw [List.length_cons, ← hshift]⟩⟩
  · rintro (rfl | ⟨hfirst, ⟨k, e', hk, hscan, rfl⟩ | ⟨hscan, rfl⟩⟩)
    · exact Or.inl ⟨0, e, rfl, fun i hi => absurd hi (Nat.not_lt_zero i), rfl⟩
    · exact Or.inl ⟨k + 1, e', hk, (scanned_cons e queue k).2 ⟨hfirst, hscan⟩, by rw [hshift k]⟩
    · exact Or.inr ⟨(scanned_cons e queue _).2 ⟨hfirst, hscan⟩, by rw [List.length_cons, hshift queue.length]⟩

theorem queueBound_least (m : Motion) (queue : List QueueEntry) (j : Nat) :
    boundTerm m j queue (queueBound m j queue) ∧ ∀ t : Nat, boundTerm m j queue t → queueBound m j queue ≤ t := by
  induction queue generalizing j with
  | nil =>
    refine ⟨Or.inr ⟨fun i hi => absurd hi (Nat.not_lt_zero i), rfl⟩, ?_⟩
    rintro t (⟨k, e, hk, -⟩ | ⟨-, rfl⟩)
    · cases hk
    · exact Nat.le_refl _
  | cons e queue ih =>
    obtain ⟨hterm, hleast⟩ := ih (j + 1)
    simp only [boundTerm_cons, queueBound, QueueEntry.stops_iff]
    by_cases hstop : e.kind = .stop ∨ e.kind = .endRec
    · simp [hstop]
    · simp only [hstop, if_false, not_false_eq_true, true_and]
      refine ⟨?_, ?_⟩
      · rcases Nat.le_total (e.limit + j * m.dn) (queueBound m (j + 1) queue) with h | h
        · exact Or.inl (Nat.min_eq_left h)
        · rw [Nat.min_eq_right h]
          exact Or.inr hterm
      · rintro t (rfl | ht)
        · exact Nat.min_le_left _ _
        · exact (Nat.min_le_right _ _).trans (hleast t ht)

/-- R56: a term of the bound T at a boundary with this queue and stop index. -/
def speedTerm (m : Motion) (queue : List QueueEntry) (stopIndex : Option Nat) (t : Nat) : Prop :=
  (∃ (j : Nat) (e : QueueEntry), queue[j]? = some e ∧ scanned queue j ∧
    t = (if e.kind = .stop ∨ e.kind = .endRec then m.sStop else e.limit) + j * m.dn) ∨
  (scanned queue queue.length ∧ t = m.sStop + queue.length * m.dn) ∨
  ∃ (i : Nat) (e : QueueEntry), stopIndex = some i ∧ queue.head? = some e ∧ t = m.sStop + (i - e.index) * m.dn

theorem speedTerm_iff (m : Motion) (queue : List QueueEntry) (stopIndex : Option Nat) (t : Nat) :
    speedTerm m queue stopIndex t ↔ boundTerm m 0 queue t ∨
      ∃ (i : Nat) (e : QueueEntry), stopIndex = some i ∧ queue.head? = some e ∧ t = m.sStop + (i - e.index) * m.dn := by
  simp only [speedTerm, boundTerm, Nat.zero_add, or_assoc]

theorem speedTerm_of_none (m : Motion) (queue : List QueueEntry) (t : Nat) : speedTerm m queue none t ↔ boundTerm m 0 queue t := by
  simp [speedTerm_iff]

theorem speedTerm_of_some (m : Motion) (e : QueueEntry) (rest : List QueueEntry) (i t : Nat) :
    speedTerm m (e :: rest) (some i) t ↔ boundTerm m 0 (e :: rest) t ∨ t = m.sStop + (i - e.index) * m.dn := by
  simp [speedTerm_iff]

theorem speedBound_least (m : Motion) (queue : List QueueEntry) (stopIndex : Option Nat) :
    speedTerm m queue stopIndex (speedBound m queue stopIndex) ∧
      ∀ t : Nat, speedTerm m queue stopIndex t → speedBound m queue stopIndex ≤ t := by
  obtain ⟨hterm, hleast⟩ := queueBound_least m queue 0
  cases stopIndex with
  | none =>
    simp only [speedTerm_of_none]
    exact ⟨by cases queue <;> exact hterm, by cases queue <;> exact hleast⟩
  | some i =>
    cases queue with
    | nil =>
      simp only [speedTerm_iff]
      exact ⟨Or.inl hterm, fun t ht => hleast t (ht.resolve_right fun ⟨_, _, _, he, _⟩ => nomatch he)⟩
    | cons e rest =>
      have heq : speedBound m (e :: rest) (some i) = min (queueBound m 0 (e :: rest)) (m.sStop + (i - e.index) * m.dn) := rfl
      simp only [speedTerm_of_some, heq]
      refine ⟨?_, ?_⟩
      · rcases Nat.le_total (queueBound m 0 (e :: rest)) (m.sStop + (i - e.index) * m.dn) with h | h
        · rw [Nat.min_eq_left h]
          exact Or.inl hterm
        · exact Or.inr (Nat.min_eq_right h)
      · rintro t (ht | rfl)
        · exact (Nat.min_le_left _ _).trans (hleast t ht)
        · exact Nat.min_le_right _ _

end Sys2Proof.Machine
end

section
/-! PROOF. The handover at a revolution boundary in RUNNING and STOPPING, by its parts (O59). -/

namespace Sys2Proof.Machine

section
variable {s : State}

/-! ### Where nothing is handed over (R30, R69, R142) -/

/-- R30, R69, R71: the state of a boundary without a handover: the revolution has ended, no head is engaged, and the shaft
positions. -/
def State.heldBack (s : State) (f : Player → Player) : State :=
  { s with
    player := f { s.player with active := none }
    heads := { s.heads with table := s.heads.table.map fun d => { d with engaged := false }, lastKind := s.endedKind }
    thread := s.endedThread
    shaft := { s.shaft.setDemand s.gov.active.motion.sStop s.gov.active.motion.sStop with
      state := .positioning, phase := .creep, retry := 0, extra := 0, cause := none, faultStill := false, toOff := false
      keptHold := false }
    outs := s.endedOuts.allAuto }

theorem State.heldBack_eq (hst : s.shaft.state = .turning) (hready : s.shaft.driveReady = true)
    (howner : s.frame.owner ≠ .positioner) (f : Player → Player) :
    ((s.endRevolution true).modPlayer f).disengage.positionRequest = s.heldBack f := by
  have hne : s.shaft.state ≠ .held := fun h => nomatch hst.symm.trans h
  have hended : ((s.endRevolution true).modPlayer f).disengage = { s with
      player := f { s.player with active := none }
      heads := { s.heads with table := s.heads.table.map fun d => { d with engaged := false }, lastKind := s.endedKind }
      thread := s.endedThread
      outs := s.endedOuts } := by
    rw [State.endRevolution_true]
    rfl
  have hturn : ((s.endRevolution true).modPlayer f).disengage.shaft.state = .turning := by simp [hst]
  rw [State.positionRequest_of_turning hturn, hended, State.enterPositioning_eq (by exact hready) (by exact howner),
    if_neg (by exact hne)]
  rfl

/-! ### What the governor makes of a stop and commands (R35, R57, R58) -/

theorem stopPosition_eq (m : Motion) (cPrev : Nat) : stopPosition m cPrev = max 1 ((cPrev - m.sStop + m.dn - 1) / m.dn) := by
  rw [stopPosition]
  obtain h | h := Nat.eq_zero_or_pos m.dn
  · simp [h]
  · rw [Nat.add_sub_assoc h]

/-- R35, R57: the stop index at the handover of a record. -/
def State.handedStop (s : State) (e : QueueEntry) : Option Nat :=
  if s.player.soonStop then
    lowerIndex s.player.stopIndex (e.index +
      min (stopPosition s.gov.active.motion (if s.shaft.runUp then 0 else s.gov.cPrev)) s.player.queue.length)
  else s.player.stopIndex

theorem State.handed_player (e : QueueEntry) : (s.handed e).player = { s.player with
    queue := s.player.queue.drop 1
    active := some ⟨some e.index, e.kind, e.dx, e.dy, e.block⟩
    cursor := e.index + 1
    resume := if s.player.mode = .normal then max s.player.resume (e.index + 1) else s.player.resume
    stopIndex := s.handedStop e
    soonStop := false } := by
  have htaken : s.player.takeStopPosition s.gov.active.motion s.shaft.runUp s.gov.cPrev e =
      { s.player with stopIndex := s.handedStop e, soonStop := false } := by
    unfold Player.takeStopPosition State.handedStop
    split
    · rfl
    · rename_i hsoon
      rw [← Bool.eq_false_of_not_eq_true hsoon]
  simp only [State.handed, htaken]
  rfl

theorem State.handed_gov (e : QueueEntry) : (s.handed e).gov = { s.gov with
    cPrev := commandedSpeed s.gov.active.motion s.shaft.runUp s.gov.sCmd s.gov.cPrev
      (speedBound s.gov.active.motion s.player.queue (s.handedStop e))
    move := beginMove s.gov.active e } := by
  simp only [State.handed, State.handedSpeed, Player.takeStopPosition, State.handedStop]
  split <;> rfl

theorem State.handed_shaft (e : QueueEntry) : (s.handed e).shaft =
    { s.shaft.setDemand s.gov.active.motion.sStop (s.handed e).gov.cPrev with runUp := false } := rfl

/-! ### The heads of a REPAIR pass (R150, R151, R154) -/

/-- R151: what becomes of a head at a handover once the heads that join have joined; `recorded` tells whether it holds a
repair record. -/
def Head.dropped (recorded : Bool) (d : Head) : Head :=
  if d.role = .active ∧ ¬(d.enabled = true ∧ d.switch = true) ∧ recorded = true then d.rebroken else d

/-- R129, R150, R151: the head's suspicion run is cleared at the handover. -/
def Head.runCleared (index : Nat) (recorded : Bool) (d : Head) : Prop :=
  (d.meets index = true ∧ d.enabled = true ∧ d.switch = true) ∨
    (d.role = .active ∧ ¬(d.enabled = true ∧ d.switch = true) ∧ recorded = true)

theorem Head.meets_iff (index : Nat) (d : Head) : d.meets index = true ↔ d.role = .waiting ∧ d.start = some index := by
  simp [Head.meets]

theorem State.joinHeads_monitor {index i : Nat} {d : Head} {n : HeadMonitor} (hd : s.heads.table[i]? = some d)
    (hn : s.thread.monitors[i]? = some n) : (s.joinHeads index).thread.monitors[i]? =
      some (if d.meets index = true ∧ d.enabled = true ∧ d.switch = true then { n with run := .clear } else n) := by
  have hpick : maskHas (s.heads.mask fun h => h.meets index && h.enabled && h.switch) (1 + i - 1) =
      (d.meets index && d.enabled && d.switch) := by
    rw [maskHas, Heads.mask, maskOf_testBit, Nat.add_sub_cancel_left, List.getD_eq_getElem?_getD, List.getElem?_map, hd]
    rfl
  show (mapFrom 1 _ s.thread.monitors)[i]? = _
  rw [mapFrom_getElem?, hn, Option.map_some]
  simp only [hpick, Bool.and_eq_true, and_assoc]

/-- R150, R151: an ACTIVE head that may not sew, after the joins, was ACTIVE before them. -/
theorem State.unfit_joined {index i : Nat} {d : Head} (hd : s.heads.table[i]? = some d) :
    i + 1 ∈ (s.joinHeads index).unfitHeads ↔ d.role = .active ∧ ¬(d.enabled = true ∧ d.switch = true) := by
  have hjoined : (s.joinHeads index).heads.table[i]? = some (d.join index) := by
    show (s.heads.table.map (Head.join index))[i]? = _
    rw [List.getElem?_map, hd]
    rfl
  rw [State.mem_unfitHeads, hjoined]
  simp only [Option.some.injEq, exists_eq_left']
  unfold Head.join
  split
  · rename_i hmeets
    split
    · rename_i hfit
      rw [Bool.and_eq_true] at hfit
      simp [hmeets.1, hfit]
    · simp [hmeets.1]
  · rfl

theorem State.passHeads_table (hmode : s.player.mode = .repair)
    (hsews : s.player.state = .running ∨ s.player.state = .stopping) {index block i : Nat} {d : Head}
    (hd : s.heads.table[i]? = some d) : (s.passHeads index block).heads.table[i]? =
      some ((d.join index).dropped (s.heads.repairOf (i + 1)).isSome) := by
  obtain ⟨u, hu, hpass⟩ := State.passHeads_of_repair hmode hsews index block
  have htable : (s.passHeads index block).heads.table = u.heads.table := by
    rw [hpass]
    split <;> rfl
  have hjoined : (s.joinHeads index).heads.table[i]? = some (d.join index) := by
    show (s.heads.table.map (Head.join index))[i]? = _
    rw [List.getElem?_map, hd]
    rfl
  have hunfit : i + 1 ∈ (s.joinHeads index).unfitHeads ↔
      (d.join index).role = .active ∧ ¬((d.join index).enabled = true ∧ (d.join index).switch = true) := by
    rw [State.mem_unfitHeads, hjoined]
    simp only [Option.some.injEq, exists_eq_left']
  have hcond : (i + 1 ∈ (s.joinHeads index).unfitHeads ∧ ((s.joinHeads index).heads.repairOf (i + 1)).isSome = true) ↔
      (d.join index).role = .active ∧ ¬((d.join index).enabled = true ∧ (d.join index).switch = true) ∧
        (s.heads.repairOf (i + 1)).isSome = true := by
    rw [hunfit, and_assoc]
    exact Iff.rfl
  rw [htable, hu.table, hjoined, Head.dropped]
  by_cases h : (d.join index).role = .active ∧ ¬((d.join index).enabled = true ∧ (d.join index).switch = true) ∧
      (s.heads.repairOf (i + 1)).isSome = true
  · rw [if_pos (hcond.2 h), if_pos h]
    exact Option.map_some _ _
  · rw [if_neg (fun hd => h (hcond.1 hd)), if_neg h]

theorem State.passHeads_monitor (hmode : s.player.mode = .repair)
    (hsews : s.player.state = .running ∨ s.player.state = .stopping) {index block i : Nat} {d : Head} {n : HeadMonitor}
    (hd : s.heads.table[i]? = some d) (hn : s.thread.monitors[i]? = some n) :
    ∃ n' : HeadMonitor, (s.passHeads index block).thread.monitors[i]? = some n' ∧ n' = { n with run := n'.run } ∧
      (d.runCleared index (s.heads.repairOf (i + 1)).isSome → n'.run = .clear) ∧
      (¬d.runCleared index (s.heads.repairOf (i + 1)).isSome → n'.run = n.run) := by
  obtain ⟨u, hu, hpass⟩ := State.passHeads_of_repair hmode hsews index block
  have hmonitors : (s.passHeads index block).thread.monitors = u.thread.monitors := by
    rw [hpass]
    split <;> rfl
  have hcond : (i + 1 ∈ (s.joinHeads index).unfitHeads ∧ ((s.joinHeads index).heads.repairOf (i + 1)).isSome = true) ↔
      d.role = .active ∧ ¬(d.enabled = true ∧ d.switch = true) ∧ (s.heads.repairOf (i + 1)).isSome = true := by
    rw [State.unfit_joined hd, and_assoc]
    exact Iff.rfl
  rw [hmonitors, hu.monitors, State.joinHeads_monitor hd hn]
  unfold Head.runCleared
  by_cases hdrops : d.role = .active ∧ ¬(d.enabled = true ∧ d.switch = true) ∧ (s.heads.repairOf (i + 1)).isSome = true
  · rw [if_pos (hcond.2 hdrops), if_neg (fun hjoins => hdrops.2.1 hjoins.2)]
    exact ⟨_, rfl, rfl, fun _ => rfl, fun h => absurd (Or.inr hdrops) h⟩
  · rw [if_neg (fun h => hdrops (hcond.1 h))]
    by_cases hjoins : d.meets index = true ∧ d.enabled = true ∧ d.switch = true
    · rw [if_pos hjoins]
      exact ⟨_, rfl, rfl, fun _ => rfl, fun h => absurd (Or.inl hjoins) h⟩
    · rw [if_neg hjoins]
      exact ⟨_, rfl, rfl, fun h => absurd (h.resolve_left hjoins) hdrops, fun _ => rfl⟩

/-- R142, R150, R151: a head's entry after a handover in a REPAIR pass. -/
def Head.handedOver (index : Nat) (recorded : Bool) (d : Head) : Head :=
  { (d.join index).dropped recorded with engaged := ((d.join index).dropped recorded).eligible .repair }

section
variable {index : Nat} {recorded : Bool} {d : Head}

theorem Head.handedOver_joined (hmeets : d.role = .waiting ∧ d.start = some index) (hfit : d.enabled = true ∧ d.switch = true) :
    d.handedOver index recorded = { d with role := .active, condition := .repairing, engaged := true } := by
  simp [Head.handedOver, Head.join, Head.dropped, Head.eligible, hmeets, hfit]

theorem Head.handedOver_left (hmeets : d.role = .waiting ∧ d.start = some index) (hfit : ¬(d.enabled = true ∧ d.switch = true)) :
    d.handedOver index recorded = { d with role := .none, start := none, engaged := false } := by
  simp [Head.handedOver, Head.join, Head.dropped, Head.eligible, hmeets, hfit]

theorem Head.handedOver_stays (hrole : d.role = .active) (hfit : d.enabled = true ∧ d.switch = true) :
    d.handedOver index recorded = { d with engaged := true } := by
  simp [Head.handedOver, Head.join, Head.dropped, Head.eligible, hrole, hfit]

theorem Head.handedOver_breaks (hrole : d.role = .active) (hfit : ¬(d.enabled = true ∧ d.switch = true)) :
    d.handedOver index true = { d with condition := .broken, role := .none, start := none, engaged := false } := by
  simp [Head.handedOver, Head.join, Head.dropped, Head.rebroken, Head.eligible, hrole, hfit]

theorem Head.handedOver_out (hrole : d.role ≠ .active) (hmeets : ¬(d.role = .waiting ∧ d.start = some index)) :
    d.handedOver index recorded = { d with engaged := false } := by
  simp [Head.handedOver, Head.join, Head.dropped, Head.eligible, hrole, hmeets]

end

/-- R143, R151: the records of an ACTIVE head that may not sew, after the handover. -/
theorem State.passHeads_records (hmode : s.player.mode = .repair)
    (hsews : s.player.state = .running ∨ s.player.state = .stopping) {index block i : Nat} {d : Head}
    (hd : s.heads.table[i]? = some d) (hrole : d.role = .active) (hfit : ¬(d.enabled = true ∧ d.switch = true)) :
    recordsOfHead (i + 1) (s.passHeads index block).heads.repairs =
      ((s.heads.repairOf (i + 1)).map (s.brokenRecord index block)).toList := by
  obtain ⟨u, hu, hpass⟩ := State.passHeads_of_repair hmode hsews index block
  have hrepairs : (s.passHeads index block).heads.repairs = u.heads.repairs := by
    rw [hpass]
    split <;> rfl
  rw [hrepairs, hu.records, if_pos ((State.unfit_joined hd).2 ⟨hrole, hfit⟩)]
  rfl

theorem State.passHeads_length (hmode : s.player.mode = .repair)
    (hsews : s.player.state = .running ∨ s.player.state = .stopping) (index block : Nat) :
    (s.passHeads index block).heads.table.length = s.heads.table.length := by
  obtain ⟨u, hu, hpass⟩ := State.passHeads_of_repair hmode hsews index block
  have htable : (s.passHeads index block).heads.table = u.heads.table := by
    rw [hpass]
    split <;> rfl
  have hjoined : (s.joinHeads index).heads.table.length = s.heads.table.length := List.length_map _
  have hnone (i : Nat) : u.heads.table[i]? = none ↔ (s.joinHeads index).heads.table[i]? = none := by
    rw [hu.table]
    split
    · exact Option.map_eq_none_iff
    · exact Iff.rfl
  simp only [List.getElem?_eq_none_iff, hjoined] at hnone
  rw [htable]
  exact Nat.le_antisymm ((hnone _).2 (Nat.le_refl _)) ((hnone _).1 (Nat.le_refl _))

/-- R154: a pass that the handover leaves without heads asks for its stop. -/
theorem State.passHeads_player (hmode : s.player.mode = .repair)
    (hsews : s.player.state = .running ∨ s.player.state = .stopping) (index block : Nat) :
    ((∃ d ∈ s.heads.table, d.role ≠ .none) → (∀ d ∈ (s.passHeads index block).heads.table, d.role = .none) →
      (s.passHeads index block).player = s.player.stopAsked .passEmpty) ∧
    (¬((∃ d ∈ s.heads.table, d.role ≠ .none) ∧ ∀ d ∈ (s.passHeads index block).heads.table, d.role = .none) →
      (s.passHeads index block).player = s.player) := by
  obtain ⟨u, hu, hpass⟩ := State.passHeads_of_repair hmode hsews index block
  have htable : (s.passHeads index block).heads.table = u.heads.table := by
    rw [hpass]
    split <;> rfl
  have hplayer : u.player = s.player := by
    obtain ⟨_, _, _, hrest⟩ := hu.rest
    rw [hrest]
    rfl
  have hempty : u.heads.inPass = false ↔ ∀ d ∈ u.heads.table, d.role = .none := none_inPass_iff _
  rw [htable, ← Heads.inPass_iff, ← hempty, hpass]
  refine ⟨fun hin hout => ?_, fun h => ?_⟩
  · rw [if_pos ⟨hin, hout⟩, hplayer]
  · rw [if_neg h, hplayer]

end

end Sys2Proof.Machine
end

section
/-! PROOF. What a revolution boundary hands over, and the two boundaries of a pass-entry trim (O59). -/

namespace Sys2Proof.Machine

section
variable {s : State}

/-- R65, R79: the state in which a boundary hands over: the count taken, the revolution before ended. -/
def State.ended (s : State) : State :=
  { s with
    shaft := s.shaft.counted true
    player := { s.player with active := none }
    heads := { s.heads with lastKind := s.endedKind }
    outs := s.endedOuts
    thread := s.endedThread }

theorem State.counted_endRevolution : s.counted.endRevolution true = s.ended := s.counted.endRevolution_true

/-- R30: a boundary that hands over a record. -/
theorem exec_handover {elapsed : Nat} {e : QueueEntry} {rest : List QueueEntry} (hheld : s.resetHeld = false)
    (hst : s.shaft.state = .turning) (hangle : (s.shaft.angle + 1) % 1024 = s.gov.active.motion.wOpen)
    (hsews : s.player.state = .running ∨ s.player.state = .stopping) (htrim : s.player.entryTrim = .none)
    (he : s.player.errand = .none) (hq : s.player.queue = e :: rest) (hback : ¬s.player.holdsBack = true) :
    ∃ (table : List Head) (repairs : List RepairRecord) (monitors : List HeadMonitor)
      (stop : PlayerState × Option StopReason × Bool) (more : List QueueEntry),
      (s.ended.handed e).passHeads e.index e.block = (s.ended.handed e).passTaken table repairs monitors stop ∧
      (stop.1 = .running ∨ stop.1 = .stopping) ∧
      exec (.encoderCount true elapsed) s =
        .next ((((s.ended.handed e).passTaken table repairs monitors stop).sewing e.kind e.index e.dx e.dy s.engaged).queueMore
          more) := by
  have hhanded := s.ended.handed_sews e hsews
  obtain ⟨table, repairs, monitors, stop, hpass⟩ := State.passHeads_taken hhanded e.index e.block
  have hstop : stop.1 = .running ∨ stop.1 = .stopping := by
    have hstate : ((s.ended.handed e).passHeads e.index e.block).player.state = stop.1 := congrArg (fun t : State => t.player.state) hpass
    rw [← hstate]
    cases hmode : (s.ended.handed e).player.mode with
    | normal =>
      rw [State.passHeads_of_normal hmode]
      exact hhanded
    | repair =>
      obtain ⟨u, hu, hpass⟩ := State.passHeads_of_repair hmode hhanded e.index e.block
      obtain ⟨_, _, _, hrest⟩ := hu.rest
      rw [hpass]
      split
      · exact Or.inr rfl
      · rw [hrest]
        exact hhanded
  obtain ⟨more, hmore⟩ := State.prefetch_appends
    (((s.ended.handed e).passTaken table repairs monitors stop).sewing e.kind e.index e.dx e.dy s.engaged) (by
      rw [State.sewing_eq]
      obtain h | h := hstop <;> exact congrArg PlayerState.prefetches h)
  have hengaged : s.ended.engaged = s.engaged := rfl
  refine ⟨table, repairs, monitors, stop, more, hpass, hstop, ?_⟩
  have hboundary : s.counted.boundary = (((s.ended.handed e).passTaken table repairs monitors stop).sewing e.kind e.index e.dx e.dy
      s.engaged).queueMore more := by
    rw [State.boundary_of_sewing (s := s.counted) hsews htrim, State.playerBoundary_handover (s := s.counted) hq hback,
      State.counted_endRevolution, State.handover_eq, hpass, hengaged, hmore]
  have hquiet : ((((s.ended.handed e).passTaken table repairs monitors stop).sewing e.kind e.index e.dx e.dy
      s.engaged).queueMore more).quiet = true := by
    refine State.quiet_of_not_held ?_ ?_
    · rw [State.sewing_eq]
      exact fun h => nomatch hst.symm.trans h
    · rw [State.sewing_eq]
      show (s.ended.handed e).player.errand = .none
      rw [State.handed_player]
      exact he
  rw [exec_boundary hheld hst hangle, hboundary, State.settle_of_quiet _ hquiet]

/-- R28: the queue once a record has been handed over. -/
theorem State.taken_player {e : QueueEntry} {rest : List QueueEntry} (hq : s.player.queue = e :: rest) (more : List QueueEntry)
    (table : List Head) (repairs : List RepairRecord) (monitors : List HeadMonitor)
    (stop : PlayerState × Option StopReason × Bool) (kind : RecKind) (index : Nat) (dx dy : Int) (before : Nat → Bool) :
    ((((s.ended.handed e).passTaken table repairs monitors stop).sewing kind index dx dy before).queueMore more).player =
      { s.player with
        queue := rest ++ more
        active := some ⟨some e.index, e.kind, e.dx, e.dy, e.block⟩
        cursor := e.index + 1
        resume := if s.player.mode = .normal then max s.player.resume (e.index + 1) else s.player.resume
        stopIndex := s.handedStop e
        state := stop.1
        stopReason := stop.2.1
        soonStop := stop.2.2 } := by
  have hplayer := s.ended.handed_player e
  rw [State.sewing_eq]
  show { (s.ended.handed e).player with
    state := stop.1, stopReason := stop.2.1, soonStop := stop.2.2
    queue := (s.ended.handed e).player.queue ++ more } = _
  rw [hplayer]
  have hrest : s.ended.player.queue.drop 1 = rest := by
    show s.player.queue.drop 1 = rest
    rw [hq]
    rfl
  rw [hrest]
  rfl

theorem State.handedStop_eq {e : QueueEntry} {rest : List QueueEntry} (hq : s.player.queue = e :: rest) :
    s.handedStop e =
      if s.player.soonStop then
        lowerIndex s.player.stopIndex (e.index + min (max 1 (((if s.shaft.runUp then 0 else s.gov.cPrev) -
          s.gov.active.motion.sStop + s.gov.active.motion.dn - 1) / s.gov.active.motion.dn)) (rest.length + 1))
      else s.player.stopIndex := by
  rw [State.handedStop, stopPosition_eq, hq, List.length_cons]

/-- R122, R128: the monitor of a head as a revolution begins. -/
theorem State.sewing_monitor {kind : RecKind} {index : Nat} {dx dy : Int} {before : Nat → Bool} {i : Nat} {d : Head}
    {n : HeadMonitor} (hd : s.engagedTable[i]? = some d) (hn : s.thread.monitors[i]? = some n) :
    (s.sewing kind index dx dy before).thread.monitors[i]? = some { n with
      tieIn := if d.engaged = true ∧ before (i + 1) = false then (s.thread.profileAt s.nc.pos).f else n.tieIn } := by
  have hengaged : s.engage.engaged (i + 1) = d.engaged := State.engaged_of_some hd
  rw [State.sewing_eq]
  show (mapFrom 1 _ s.thread.monitors)[i]? = _
  rw [mapFrom_getElem?, hn, Option.map_some]
  simp only [Nat.add_comm 1 i, hengaged, Bool.and_eq_true, Bool.not_eq_true']
  split <;> rfl

theorem State.endedThread_profileAt (needle : Nat) : s.endedThread.profileAt needle = s.thread.profileAt needle := by
  rw [State.endedThread_rest]
  rfl

/-- R122, R128, R129: the monitor of a head after a handover. -/
theorem State.taken_monitor {e : QueueEntry} {table : List Head} {repairs : List RepairRecord} {monitors : List HeadMonitor}
    {stop : PlayerState × Option StopReason × Bool}
    (hsews : s.player.state = .running ∨ s.player.state = .stopping)
    (hpass : (s.ended.handed e).passHeads e.index e.block = (s.ended.handed e).passTaken table repairs monitors stop)
    {kind : RecKind} {index : Nat} {dx dy : Int} {i : Nat} {d d' : Head} {n : HeadMonitor}
    (hd : s.heads.table[i]? = some d) (hn : s.thread.monitors[i]? = some n)
    (hd' : ((s.ended.handed e).passTaken table repairs monitors stop).engagedTable[i]? = some d') :
    ∃ n' : HeadMonitor, (((s.ended.handed e).passTaken table repairs monitors stop).sewing kind index dx dy
        s.engaged).thread.monitors[i]? = some n' ∧
      n' = { n with
        run := n'.run
        tieIn :=
          if d'.engaged = true ∧ d.engaged = false then (s.thread.profileAt s.nc.pos).f
          else if s.trims = true ∧ d.engaged = true then (s.thread.rev.map fun r => r.profile.f).getD 0
          else n.tieIn } ∧
      (s.player.mode = .normal → n'.run = n.run) ∧
      (s.player.mode = .repair → d.runCleared e.index (s.heads.repairOf (i + 1)).isSome → n'.run = .clear) ∧
      (s.player.mode = .repair → ¬d.runCleared e.index (s.heads.repairOf (i + 1)).isSome → n'.run = n.run) := by
  have hbefore : s.engaged (i + 1) = d.engaged := State.engaged_of_some hd
  have hended := s.endedThread_monitor hn
  rw [hbefore] at hended
  have hmode : (s.ended.handed e).player.mode = s.player.mode := by
    rw [State.handed_player]
    rfl
  have hmonitors : monitors = ((s.ended.handed e).passHeads e.index e.block).thread.monitors := by
    rw [hpass]
    rfl
  have hprofile : ((s.ended.handed e).passTaken table repairs monitors stop).thread.profileAt s.nc.pos =
      s.thread.profileAt s.nc.pos := s.endedThread_profileAt _
  obtain ⟨n1, hn1, hsame, hnormal, hclear, hkeep⟩ : ∃ n1 : HeadMonitor, monitors[i]? = some n1 ∧
      n1 = { n with
        run := n1.run
        tieIn := if s.trims = true ∧ d.engaged = true then (s.thread.rev.map fun r => r.profile.f).getD 0 else n.tieIn } ∧
      (s.player.mode = .normal → n1.run = n.run) ∧
      (s.player.mode = .repair → d.runCleared e.index (s.heads.repairOf (i + 1)).isSome → n1.run = .clear) ∧
      (s.player.mode = .repair → ¬d.runCleared e.index (s.heads.repairOf (i + 1)).isSome → n1.run = n.run) := by
    cases hm : s.player.mode with
    | normal =>
      rw [hmonitors, State.passHeads_of_normal (hmode.trans hm)]
      exact ⟨_, hended, rfl, fun _ => rfl, nofun, nofun⟩
    | repair =>
      obtain ⟨n1, hn1, hsame, hclear, hkeep⟩ := State.passHeads_monitor (s := s.ended.handed e) (index := e.index)
        (block := e.block) (hmode.trans hm) (s.ended.handed_sews e hsews) hd hended
      rw [hmonitors]
      exact ⟨n1, hn1, hsame, nofun, fun _ => hclear, fun _ => hkeep⟩
  refine ⟨_, State.sewing_monitor hd' hn1, ?_, hnormal, hclear, hkeep⟩
  rw [hbefore]
  conv_lhs => rw [hsame]
  rw [show ((s.ended.handed e).passTaken table repairs monitors stop).nc.pos = s.nc.pos from rfl, hprofile]

/-- R30, R148: a boundary without a handover, with the drive ready and no positioner operation. -/
theorem exec_heldBack {elapsed : Nat} (hheld : s.resetHeld = false) (hst : s.shaft.state = .turning)
    (hangle : (s.shaft.angle + 1) % 1024 = s.gov.active.motion.wOpen) (hready : s.shaft.driveReady = true)
    (howner : s.frame.owner ≠ .positioner) (f : Player → Player) (he : (f { s.player with active := none }).errand = .none)
    (hboundary : s.counted.boundary = ((s.counted.endRevolution true).modPlayer f).disengage.positionRequest) :
    exec (.encoderCount true elapsed) s = .next (s.counted.heldBack f) := by
  rw [State.heldBack_eq (s := s.counted) hst hready howner f] at hboundary
  rw [exec_boundary hheld hst hangle, hboundary, State.settle_of_quiet _ (State.quiet_of_not_held (by exact nofun) he)]

/-- R59: the move that the handover of a record begins. -/
theorem beginMove_eq (g : MotionSet) (e : QueueEntry) : beginMove g e =
    if (e.kind = .stitch ∨ e.kind = .jump) ∧ (e.nx ≠ 0 ∨ e.ny ≠ 0) then
      some { index := e.index, kind := e.kind, nx := e.nx, ny := e.ny, xNeg := decide (e.dx < 0), yNeg := decide (e.dy < 0),
             ex := 0, ey := 0, window := if e.kind = .stitch then g.motion.wm else g.motion.wjEff
             slice := (if e.kind = .stitch then g.motion.wm else g.motion.wjEff) / 16
             profile := g.profile, waitX := 0, waitY := 0, overrun := false }
    else none := by
  unfold beginMove
  split
  · rename_i h
    obtain ⟨hk | hk, -⟩ := h <;> simp [hk, Motion.windowOf]
  · rfl

theorem State.engagedTable_normal (h : s.player.mode = .normal) : s.engagedTable =
    s.heads.table.map fun d => { d with engaged := d.enabled && d.switch && decide (d.condition = .ok) } := by
  rw [State.engagedTable, h]
  exact List.map_congr_left fun d _ => rfl

/-- R122: the thread monitor as a revolution begins, but for the heads. -/
theorem State.taken_thread (e : QueueEntry) (table : List Head) (repairs : List RepairRecord) (monitors : List HeadMonitor)
    (stop : PlayerState × Option StopReason × Bool) :
    let t := ((s.ended.handed e).passTaken table repairs monitors stop).sewing e.kind e.index e.dx e.dy s.engaged
    t.thread = { s.thread with
      monitors := t.thread.monitors
      rev := some ⟨e.kind, e.index, e.dx, e.dy, s.thread.profileAt s.nc.pos, s.nc.pos⟩
      feedOpen := false } := by
  intro t
  have hprofile : ((s.ended.handed e).passTaken table repairs monitors stop).thread.profileAt s.nc.pos =
      s.thread.profileAt s.nc.pos := s.endedThread_profileAt _
  have hthread : t.thread = _ := congrArg State.thread
    (State.sewing_eq ((s.ended.handed e).passTaken table repairs monitors stop) e.kind e.index e.dx e.dy s.engaged)
  have hrest (pick : Nat → Bool) (f : Nat) (r : Option SewnRevolution) :
      ({ ({ s.endedThread with monitors := monitors } : Thread).setTieIn pick f with rev := r, feedOpen := false } : Thread) =
        { s.thread with
          monitors := (({ s.endedThread with monitors := monitors } : Thread).setTieIn pick f).monitors
          rev := r, feedOpen := false } := by
    rw [s.endedThread_rest]
    rfl
  rw [← hprofile, hthread]
  exact hrest _ _ _

end

end Sys2Proof.Machine
end

section
/-! PROOF. The revolution boundary: what it hands over, a pass-entry trim, a REPAIR pass (O59). -/

namespace Sys2Proof.Machine

/-- Settles O59: a boundary without a handover by `exec_heldBack`, one with a handover by `exec_handover`, whose heads and monitors
`State.passHeads_table` and `State.taken_monitor` describe, and the bound T by `speedBound_least`. -/
theorem boundaryHandsOverTheQueueHead : Obligations.BoundaryHandsOverTheQueueHead := by
  refine ⟨fun s elapsed hheld _ hst hangle hsews htrim he hk => ?sewing, fun s elapsed hheld _ hst hangle he hk => ?trim,
    fun s elapsed e rest hheld _ hst hangle hsews htrim he hk hmode hqueue hgo hactive => ?pass, fun m queue stopIndex => ?bound⟩
  case sewing =>
    intro answer m normal lastKind trimmed outs stops
    have hlast : lastKind = s.endedKind := rfl
    have houts : outs = s.endedOuts := by
      have hcount : (if trimmed then 2 else s.outs.holderCount) = if s.trims = true then 2 else s.outs.holderCount := by
        by_cases h : trimmed
        · rw [if_pos h, if_pos (s.trims_iff.2 h)]
        · rw [if_neg h, if_neg (fun ht => h (s.trims_iff.1 ht))]
      exact congrArg (fun count => { s.outs with holderCount := count, holderArmed := s.outs.holderArmed && s.player.active.isNone }) hcount
    have hstops : stops ↔ s.player.holdsBack = true := by
      dsimp only [stops]
      cases hq : s.player.queue with
      | nil => simp [Player.holdsBack_nil hq]
      | cons e rest => rw [Player.holdsBack_cons hq]
    refine ⟨fun h hready howner => ?back, fun e rest hq hgo => ?hand⟩
    case back =>
      rw [hlast, houts]
      have hexec := exec_heldBack (elapsed := elapsed) hheld hst hangle hready howner
        (fun p => { p with state := .stopping, positionAsked := true }) he (by
          rw [State.boundary_of_sewing (s := s.counted) hsews htrim]
          exact State.playerBoundary_holdsBack (s := s.counted) (hstops.1 h))
      exact ⟨_, hexec, rfl, rfl, rfl, rfl, rfl, rfl, rfl, rfl, rfl, rfl, rfl, rfl⟩
    case hand =>
      obtain ⟨table, repairs, monitors, stop, more, hpass, hstop, hexec⟩ :=
        exec_handover (elapsed := elapsed) hheld hst hangle hsews htrim he hq (fun h => hgo (hstops.2 h))
      obtain ⟨t, ht⟩ : ∃ t, t = (((s.ended.handed e).passTaken table repairs monitors stop).sewing e.kind e.index e.dx e.dy
        s.engaged).queueMore more := ⟨_, rfl⟩
      have hplayer := State.taken_player hq more table repairs monitors stop e.kind e.index e.dx e.dy s.engaged
      have heq := State.sewing_eq ((s.ended.handed e).passTaken table repairs monitors stop) e.kind e.index e.dx e.dy s.engaged
      rw [← ht] at hplayer hexec
      rw [heq] at ht
      refine ⟨t, more, hexec, ?_⟩
      intro first stopIndex bound speed
      have hindex : stopIndex = s.handedStop e := by
        rw [State.handedStop_eq hq]
        dsimp only [stopIndex]
        cases s.player.stopIndex <;> rfl
      have hspeed : (s.ended.handed e).gov = { s.gov with
          cPrev := speed
          move := beginMove s.gov.active e } := by
        dsimp only [speed, bound]
        rw [State.handed_gov, hindex]
        rfl
      have hnormal (h : normal) : table = s.heads.table ∧ repairs = s.heads.repairs ∧
          stop = ⟨s.player.state, s.player.stopReason, false⟩ := by
        have hmode : (s.ended.handed e).player.mode = .normal := by
          rw [State.handed_player]
          exact h
        have hsame := (State.passHeads_of_normal hmode e.index e.block).symm.trans hpass
        have hp := congrArg State.player hsame
        rw [State.handed_player] at hp
        exact ⟨(congrArg (fun t : State => t.heads.table) hsame).symm, (congrArg (fun t : State => t.heads.repairs) hsame).symm,
          Prod.ext (congrArg Player.state hp).symm (Prod.ext (congrArg Player.stopReason hp).symm (congrArg Player.soonStop hp).symm)⟩
      have hmode : (s.ended.handed e).player.mode = s.player.mode := by
        rw [State.handed_player]
        rfl
      have hgov : t.gov = (s.ended.handed e).gov := by rw [ht]; rfl
      have hshaft : t.shaft = (s.ended.handed e).shaft := by rw [ht]; rfl
      have htable : t.heads.table = ((s.ended.handed e).passTaken table repairs monitors stop).engagedTable := by rw [ht]; rfl
      refine ⟨?player, fun h => ?stop, ?gov, ?shaft, ?demand, ?runUp, ?heads, fun h => ?table, ?outs, ⟨?thread, ?monitors⟩,
        ?frame, ?store, ?nc, ?ev⟩
      case player =>
        rw [hplayer, hindex]
      case stop =>
        rw [hplayer, (hnormal h).2.2]
        exact ⟨rfl, rfl, rfl⟩
      case gov =>
        rw [hgov, hspeed, beginMove_eq]
      case shaft =>
        rw [hshaft]
        exact hst
      case demand =>
        rw [hshaft, State.handed_shaft, hspeed]
        rfl
      case runUp =>
        rw [hshaft]
        rfl
      case heads =>
        rw [hlast, ht]
        rfl
      case table =>
        obtain ⟨htab, hrep, -⟩ := hnormal h
        refine ⟨by rw [ht, hrep]; rfl, ?_⟩
        rw [htable, State.engagedTable_normal (by exact hmode.trans h), htab]
        rfl
      case outs =>
        intro arms
        have hiff : arms ↔ (e.kind = .stitch ∧
            ((s.ended.handed e).passTaken table repairs monitors stop).engagedTable.any Head.engaged = true ∧
            0 < s.endedOuts.holderCount) := by
          dsimp only [arms]
          rw [htable, List.any_eq_true, houts]
        by_cases h : arms
        · rw [if_pos h, ht, houts]
          exact if_pos (hiff.1 h)
        · rw [if_neg h, ht, houts]
          exact if_neg (fun hh => h (hiff.2 hh))
      case thread =>
        have hthread := State.taken_thread (s := s) e table repairs monitors stop
        rw [heq] at hthread
        rw [ht]
        exact hthread
      case monitors =>
        intro i d d' n hd hd' hn
        rw [htable] at hd'
        obtain ⟨n', hn', hsame, hrun, -, -⟩ :=
          State.taken_monitor (kind := e.kind) (index := e.index) (dx := e.dx) (dy := e.dy) hsews hpass hd hn hd'
        refine ⟨n', ?_, ?_, fun h => hrun h⟩
        · rw [heq] at hn'
          rw [ht]
          exact hn'
        · have htie : (if s.trims = true ∧ d.engaged = true then (s.thread.rev.map fun r => r.profile.f).getD 0 else n.tieIn) =
              if trimmed ∧ d.engaged = true then (s.thread.rev.map fun r => r.profile.f).getD 0 else n.tieIn :=
            if_congr (and_congr s.trims_iff Iff.rfl) rfl rfl
          rw [htie] at hsame
          exact hsame
      case frame => rw [ht]; rfl
      case store => rw [ht]; rfl
      case nc => rw [ht]; rfl
      case ev => rw [ht]; rfl
  case trim =>
    intro answer m speed
    refine ⟨fun htrim hmode => ?asked, fun a htrim ha hkind hready howner => ?active⟩
    case asked =>
      have hboundary : s.counted.boundary = s.counted.trimBegun.sewing .trim 0 0 0 s.counted.engaged := by
        rw [← State.beginEntryTrim_eq, State.boundary]
        simp only [show s.counted.player.entryTrim = .asked from htrim]
      have heq := State.sewing_eq s.counted.trimBegun .trim 0 0 0 s.counted.engaged
      rw [if_neg (by simp)] at heq
      have hquiet : s.counted.boundary.quiet = true := by
        rw [hboundary, heq]
        exact State.quiet_of_not_held (fun h => nomatch hst.symm.trans h) he
      have hexec : answer = .next s.counted.boundary := by
        dsimp only [answer]
        rw [exec_boundary hheld hst hangle, State.settle_of_quiet _ hquiet]
      rw [hboundary, heq] at hexec
      refine ⟨_, hexec, rfl, rfl, hst, rfl, rfl, ?_, rfl, rfl, rfl, rfl, rfl⟩
      have htable := State.engagedTable_normal (s := s.counted.trimBegun) hmode
      show ({ s.heads with table := s.counted.trimBegun.engagedTable } : Heads) = _
      rw [htable]
      rfl
    case active =>
      have hexec := exec_heldBack (elapsed := elapsed) hheld hst hangle hready howner
        (fun p => { p with entryTrim := .ending, positionAsked := true }) he (by
          rw [State.boundary]
          simp only [show s.counted.player.entryTrim = .active from htrim]
          rfl)
      have htrims : s.trims = true := s.trims_iff.2 ⟨a, ha, hkind⟩
      refine ⟨_, hexec, rfl, ?_, ?_, rfl, rfl, rfl, rfl, rfl, rfl, rfl, fun i d n r hd hn hr hengaged => ?_⟩
      · have hlast : s.endedKind = some .trim := by
          simp only [State.endedKind, ha, hkind]
        show ({ s.heads with table := _, lastKind := s.endedKind } : Heads) = _
        rw [hlast]
        rfl
      · exact if_pos htrims
      · have hbefore : s.engaged (i + 1) = true := (State.engaged_of_some (h := i + 1) hd).trans hengaged
        have hmonitor := s.endedThread_monitor hn
        rw [if_pos ⟨htrims, hbefore⟩, hr] at hmonitor
        exact hmonitor
  case pass =>
    intro joins fit record
    have hback : ¬s.player.holdsBack = true := fun h => hgo ((Player.holdsBack_cons hqueue).1 h)
    obtain ⟨table, repairs, monitors, stop, more, hpass, hstop, hexec⟩ :=
      exec_handover (elapsed := elapsed) hheld hst hangle hsews htrim he hqueue hback
    have hplayer := State.taken_player hqueue more table repairs monitors stop e.kind e.index e.dx e.dy s.engaged
    have heq := State.sewing_eq ((s.ended.handed e).passTaken table repairs monitors stop) e.kind e.index e.dx e.dy s.engaged
    obtain ⟨t, ht⟩ : ∃ t, t = (((s.ended.handed e).passTaken table repairs monitors stop).sewing e.kind e.index e.dx e.dy
      s.engaged).queueMore more := ⟨_, rfl⟩
    rw [← ht] at hplayer hexec
    have hmonitors : t.thread = (((s.ended.handed e).passTaken table repairs monitors stop).sewing e.kind e.index e.dx e.dy
      s.engaged).thread := by rw [ht]; rfl
    rw [heq] at ht
    have hmodew : (s.ended.handed e).player.mode = .repair := by
      rw [State.handed_player]
      exact hmode
    have hsewsw := s.ended.handed_sews e hsews
    have htable : t.heads.table = ((s.ended.handed e).passTaken table repairs monitors stop).engagedTable := by rw [ht]; rfl
    have hentry (i : Nat) (d : Head) (hd : s.heads.table[i]? = some d) :
        t.heads.table[i]? = some (d.handedOver e.index (s.heads.repairOf (i + 1)).isSome) := by
      have htaken : table[i]? = some ((d.join e.index).dropped (s.heads.repairOf (i + 1)).isSome) := by
        have hheads := State.passHeads_table (s := s.ended.handed e) (index := e.index) (block := e.block) hmodew hsewsw hd
        rw [hpass] at hheads
        exact hheads
      have hm : ((s.ended.handed e).passTaken table repairs monitors stop).player.mode = .repair := hmodew
      rw [htable, State.engagedTable, List.getElem?_map, hm]
      show (table[i]?).map _ = _
      rw [htaken]
      rfl
    have hmonitor (i : Nat) (d : Head) (n : HeadMonitor) (hd : s.heads.table[i]? = some d) (hn : s.thread.monitors[i]? = some n) := by
      have hd' := hentry i d hd
      rw [htable] at hd'
      have hm := State.taken_monitor (kind := e.kind) (index := e.index) (dx := e.dx) (dy := e.dy) hsews hpass hd hn hd'
      rw [← hmonitors] at hm
      exact hm
    have hcleared (i : Nat) (d : Head) : d.runCleared e.index (s.heads.repairOf (i + 1)).isSome ↔
        (joins d ∧ fit d) ∨ (d.role = .active ∧ ¬fit d ∧ s.heads.repairOf (i + 1) ≠ none) := by
      dsimp only [joins, fit]
      rw [Head.runCleared, Head.meets_iff, ← Option.isSome_iff_ne_none]
    refine ⟨t, hexec, by rw [hplayer], ?resume, by rw [hplayer]; exact hmode, by rw [hplayer],
      by rw [ht]; exact hst, by rw [ht]; rfl, by rw [ht]; rfl, by rw [ht]; rfl, by rw [ht]; rfl, ?length,
      fun i d hd => ⟨fun hjoins hfit => ⟨?joined, fun n hn hengaged => ?tiedIn⟩, fun hjoins hfit => ?dropped, fun hrole hfit => ?stays,
        fun q hrole hfit hq => ⟨?broken, ?record⟩, fun hrole hjoins => ?out, fun n hn => ?runs⟩, ?stop⟩
    case resume =>
      rw [hplayer]
      exact if_neg (c := s.player.mode = .normal) (by rw [hmode]; exact nofun)
    case length =>
      have hlength := State.passHeads_length (s := s.ended.handed e) hmodew hsewsw e.index e.block
      rw [hpass] at hlength
      rw [htable]
      exact (List.length_map _).trans hlength
    case joined => rw [hentry i d hd, Head.handedOver_joined hjoins hfit]
    case tiedIn =>
      obtain ⟨n', hn', hsame, -, hrun, -⟩ := hmonitor i d n hd hn
      rw [hrun hmode ((hcleared i d).2 (Or.inl ⟨hjoins, hfit⟩)), Head.handedOver_joined hjoins hfit, if_pos ⟨rfl, hengaged⟩] at hsame
      rw [hn', hsame]
      rfl
    case dropped => rw [hentry i d hd, Head.handedOver_left hjoins hfit]
    case stays => rw [hentry i d hd, Head.handedOver_stays hrole hfit]
    case broken => rw [hentry i d hd, hq, Option.isSome_some, Head.handedOver_breaks hrole hfit]
    case record =>
      have hrecords := State.passHeads_records (s := s.ended.handed e) (index := e.index) (block := e.block) hmodew hsewsw hd hrole hfit
      have hq' : (s.ended.handed e).heads.repairOf (i + 1) = some q := hq
      have hwritten : (s.ended.handed e).brokenRecord e.index e.block q = record q := by
        simp only [State.brokenRecord, State.historyNeedle, State.blockOf, State.armedDesign, State.handed_player]
        rfl
      rw [hpass, hq', Option.map_some, hwritten, Option.toList_some] at hrecords
      have hself (x : RepairRecord) : x ∈ t.heads.repairs ∧ x.head = i + 1 ↔ x = record q := by
        have hrepairs : t.heads.repairs = ((s.ended.handed e).passTaken table repairs monitors stop).heads.repairs := by rw [ht]; rfl
        rw [← mem_recordsOfHead, hrepairs, hrecords, List.mem_singleton]
      exact ⟨((hself _).2 rfl).1, fun x hx hh => (hself x).1 ⟨hx, hh⟩⟩
    case out => rw [hentry i d hd, Head.handedOver_out hrole hjoins]
    case runs =>
      intro cleared
      obtain ⟨n', hn', -, -, hclear, hkeep⟩ := hmonitor i d n hd hn
      rw [hn', Option.map_some]
      by_cases h : cleared
      · rw [if_pos h, hclear hmode ((hcleared i d).2 h)]
        rfl
      · rw [if_neg h, hkeep hmode (fun hh => h ((hcleared i d).1 hh))]
    case stop =>
      intro emptied
      obtain ⟨hasks, hkeeps⟩ := State.passHeads_player (s := s.ended.handed e) hmodew hsewsw e.index e.block
      have hroles : (∀ d ∈ t.heads.table, d.role = .none) ↔
          ∀ d ∈ ((s.ended.handed e).passTaken table repairs monitors stop).heads.table, d.role = .none := by
        rw [htable, State.engagedTable, List.forall_mem_map]
      rw [hpass, ← hroles] at hasks hkeeps
      rw [State.handed_player] at hasks hkeeps
      refine ⟨fun h => ?_, fun h => ?_⟩
      · have hp := hasks h.1 h.2
        rw [hplayer]
        exact ⟨congrArg Player.state hp, congrArg Player.stopReason hp, congrArg Player.soonStop hp⟩
      · have hp := hkeeps h
        have hstate := congrArg Player.state hp
        have hreason := congrArg Player.stopReason hp
        have hsoon := congrArg Player.soonStop hp
        rw [hplayer]
        exact ⟨hstate, hreason, hsoon⟩
  case bound => exact speedBound_least m queue stopIndex

end Sys2Proof.Machine
end

section
/-! PROOF. The stall timer and the still shaft by the shaft's state, and the recovery that HELD ends (O58, first part). -/

namespace Sys2Proof.Machine

section
variable {s : State}

/-! ### The commands (R67, R75) -/

theorem exec_stallTimeout (hheld : s.resetHeld = false) : exec .stallTimeout s = .next s.stalled.settle :=
  congrArg Host.Outcome.next (State.event_of_running hheld State.stalled)

theorem exec_shaftStill (hheld : s.resetHeld = false) : exec .shaftStill s = .next s.stillNow.settle := by
  have hexec : exec .shaftStill s =
      .next (if s.resetHeld then s.modShaft fun h => { h with still := true } else s.stillNow.settle) := rfl
  rw [hexec, hheld]
  rfl

/-- R60: steps that go out within a stillness touch the governor and the frame unit only. -/
theorem State.heldSteps_keeps (t : Nat) : (s.heldSteps t).player = s.player ∧ (s.heldSteps t).shaft = s.shaft := by
  unfold State.heldSteps
  split
  · split
    · exact ⟨rfl, rfl⟩
    · exact ⟨rfl, rfl⟩
  · exact ⟨rfl, rfl⟩

/-- R67: the shaft has been without a count for 20 ms. -/
def State.atStill (s : State) : State := { s with shaft := { s.shaft with still := true } }

theorem State.stillNow_of_positioning (hst : s.shaft.state = .positioning) (hphase : s.shaft.phase = .braked) :
    s.stillNow = s.atStill.positionCheck := by
  simp only [State.stillNow, hst, hphase, if_true]
  rfl

theorem State.stillNow_of_fault (hst : s.shaft.state = .fault) : s.stillNow = s.atStill.faultStillNow := by
  simp only [State.stillNow, hst]
  rfl

theorem State.stillNow_of_braking (hst : s.shaft.state = .braking) : s.stillNow = s.atStill.enterOff := by
  simp only [State.stillNow, hst]
  rfl

theorem State.stillNow_of_rest (h : s.shaft.state = .off ∨ s.shaft.state = .held ∨ s.shaft.state = .offPosition ∨
    s.shaft.state = .turning ∨ (s.shaft.state = .positioning ∧ s.shaft.phase ≠ .braked)) : s.stillNow = s.atStill := by
  obtain h | h | h | h | ⟨h, hphase⟩ := h
  · simp only [State.stillNow, h]
    rfl
  · simp only [State.stillNow, h]
    rfl
  · simp only [State.stillNow, h]
    rfl
  · simp only [State.stillNow, h]
    rfl
  · simp only [State.stillNow, h, if_neg hphase]
    rfl

/-- R76: a faulted shaft has become still, its brake released. -/
def State.faultedStill (s : State) : State := { s with shaft := { s.shaft with still := true, faultStill := true } }

theorem State.stillNow_faulted (hst : s.shaft.state = .fault) : s.stillNow =
    if s.shaft.keptHold then s.faultedStill.enterPositioning
    else if s.shaft.toOff then s.faultedStill.enterOff else s.faultedStill :=
  State.stillNow_of_fault hst

theorem atTdc_iff (angle : Nat) : atTdc angle = true ↔ angle ≤ 8 ∨ 1016 ≤ angle := by
  simp [atTdc]

/-! ### Entries to OFF and to HELD (R50, R72, R74) -/

theorem State.enterOff_eq : s.enterOff = { s with
    shaft := { s.shaft with
      demand := 0, stall := none, state := .off, phase := .creep, cause := none, faultStill := false, toOff := false }
    gov := { s.gov with cPrev := 0 }
    outs := if s.outs.killUntilOff then { s.outs with kill := false, killUntilOff := false } else s.outs } := rfl

/-- R72, R50: the shaft has come to rest at TDC, and the pending set has come into force. -/
def State.atHeld (s : State) : State :=
  { s with
    shaft := { s.shaft with
      still := true, demand := 0, stall := none, state := .held, phase := .creep, keptHold := false, keptTurn := false }
    gov := { s.gov with
      active := if s.gov.pendingFlag then s.gov.pending else s.gov.active, pendingFlag := false, cPrev := 0 } }

theorem State.reachHeld_eq (hturn : s.shaft.keptTurn = false) : s.atStill.reachHeld =
    if s.player.recovering then s.atHeld.recovered else if s.player.positionAsked then s.atHeld.plannedHeld else s.atHeld := by
  have hgov : s.gov.force.rest = s.atHeld.gov := by
    rw [Governor.force_eq]
    rfl
  have hheld : ((s.atStill.modShaft fun h =>
      { h.noDemand with state := .held, phase := .creep, keptHold := false, keptTurn := false }).modGov fun g => g.force.rest) =
        s.atHeld := by
    show { s with shaft := s.atHeld.shaft, gov := s.gov.force.rest } = s.atHeld
    rw [hgov]
    rfl
  have hkept : s.atStill.shaft.keptTurn = false := hturn
  rw [State.reachHeld]
  simp only [hheld, hkept, Bool.false_eq_true, if_false]
  rfl

theorem State.positionCheck_of_tdc (hzone : s.shaft.angle ≤ 8 ∨ 1016 ≤ s.shaft.angle) :
    s.atStill.positionCheck = s.atStill.reachHeld := if_pos ((atTdc_iff _).2 hzone)

theorem State.positionCheck_of_off (hzone : ¬(s.shaft.angle ≤ 8 ∨ 1016 ≤ s.shaft.angle)) :
    s.atStill.positionCheck = if 2 ≤ s.shaft.retry then s.atStill.shaftFault .position else s.atStill.correction :=
  if_neg (fun h => hzone ((atTdc_iff _).1 h))

/-- R70, R75: a demand of S_stop keeps the stall timer where it was the demand, and else starts it anew. -/
theorem Shaft.setDemand_least (h : Shaft) (sStop : Nat) : h.setDemand sStop sStop = { h with
    demand := sStop
    stall := if h.demand = sStop ∧ h.stall.isSome = true then h.stall else some 100 } := by
  have hstall : (if sStop = h.demand ∧ h.stall.isSome = true then h.stall else some 100) =
      if h.demand = sStop ∧ h.stall.isSome = true then h.stall else some 100 :=
    if_congr (and_congr eq_comm Iff.rfl) rfl rfl
  rw [Shaft.setDemand, if_neg (Nat.lt_irrefl sStop), hstall]

theorem State.correction_eq : s.correction = { s with
    shaft := { s.shaft with
      demand := s.gov.active.motion.sStop
      stall := if s.shaft.demand = s.gov.active.motion.sStop ∧ s.shaft.stall.isSome = true then s.shaft.stall else some 100
      retry := s.shaft.retry + 1
      phase := if 1000 ≤ s.shaft.angle ∧ s.shaft.angle ≤ 1015 then .correct else .creep } } := by
  simp only [State.correction, State.modShaft, Shaft.setDemand_least]

/-! ### A report of a fault in a recovery (R41, R42, R44) -/

theorem State.reportFault_recovering {c : HaltCause} (hc : c ≠ .halt) (hi : s.player.state ≠ .idle) :
    (s.reportFault c).player.recovering = false := by
  obtain h | ⟨k, h⟩ | ⟨-, hh⟩ := s.player.state.idle_or_halted_or
  · exact absurd h hi
  · rw [State.reportFault_of_halted c h, State.haltAgain_player _ _ h hc]
  · rw [State.reportFault_enters hi hh, State.enterHalted_player]
    rfl

theorem State.reportFault_kill {c : HaltCause} (hk : c.kills = true) (hi : s.player.state ≠ .idle)
    (hr : s.player.recovering = true) : (s.reportFault c).outs.kill = true := by
  obtain h | ⟨k, h⟩ | ⟨-, hh⟩ := s.player.state.idle_or_halted_or
  · exact absurd h hi
  · rw [State.reportFault_of_halted c h, State.haltAgain]
    simp [hr, hk, Outputs.setKill]
  · rw [State.reportFault_enters hi hh]
    exact s.enterHalted_kill_of_kills c hk

/-- R75: an entry to POSITIONING with the drive not ready is a shaft fault. -/
theorem State.enterPositioning_unready (hready : s.shaft.driveReady = false) :
    ∃ u : State, u.player = s.player ∧ s.enterPositioning = u.shaftFault .drive := by
  unfold State.enterPositioning
  simp only []
  generalize hu : (if s.shaft.state = .held then _ else _ : State) = u
  have hparts : u.player = s.player ∧ u.shaft.driveReady = s.shaft.driveReady := by
    subst hu
    split <;> exact ⟨rfl, rfl⟩
  refine ⟨_, ?_, if_neg ?_⟩
  · simp [hparts.1]
  · simp [hparts.2, hready]

/-- R76, R44: a shaft fault in a recovery ends it, and the kill latch is set. -/
theorem State.shaftFault_recovery (c : ShaftCause) (hi : s.player.state ≠ .idle) :
    (s.shaftFault c).player.recovering = false ∧ (s.player.recovering = true → (s.shaftFault c).outs.kill = true) := by
  have hplayer : (s.struck c).player = s.player := by simp [State.struck]
  have hstruck : (s.struck c).player.state ≠ .idle := by rw [hplayer]; exact hi
  rw [State.shaftFault_of_not c (fun h => hi h.1)]
  exact ⟨State.reportFault_recovering nofun hstruck,
    fun hr => State.reportFault_kill rfl hstruck (by rw [hplayer]; exact hr)⟩

/-! ### The recovery that HELD ends (R44, R156) -/

/-- R28: the queue that the prefetcher fills anew depends on the player's state, its cursor and the armed design alone. -/
theorem State.newQueue_congr {s t : State} (hstate : s.player.state = t.player.state) (hcursor : s.player.cursor = t.player.cursor)
    (harmed : s.player.armed = t.player.armed) (hstore : s.store = t.store) (hset : s.gov.active = t.gov.active) :
    s.newQueue = t.newQueue := State.prefetchN_queue_congr 32 hstate hcursor rfl harmed hstore hset

/-- R28, R29: the queue filled anew from the cursor. -/
theorem State.refill_eq (s : State) : s.refill = { s with player := { s.player with queue := s.newQueue } } := by
  obtain ⟨q, hq⟩ := (s.modPlayer fun p => { p with queue := [] }).prefetch_queue
  have hqueue : s.newQueue = q := congrArg (fun t : State => t.player.queue) hq
  rw [State.refill, hq, hqueue]
  rfl

/-- R44: the state in which a recovery has completed. -/
def State.recoveredNow (s : State) : State :=
  { s with player := { s.player with
    recovering := false, cursor := s.player.interrupted.getD s.player.cursor, interrupted := none } }

theorem State.recovered_eq (s : State) : s.recovered =
    ((if s.player.mode = .repair then s.recoveredNow.leavePass else s.recoveredNow).enterPaused .recovered).refill := rfl

theorem State.leavePass_eq (s : State) : ∃ u : State, s.HeadsLeft u s.activeHeads ∧
    s.leavePass = s.passLeft u.heads.table u.heads.repairs u.thread.monitors s.player.queue := by
  obtain ⟨u, hu, hleft⟩ := s.leavePass_headsLeft
  refine ⟨u, hu, hleft.trans ?_⟩
  obtain ⟨table, repairs, monitors, rfl⟩ := hu.rest
  rfl

/-- R37: an entry to PAUSED of a player that waits for nothing and whose frame is at rest. -/
theorem State.enterPaused_of_done {r : PauseReason} (he : s.player.errand = .none) (howner : s.frame.owner = .player)
    (hmove : s.frame.move = none) (hsewing : s.gov.move = none) : s.enterPaused r = { s with
      player := { s.player with
        state := .paused r, stopReason := none, stopIndex := none, soonStop := false, positionAsked := false
        entryTrim := .none }
      frame := { s.frame with lent := true } }.latch .playerState (6 :: b1 r.code ++ b4 s.player.cursor) := by
  rw [State.enterPaused_of_still howner hmove hsewing, ← he]

/-- R37, R40: an entry to FINISHED of a player that waits for nothing and whose frame is at rest. -/
theorem State.enterFinished_of_done (he : s.player.errand = .none) (howner : s.frame.owner = .player)
    (hmove : s.frame.move = none) (hsewing : s.gov.move = none) : s.enterFinished = { s with
      player := { s.player with
        state := .finished, stopReason := none, stopIndex := none, soonStop := false, positionAsked := false
        entryTrim := .none, queue := [] }
      frame := { s.frame with lent := true } }.latch .playerState (8 :: 0xFF :: b4 s.player.cursor) := by
  rw [State.enterFinished_of_still howner hmove hsewing, ← he]

end

end Sys2Proof.Machine
end

section
/-! PROOF. HELD at the end of a planned stop: its cases, and the pass that ends (R37, R148, R155; O58, second part). -/

namespace Sys2Proof.Machine

section
variable {s : State}

/-! ### The cases of R37 -/

/-- R37: the stop has come to rest: what it asked of the shaft unit is done. -/
def State.reached (s : State) : State := { s with player := { s.player with positionAsked := false } }

theorem State.plannedHeld_design (hr : s.player.stopReason = some .design) : s.plannedHeld = s.reached.enterHalted .design := by
  have hr' : s.reached.player.stopReason = some .design := hr
  have htrim : s.reached.entryTrimHeld = s.reached.enterHalted .design := by
    simp only [State.entryTrimHeld, hr']
  show (if s.reached.player.entryTrim = .ending then s.reached.entryTrimHeld
    else if s.reached.player.stopReason = some .design then s.reached.enterHalted .design else _) = _
  rw [htrim, if_pos hr', ite_self]

theorem State.plannedHeld_trim (ht : s.player.entryTrim = .ending) : s.plannedHeld = s.reached.entryTrimHeld := if_pos ht

/-- R37: after DESIGN and the entry trim, the end of a REPAIR pass, the beginning of one, then the record at the queue head. -/
theorem State.plannedHeld_of_not (ht : s.player.entryTrim ≠ .ending) (hr : s.player.stopReason ≠ some .design) : s.plannedHeld =
    if s.player.mode = .repair ∧ s.player.cursor = s.player.resume then s.reached.passEnd
    else if s.player.stopReason = some .repair then s.reached.passBegin (.paused .hostStop)
    else
      match s.player.queue.head? with
      | some e =>
          if e.kind = .stop then (s.reached.takeStop e).refill
          else if e.kind = .endRec then s.reached.enterFinished
          else
            match s.player.stopReason with
            | some r => (s.reached.enterPaused (s.reached.pauseReason r)).refill
            | none => s.reached.refill.enterStarved
      | none =>
          match s.player.stopReason with
          | some r => (s.reached.enterPaused (s.reached.pauseReason r)).refill
          | none => s.reached.refill.enterStarved := by
  rw [State.plannedHeld]
  exact (if_neg ht).trans (if_neg hr)

/-- R37: the stop has come to rest before a record that is sewn. -/
theorem State.plannedHeld_ahead (ht : s.player.entryTrim ≠ .ending) (hr : s.player.stopReason ≠ some .design)
    (hends : ¬(s.player.mode = .repair ∧ s.player.cursor = s.player.resume)) (hrepair : s.player.stopReason ≠ some .repair)
    (hahead : ∀ e : QueueEntry, s.player.queue.head? = some e → e.kind ≠ .stop ∧ e.kind ≠ .endRec) :
    (∀ r : StopReason, s.player.stopReason = some r → s.plannedHeld = (s.reached.enterPaused (s.reached.pauseReason r)).refill) ∧
      (s.player.stopReason = none → s.plannedHeld = s.reached.refill.enterStarved) := by
  have hnot := State.plannedHeld_of_not ht hr
  rw [if_neg hends, if_neg hrepair] at hnot
  cases hq : s.player.queue.head? with
  | none =>
    refine ⟨fun r h => ?_, fun h => ?_⟩
    · simpa only [hq, h] using hnot
    · simpa only [hq, h] using hnot
  | some e =>
    obtain ⟨hstop, hend⟩ := hahead e hq
    refine ⟨fun r h => ?_, fun h => ?_⟩
    · simpa only [hq, h, if_neg hstop, if_neg hend] using hnot
    · simpa only [hq, h, if_neg hstop, if_neg hend] using hnot

theorem State.plannedHeld_record (ht : s.player.entryTrim ≠ .ending) (hr : s.player.stopReason ≠ some .design)
    (hends : ¬(s.player.mode = .repair ∧ s.player.cursor = s.player.resume)) (hrepair : s.player.stopReason ≠ some .repair)
    {e : QueueEntry} {rest : List QueueEntry} (hq : s.player.queue = e :: rest) :
    (e.kind = .stop → s.plannedHeld = (s.reached.takeStop e).refill) ∧ (e.kind = .endRec → s.plannedHeld = s.reached.enterFinished) := by
  have hnot := State.plannedHeld_of_not ht hr
  have hhead : s.player.queue.head? = some e := by rw [hq]; rfl
  rw [if_neg hends, if_neg hrepair] at hnot
  simp only [hhead] at hnot
  refine ⟨fun h => hnot.trans (if_pos h), fun h => hnot.trans ?_⟩
  rw [if_neg (by simp [h]), if_pos h]

theorem State.plannedHeld_ends (ht : s.player.entryTrim ≠ .ending) (hr : s.player.stopReason ≠ some .design)
    (hends : s.player.mode = .repair ∧ s.player.cursor = s.player.resume) : s.plannedHeld = s.reached.passEnd := by
  rw [State.plannedHeld_of_not ht hr, if_pos hends]

theorem State.plannedHeld_repair (ht : s.player.entryTrim ≠ .ending)
    (hends : ¬(s.player.mode = .repair ∧ s.player.cursor = s.player.resume)) (hrepair : s.player.stopReason = some .repair) :
    s.plannedHeld = s.reached.passBegin (.paused .hostStop) := by
  rw [State.plannedHeld_of_not ht (by rw [hrepair]; exact nofun), if_neg hends, if_pos hrepair]

/-! ### The end of a REPAIR pass (R155) -/

/-- R17: a repair-referenced pin changes no record. -/
theorem State.recordOf_pinRepairs (s : State) (i : Nat) : s.pinRepairs.recordOf i = s.recordOf i := by
  cases harmed : s.player.armed with
  | none => simp [State.pinRepairs, harmed]
  | some n =>
    have hfind := Store.find_modDesign s.store n (fun d => { d with repairPin := s.heads.repairs.any fun r => r.design == n })
      (fun d hd => hd)
    have harmedDesign : s.pinRepairs.armedDesign =
        s.armedDesign.map fun d => { d with repairPin := s.heads.repairs.any fun r => r.design == n } := by
      simp only [State.armedDesign, State.pinRepairs, harmed, State.modStore_player, State.modStore_store, Option.bind_some]
      exact hfind
    rw [State.recordOf, harmedDesign, State.recordOf]
    cases s.armedDesign with
    | none => rfl
    | some d =>
      simp only [Option.map_some, State.pinRepairs, harmed]
      rfl

/-- R155: a head as its pass ends. -/
def Head.ended (d : Head) : Head :=
  if d.role = .active then { d with condition := .ok, role := .none, start := none } else { d with role := .none, start := none }

/-- R155: the records that stay as a pass ends. -/
def Heads.endedRepairs (hs : Heads) : List RepairRecord :=
  hs.repairs.filter fun q => (hs.table[q.head - 1]?.map Head.role) != some Role.active

/-- R155: the state of a pass at its end: the ACTIVE heads OK, their records gone, the armed design's pin by what stays. -/
def State.passEnded (s : State) : State :=
  { s with
    heads := { s.heads with
      table := s.heads.table.map Head.ended, repairs := s.heads.endedRepairs, selection := none, passEnd := none, passStart := none }
    store := { s.store with
      dir := s.store.dir.map fun (o : Option Design) => o.map fun (x : Design) =>
        if s.player.armed = some x.number then { x with repairPin := s.heads.endedRepairs.any fun q => q.design == x.number }
        else x } }

/-- R155: the mask of the ACTIVE heads. -/
def Heads.actives (hs : Heads) : Nat := hs.mask fun d => d.role == .active

theorem Heads.actives_testBit (hs : Heads) (i : Nat) :
    hs.actives.testBit i = true ↔ ∃ d : Head, hs.table[i]? = some d ∧ d.role = .active := by
  rw [Heads.actives, Heads.mask, maskOf_testBit, List.getD_eq_getElem?_getD, List.getElem?_map]
  cases hs.table[i]? with
  | none => simp
  | some d => simp

theorem State.passEnded_eq (s : State) :
    (s.removeRecords fun n => maskHas s.heads.actives (n - 1)).modHeads (fun hs => hs.abandonEntry) = s.passEnded := by
  have hrepairs : removeRepairs (fun n => maskHas s.heads.actives (n - 1)) s.heads.repairs = s.heads.endedRepairs := by
    refine List.filter_congr fun q _ => ?_
    show (!s.heads.actives.testBit (q.head - 1)) = _
    rw [Bool.eq_iff_iff, Bool.not_eq_true', ← Bool.not_eq_true, Heads.actives_testBit]
    cases s.heads.table[q.head - 1]? with
    | none => simp
    | some d => simp
  have htable : (mapFrom 1 (fun n h => if maskHas s.heads.actives (n - 1) && (h.condition != .ok) then
      { h with condition := .ok, role := .none, start := none } else h) s.heads.table).map
        (fun h => { h with role := .none, start := none }) = s.heads.table.map Head.ended := by
    refine List.ext_getElem? fun i => ?_
    rw [List.getElem?_map, List.getElem?_map, mapFrom_getElem?]
    cases hd : s.heads.table[i]? with
    | none => rfl
    | some d =>
      have hbit : maskHas s.heads.actives (1 + i - 1) = (d.role == .active) := by
        rw [Bool.eq_iff_iff, maskHas, Nat.add_sub_cancel_left, Heads.actives_testBit, hd]
        simp
      simp only [Option.map_some, hbit, Head.ended]
      by_cases hrole : d.role = .active
      · by_cases hok : d.condition = .ok
        · simp [hrole, hok]
        · simp [hrole, hok]
      · simp [hrole]
  have hpin (x : Design) : decide (∃ r ∈ s.heads.endedRepairs, r.design = x.number) =
      s.heads.endedRepairs.any fun q => q.design == x.number := by
    rw [Bool.eq_iff_iff]
    simp
  rw [State.removeRecords_eq, hrepairs]
  simp only [hpin, State.modHeads, Heads.abandonEntry, htable, State.passEnded]

/-- R155: the state that a pass's end leaves before the player rests, REPAIR_DONE latched and the queue filled anew. -/
def State.passFilled (s : State) : State :=
  ({ s.passEnded.latch .repairDone (b2 s.heads.actives ++ b4 s.player.resume) with
    player := { s.player.clearStop with mode := .normal } } : State).refill

theorem State.passFilled_recordOf (s : State) (i : Nat) : s.passFilled.recordOf i = s.recordOf i := by
  have hpin := State.recordOf_pinRepairs (s.modHeads fun hs => { hs with
    repairs := removeRepairs (fun n => maskHas s.heads.actives (n - 1)) hs.repairs
    table := mapFrom 1 (fun n h =>
      if maskHas s.heads.actives (n - 1) && (h.condition != .ok) then { h with condition := .ok, role := .none, start := none }
      else h) hs.table }) i
  have hstore : s.passFilled.store = (s.removeRecords fun n => maskHas s.heads.actives (n - 1)).store := by
    have hended := congrArg State.store s.passEnded_eq
    rw [State.passFilled]
    simp only [State.refill_keeps, State.latch_keeps]
    exact hended.symm
  have harmed : s.passFilled.player.armed = s.player.armed := by
    rw [State.passFilled, State.refill_eq]
    rfl
  have hsame : s.passFilled.recordOf i = (s.removeRecords fun n => maskHas s.heads.actives (n - 1)).recordOf i := by
    have harmed' : (s.removeRecords fun n => maskHas s.heads.actives (n - 1)).player.armed = s.player.armed := by
      rw [State.removeRecords_eq]
    simp only [State.recordOf, State.armedDesign, hstore, harmed, harmed']
  exact hsame.trans hpin

/-- R155: where the player rests once its pass has ended. -/
def State.restsAtEnd (s : State) (h : Nat) : State :=
  if ((s.recordOf h).map Record.kind) = some .endRec then s.enterFinished
  else
    match s.player.saved with
    | .paused r => s.enterPaused r
    | .finished => s.enterFinished

theorem State.passEnd_eq (s : State) : s.passEnd = s.passFilled.restsAtEnd s.player.resume := by
  have hfilled : (((s.passEnded.latch .repairDone (b2 s.heads.actives ++ b4 s.player.resume)).modPlayer
      fun p => { p.clearStop with mode := .normal })).refill = s.passFilled := by
    rw [State.passFilled]
    simp only [State.modPlayer, State.latch_keeps]
    rfl
  have hend : s.passEnd = (((((s.removeRecords fun n => maskHas s.heads.actives (n - 1)).modHeads fun hs => hs.abandonEntry).latch
      .repairDone (b2 s.heads.actives ++ b4 s.player.resume)).modPlayer
        fun p => { p.clearStop with mode := .normal })).refill.restsAtEnd s.player.resume := rfl
  rw [hend, s.passEnded_eq, hfilled]

/-- R155: a pass that ended at the record of the END, or that began in FINISHED, leaves the player FINISHED; else it is paused
for the reason saved. -/
theorem State.passEnd_rests :
    (((∃ q : Record, s.recordOf s.player.resume = some q ∧ q.kind = .endRec) ∨ s.player.saved = .finished) →
      s.passEnd = s.passFilled.enterFinished) ∧
    (∀ why : PauseReason, (¬∃ q : Record, s.recordOf s.player.resume = some q ∧ q.kind = .endRec) → s.player.saved = .paused why →
      s.passEnd = s.passFilled.enterPaused why) := by
  have hsaved : s.passFilled.player.saved = s.player.saved := by
    rw [State.passFilled, State.refill_eq]
    rfl
  have hkind : ((s.passFilled.recordOf s.player.resume).map Record.kind) = some .endRec ↔
      ∃ q : Record, s.recordOf s.player.resume = some q ∧ q.kind = .endRec := by
    rw [State.passFilled_recordOf, Option.map_eq_some_iff]
  rw [State.passEnd_eq, State.restsAtEnd, hsaved]
  refine ⟨fun h => ?_, fun why hnot hpaused => ?_⟩
  · by_cases hend : ((s.passFilled.recordOf s.player.resume).map Record.kind) = some .endRec
    · rw [if_pos hend]
    · rw [if_neg hend, h.resolve_left (fun hq => hend (hkind.2 hq))]
  · rw [if_neg (fun hend => hnot (hkind.1 hend)), hpaused]

end

end Sys2Proof.Machine
end

section
/-! PROOF. HELD at the end of a planned stop: the queue filled anew, STARVED and its exit, the entry trim (R29, R37, R39, R148;
O58, second part). -/

namespace Sys2Proof.Machine

section
variable {s : State}

/-- R29: filling the queue anew forgets what the prefetcher had put there. -/
theorem State.prefetch_refill (s : State) : s.prefetch.refill = s.refill := by
  obtain ⟨q, hq⟩ := s.prefetch_queue
  rw [hq, State.refill, State.refill]
  rfl

/-- R39: a player that stays in STARVED, or leaves it as it enters. -/
theorem State.enterStarved_of_enough {d : Design} (hd : s.armedDesign = some d)
    (h : s.player.cursor + 16 ≤ d.stored ∨ d.stored = d.declared) : s.enterStarved = ({ s with
      player := { s.player with
        state := .starved, stopReason := none, stopIndex := none, soonStop := false, positionAsked := false
        errand := .none, entryTrim := .none, starvedMark := s.player.cursor } }.latch .playerState
          (7 :: 0xFF :: b4 s.player.cursor)).exitStarved := by
  obtain ⟨u, hu⟩ : ∃ u : State, u = { s with
      player := { s.player with
        state := .starved, stopReason := none, stopIndex := none, soonStop := false, positionAsked := false
        errand := .none, entryTrim := .none, starvedMark := s.player.cursor } }.latch .playerState
          (7 :: 0xFF :: b4 s.player.cursor) := ⟨_, rfl⟩
  have hmarked : u.player.starvedMark = s.player.cursor := by simp [hu]
  have harmed : u.armedDesign = s.armedDesign := by simp [hu, State.armedDesign]
  have hmet : u.starvedMet = true := by
    rw [State.starvedMet_eq (harmed.trans hd), hmarked]
    exact h
  have hentered : (((s.modPlayer fun p => { p.clearStop with state := .starved, starvedMark := p.cursor }).reportPlayer)) = u := by
    rw [hu]
    rfl
  rw [State.enterStarved]
  simp only [hentered]
  rw [if_pos hmet, hu]

/-- R152, R154: the reason with which a stop that has come to rest pauses the player. -/
theorem State.pauseReason_eq (r : StopReason) : s.pauseReason r =
    if s.player.mode = .repair ∧ s.heads.inPass = false then .passEmpty else r.pause := by
  rw [State.pauseReason]
  exact if_congr (by rw [Bool.not_eq_true']) rfl rfl

theorem Heads.inPass_eq_false (hs : Heads) : hs.inPass = false ↔ ∀ d ∈ hs.table, d.role = Role.none := none_inPass_iff _

/-- R149: the pass proper begins from its lowest start point. -/
theorem State.passProper_eq {p0 : Nat} (h : s.heads.passStart = some p0) : s.passProper = (State.refill { s with
    heads := { s.heads with leftPass := false }
    player := { s.player.clearStop with
      state := .returning, mode := .repair, cursor := p0, displaced := true, errand := .returnWait .pass } }).holdRequest := by
  have hentered : (s.modPlayer fun p =>
      { p.clearStop with
        state := .returning, mode := .repair, cursor := s.heads.passStart.getD 0, displaced := true
        errand := .returnWait .pass }).modHeads (fun hs => { hs with leftPass := false }) = { s with
          heads := { s.heads with leftPass := false }
          player := { s.player.clearStop with
            state := .returning, mode := .repair, cursor := p0, displaced := true, errand := .returnWait .pass } } := by
    rw [h]
    rfl
  rw [← hentered]
  rfl

/-- R148: a reason taken during the entry trim abandons the entry. -/
theorem State.entryTrimHeld_of_reason {r : StopReason} (hr : s.player.stopReason = some r) (hne : r ≠ .design) :
    s.entryTrimHeld = ((s.modHeads Heads.abandonEntry).enterPaused r.pause).refill := by
  unfold State.entryTrimHeld
  split
  · rename_i hd
    exact absurd (Option.some.inj (hr.symm.trans hd)) hne
  · rename_i r' _ hr'
    rw [Option.some.inj (hr.symm.trans hr')]
  · rename_i hn
    exact absurd (hr.symm.trans hn) nofun

end

end Sys2Proof.Machine
end

section
/-! PROOF. The stall timer, the still shaft, and HELD at the end of a planned stop and of a recovery (O58). -/

namespace Sys2Proof.Machine

/-- Settles O58: the stall timer and the stillness by the shaft's state; at TDC the shaft is HELD, where `State.reachHeld_eq` hands
over to a recovery or to the cases of R37, each by its own lemma. -/
theorem stillShaftIsHeldOrCorrected : Obligations.StillShaftIsHeldOrCorrected := by
  refine ⟨fun s hheld hq hk he => ?first, fun s hheld hq hk he hst hphase hzone hturn hrec hasked howner hmove hsew => ?planned⟩
  case planned =>
    intro answer reason rested held lent noPass rests named ends none_ahead
    have hnow : s.stillNow = s.atHeld.plannedHeld := by
      rw [State.stillNow_of_positioning hst hphase, State.positionCheck_of_tdc hzone, State.reachHeld_eq hturn,
        if_neg (by simp [hrec]), if_pos hasked]
    have hsettles {b : State} (hb : s.atHeld.plannedHeld = b) : answer = .next b.settle := by
      dsimp only [answer]
      rw [exec_shaftStill hheld, hnow, hb]
    have hstays {b : State} (hb : s.atHeld.plannedHeld = b) (hnc : b.nc = s.nc) (hbe : b.player.errand = .none) :
        answer = .next b := by
      rw [hsettles hb, State.settle_of_quiet _ (State.quiet_of_no_kept (by rw [hnc]; exact hk) hbe)]
    have hreached : s.atHeld.reached = held := rfl
    have hinPass : s.heads.inPass = false ↔ noPass := Heads.inPass_eq_false s.heads
    have hempty (x : PauseReason) : (if held.player.mode = .repair ∧ held.heads.inPass = false then .passEmpty else x) =
        if s.player.mode = .repair ∧ noPass then PauseReason.passEmpty else x :=
      if_congr (and_congr Iff.rfl hinPass) rfl rfl
    have hnames (r : StopReason) (h : named r ≠ none) : named r = rests r.pause := by
      cases r with
      | design => exact absurd rfl h
      | repair => exact absurd rfl h
      | _ => rfl
    refine ⟨fun hr => ?halts, fun htrim hr => ⟨fun mask hends hmask => ?ends, fun hends hrep d p0 hd => ?begins,
      fun e rest hends hrep hq => ⟨fun hkind => ?stop, fun hkind => ?endRec⟩, fun r why hends hahead hrr hnamed => ?pauses,
      fun hends hahead hrr => ?starves⟩, fun htrim hr => ⟨fun p0 hrr hp0 => ?proper, fun r why hrr hnamed hmode => ?abandons⟩⟩
    case halts =>
      have hb := State.plannedHeld_design (s := s.atHeld) hr
      rw [hreached] at hb
      have hnc : (held.enterHalted .design).nc.kept = none := by rw [State.enterHalted_nc]; rfl
      have hplayer := held.enterHalted_player .design
      refine ⟨held.enterHalted .design, ?_, by rw [hplayer]; rfl, by rw [hplayer]; rfl, by rw [hplayer]; rfl, by rw [hplayer]; rfl, by rw [hplayer]; rfl,
        by rw [hplayer]; rfl, ?_, State.enterHalted_frame_of_still .design howner hmove hsew, (show (held.enterHalted .design).store = held.store by simp),
        State.Latches.enterHalted_latched _ _⟩
      · rw [hsettles hb, State.settle_of_quiet _ (State.quiet_of_no_kept hnc (by rw [hplayer]; rfl))]
      · rw [State.enterHalted_shaft_state]
        rfl
    case stop =>
      have hb := (State.plannedHeld_record (s := s.atHeld) (by rw [show s.atHeld.player.entryTrim = .none from htrim]; exact nofun)
        hr hends hrep hq).1 hkind
      rw [hreached, State.takeStop_eq, State.prefetch_refill] at hb
      rw [hsettles hb]
      refine congrArg (fun t : State => Host.Outcome.next t.settle) ?_
      exact congrArg State.prefetch (by rfl)
    case endRec =>
      have hb := (State.plannedHeld_record (s := s.atHeld) (by rw [show s.atHeld.player.entryTrim = .none from htrim]; exact nofun)
        hr hends hrep hq).2 hkind
      rw [hreached, State.enterFinished_of_done (s := held) he howner hmove hsew] at hb
      exact hstays hb (by simp [held]) (by simp [held, rested, he])
    case pauses =>
      have hne : r ≠ .repair := by
        rintro rfl
        cases hnamed
      have hb := (State.plannedHeld_ahead (s := s.atHeld) (by rw [show s.atHeld.player.entryTrim = .none from htrim]; exact nofun)
        hr hends (by rw [show s.atHeld.player.stopReason = some r from hrr]; simpa using hne) hahead).1 r hrr
      have hwhy : held.pauseReason r = why := by
        rw [State.pauseReason_eq, hempty]
        exact Option.some.inj ((hnames r (by rw [hnamed]; exact nofun)).symm.trans hnamed)
      rw [hreached, hwhy, State.enterPaused_of_done (s := held) he howner hmove hsew] at hb
      exact hstays hb (by simp [held]) (by rw [State.refill_eq]; simp [held, rested, he])
    case starves =>
      intro enough starved told
      have hb := (State.plannedHeld_ahead (s := s.atHeld) (by rw [show s.atHeld.player.entryTrim = .none from htrim]; exact nofun)
        hr hends (by rw [show s.atHeld.player.stopReason = none from hrr]; exact nofun) hahead).2 hrr
      have hrefill : held.refill = { held with player := { held.player with queue := held.refill.player.queue } } := by
        rw [State.refill_eq]
      have htold : told = { held with
          player := { held.player with
            queue := held.refill.player.queue, state := .starved, stopReason := none, stopIndex := none, soonStop := false
            positionAsked := false, errand := .none, entryTrim := .none
            starvedMark := s.player.cursor } }.latch .playerState (7 :: 0xFF :: b4 s.player.cursor) := by
        rw [← he]
      rw [hreached, hrefill] at hb
      refine ⟨fun hdry => ?_, fun ⟨d, hd, hstored⟩ hready => ?_⟩
      · rw [State.enterStarved_of_dry fun d hd => ?_] at hb
        · rw [htold]
          exact hstays hb (by simp [held]) (by simp)
        · have hno : ¬(s.player.cursor + 16 ≤ d.stored ∨ d.stored = d.declared) := fun h => hdry ⟨d, hd, h⟩
          exact ⟨Nat.lt_of_not_le fun h => hno (Or.inl h), fun h => hno (Or.inr h)⟩
      · have htells : told.player = starved ∧ told.shaft = held.shaft ∧ told.gov = held.gov ∧ told.frame = s.frame ∧
            told.outs = s.outs := by
          simp only [told, State.latch_keeps]
          exact ⟨trivial, trivial, trivial, rfl, rfl⟩
        obtain ⟨hplayer, hshaft, hgov, hframe, houts⟩ := htells
        have hturned := hb.trans (State.enterStarved_of_enough (d := d) hd hstored)
        have hexit := State.exitStarved_of_held (s := told) (by rw [hshaft]) (by rw [hshaft]; exact hready)
          (by rw [hframe, howner]; exact nofun)
        rw [htold] at hexit
        rw [hexit, ← htold] at hturned
        have hanswer := hsettles hturned
        rw [State.settle_of_quiet _ (State.quiet_of_not_held (by exact nofun) (by rw [hplayer]; exact he))] at hanswer
        exact ⟨_, hanswer, by rw [hplayer], rfl, by rw [hgov]; rfl, rfl, by rw [houts], hgov, hframe, rfl⟩
    case proper =>
      have hb := State.plannedHeld_trim (s := s.atHeld) htrim
      have htrimmed : held.entryTrimHeld = held.passProper := by
        have hrr' : held.player.stopReason = none := hrr
        simp only [State.entryTrimHeld, hrr']
      rw [hreached, htrimmed, State.passProper_eq (s := held) hp0] at hb
      rw [hsettles hb]
      refine congrArg (fun t : State => Host.Outcome.next t.settle) ?_
      refine congrArg State.holdRequest ?_
      exact congrArg State.prefetch (by rfl)
    case abandons =>
      have hne : r ≠ .design := by
        rintro rfl
        cases hnamed
      have hb := State.plannedHeld_trim (s := s.atHeld) htrim
      have hwhy : r.pause = why := by
        have hnot : ¬(s.player.mode = .repair ∧ noPass) := fun h => nomatch hmode.symm.trans h.1
        have hrests := (hnames r (by rw [hnamed]; exact nofun)).symm.trans hnamed
        exact (if_neg hnot).symm.trans (Option.some.inj hrests)
      rw [hreached, State.entryTrimHeld_of_reason (s := held) hrr hne, hwhy,
        State.enterPaused_of_done (s := held.modHeads Heads.abandonEntry) he howner hmove hsew] at hb
      exact hstays hb (by simp [held]) (by rw [State.refill_eq]; simp [held, rested, he])
    case ends =>
      intro repairs ended filled atEnd
      have hb := State.plannedHeld_ends (s := s.atHeld) (by rw [show s.atHeld.player.entryTrim = .none from htrim]; exact nofun) hr hends
      have hactives : s.heads.actives = mask :=
        Nat.eq_of_testBit_eq fun i => Bool.eq_iff_iff.2 ((Heads.actives_testBit _ i).trans (hmask i).symm)
      have hfilled : filled = held.passFilled := by
        have hstate : { ended.latch .repairDone (b2 mask ++ b4 s.player.resume) with player := { rested with mode := .normal } } =
            { held.passEnded.latch .repairDone (b2 held.heads.actives ++ b4 held.player.resume) with
              player := { held.player.clearStop with mode := .normal } } := by
          have hplayer : { rested with mode := .normal } = { held.player.clearStop with mode := .normal } := by
            dsimp only [rested]
            rw [he]
            rfl
          rw [hplayer, ← hactives]
          rfl
        exact congrArg State.refill hstate
      have hplayer : held.passFilled.player = { rested with mode := .normal, queue := held.passFilled.player.queue } := by
        rw [State.passFilled, State.refill_eq]
        dsimp only [rested]
        rw [he]
        rfl
      have herrand : held.passFilled.player.errand = .none := by
        rw [hplayer]
        exact he
      have hframe : held.passFilled.frame = s.frame := by
        rw [State.passFilled]
        simp only [State.refill_keeps, State.latch_keeps]
        rfl
      have hmove' : held.passFilled.gov.move = none := by
        rw [State.passFilled]
        simp only [State.refill_keeps, State.latch_keeps]
        exact hsew
      have hnc : held.passFilled.nc = s.nc := by
        rw [State.passFilled]
        simp only [State.refill_keeps, State.latch_keeps]
        rfl
      obtain ⟨hfin, hpaused⟩ := State.passEnd_rests (s := held)
      rw [hreached] at hb
      refine ⟨fun h => ?_, fun why hnot hsaved => ?_⟩
      · have hrests := hb.trans (hfin h)
        rw [State.enterFinished_of_done herrand (by rw [hframe]; exact howner) (by rw [hframe]; exact hmove) hmove', hframe, hplayer]
          at hrests
        rw [hfilled]
        exact hstays hrests (by simp [hnc]) (by simp [rested, he])
      · have hrests := hb.trans (hpaused why hnot hsaved)
        rw [State.enterPaused_of_done herrand (by rw [hframe]; exact howner) (by rw [hframe]; exact hmove) hmove', hframe, hplayer]
          at hrests
        rw [hfilled, hplayer]
        exact hstays hrests (by simp [hnc]) (by simp [rested, he])
    case begins =>
      intro mask selected start hEnd heads player trimDue hmem hle
      have hb := State.plannedHeld_repair (s := s.atHeld) (by rw [show s.atHeld.player.entryTrim = .none from htrim]; exact nofun)
        hends hrep
      have hselected : s.heads.selected mask = selected := s.heads.selected_eq mask
      have hprepared : held.passPrepared mask hEnd p0 start = heads := by
        have hsame : held.heads.selected mask = selected := hselected
        rw [State.passPrepared, hsame] <;> rfl
      obtain ⟨hdue, hnot⟩ := State.passBegin_eq (s := held) (mask := mask) (p0 := p0) (hEnd := hEnd) (d := d) (.paused .hostStop) start
        rfl hd (fun r => rfl) rfl (by rw [show held.heads.selected mask = selected from hselected]; exact hmem)
        (by rw [show held.heads.selected mask = selected from hselected]; exact hle)
      rw [hprepared] at hdue hnot
      rw [hreached] at hb
      have htrimDue : held.heads.trimDue = true ↔ trimDue := by
        rw [Heads.trimDue, Bool.and_eq_true, Bool.or_eq_true, beq_iff_eq, beq_iff_eq]
      refine ⟨fun h => ?_, fun h => ?_⟩
      · rw [hsettles (hb.trans (hdue (htrimDue.2 h)))]
        have hplayer : { held.player.clearStop with
            resume := hEnd, saved := .paused .hostStop, state := .stopping, entryTrim := .asked } =
              { player with state := .stopping, entryTrim := .asked } := by
          dsimp only [player, rested]
          rw [he]
          rfl
        rw [hplayer]
      · rw [hsettles (hb.trans (hnot (Bool.eq_false_iff.2 fun hh => h (htrimDue.1 hh))))]
        refine congrArg (fun t : State => Host.Outcome.next t.settle) ?_
        refine congrArg State.holdRequest ?_
        exact congrArg State.prefetch (by rfl)
  case first =>
    intro zone still atRest gov sStop
    have hsettled {b : State} (hb : s.stillNow = b) (hbq : b.quiet = true) : exec .shaftStill s = .next b := by
      rw [exec_shaftStill hheld, hb, State.settle_of_quiet _ hbq]
    have hcalm (shaft : Shaft) (g : Governor) (outs : Outputs) :
        ({ s with shaft := shaft, gov := g, outs := outs } : State).quiet = true := State.quiet_of_no_kept hk he
    have hfault (t : State) (c : ShaftCause) (hplayer : t.player = s.player) :
        (t.shaftFault c).quiet = true ∧ (t.shaftFault c).ev.flags &&& Event.shaftFault.bit ≠ 0 ∧ (t.shaftFault c).gov.move = none ∧
          (t.shaftFault c).shaft.demand = 0 ∧
          (s.player.state ≠ .idle → (t.shaftFault c).shaft.state = .fault ∧ (t.shaftFault c).shaft.cause = some c) := by
      obtain ⟨-, -, -, -, -, hmove, -, -, -, hdemand, -⟩ := State.shaftFault_parts (s := t) c
      refine ⟨State.shaftFault_quiet c (Or.inl (by rw [hplayer]; exact he)), State.shaftFault_latched c, hmove, hdemand, fun hi => ?_⟩
      exact State.shaftFault_fault c (fun h => hi (by rw [← hplayer]; exact h.1))
    refine ⟨fun h => ?none, fun hrun hst => ?stall, fun h => ?rest, fun hst hphase => ⟨fun hz hr ha ht => ?held, fun hz hr => ?correct,
      fun hz hr => ?fails, fun hz hr ht hm howner hmove hsew => ?recovers, fun hz hr ht hm howner hmove hsew => ?leaves⟩, fun h => ?braking,
      fun h hkeep => ⟨fun hoff => ?stays, fun hoff => ?off⟩, fun h hkeep howner => ⟨fun hready => ?positions, fun hready hi => ?unready⟩⟩
    case none =>
      have hst : s.stalled = s := if_pos (by simp [h])
      rw [exec_stallTimeout hheld, hst, State.settle_of_quiet _ hq]
    case stall =>
      have hplayer : (s.heldSteps 100000).player = s.player := (s.heldSteps_keeps 100000).1
      have hstall : ∃ u : State, u.player = s.player ∧ s.stalled = u.shaftFault .stall := by
        have hnot : ¬s.shaft.stall.isNone = true := by simpa using Option.isSome_iff_ne_none.1 hrun
        obtain h | h := hst
        · refine ⟨_, hplayer, ?_⟩
          rw [State.stalled, if_neg hnot]
          simp only [h]
        · refine ⟨s, rfl, ?_⟩
          rw [State.stalled, if_neg hnot]
          simp only [h]
      obtain ⟨u, hu, hst⟩ := hstall
      obtain ⟨hquiet, hev, hm, hd, hf⟩ := hfault u .stall hu
      refine ⟨_, ?_, hev, hd, hm, hf⟩
      rw [exec_stallTimeout hheld, hst, State.settle_of_quiet _ hquiet]
    case rest => exact hsettled (State.stillNow_of_rest h) (hcalm _ _ _)
    case held =>
      refine hsettled ?_ (hcalm _ _ _)
      rw [State.stillNow_of_positioning hst hphase, State.positionCheck_of_tdc hz, State.reachHeld_eq ht, if_neg (by simp [hr]),
        if_neg (by simp [ha])]
      rfl
    case correct =>
      refine hsettled ?_ (hcalm _ _ _)
      rw [State.stillNow_of_positioning hst hphase, State.positionCheck_of_off hz, if_neg (Nat.not_le.2 hr),
        State.correction_eq]
      rfl
    case fails =>
      obtain ⟨hquiet, hev, hm, -, hf⟩ := hfault s.atStill .position rfl
      refine ⟨_, hsettled ?_ hquiet, hev, hm, hf⟩
      rw [State.stillNow_of_positioning hst hphase, State.positionCheck_of_off hz, if_pos hr]
    case recovers =>
      have hnow : s.stillNow = s.atHeld.recovered := by
        rw [State.stillNow_of_positioning hst hphase, State.positionCheck_of_tdc hz, State.reachHeld_eq ht, if_pos hr]
      have hpaused := State.enterPaused_of_done (s := s.atHeld.recoveredNow) (r := .recovered) he howner hmove hsew
      have hnormal : ¬s.atHeld.player.mode = .repair := fun h => nomatch hm.symm.trans h
      rw [State.recovered_eq, if_neg hnormal, hpaused] at hnow
      refine hsettled hnow ?_
      rw [State.refill_eq]
      exact State.quiet_of_no_kept (by simpa using hk) (by simpa using he)
    case leaves =>
      intro cursor
      obtain ⟨w, hw⟩ : ∃ w : State, w = s.atHeld.recoveredNow := ⟨_, rfl⟩
      obtain ⟨u, hu, hleft⟩ := w.leavePass_eq
      obtain ⟨X, hX⟩ : ∃ X : State, X = w.passLeft u.heads.table u.heads.repairs u.thread.monitors w.player.queue := ⟨_, rfl⟩
      have hnow : s.stillNow = (X.enterPaused .recovered).refill := by
        rw [State.stillNow_of_positioning hst hphase, State.positionCheck_of_tdc hz, State.reachHeld_eq ht, if_pos hr,
          State.recovered_eq, if_pos (by exact hm), ← hw, hleft, hX]
      have hpaused := State.enterPaused_of_done (s := X) (r := .recovered) (by rw [hX, hw]; exact he) (by rw [hX, hw]; exact howner)
        (by rw [hX, hw]; exact hmove) (by rw [hX, hw]; exact hsew)
      rw [hpaused, State.refill_eq] at hnow
      have hrecord (q : RepairRecord) : w.leftRecord q = { q with
          point := cursor, block := s.blockOf cursor
          needle := (s.player.history.getD (s.blockOf cursor) none).getD q.needle } := by
        rw [hw]
        rfl
      refine ⟨_, hsettled hnow (State.quiet_of_no_kept (by simp [hX, hw, State.passLeft, State.recoveredNow, State.atHeld, hk])
        (by simp [hX, hw, State.passLeft, State.recoveredNow, State.atHeld, he])), ?player, ?heads, ?shaft, ?gov,
        ?frame, ?ev, ?store, ?nc, ?outs, ?straps, ?pending, ?thread, fun i d hd => ?head, fun x hx hnot => ?kept⟩
      case player =>
        dsimp only
        rw [State.newQueue_congr (t := { s with
          gov := gov
          player := { s.player with state := .paused .recovered, cursor := cursor } }) (by simp) (by simp [hX, hw]; rfl)
          (by simp [hX, hw]; rfl) (by simp [hX, hw]; rfl) (by simp [hX, hw]; rfl)]
        simp only [State.latch_keeps]
        rw [hX, hw]
        rfl
      case ev => rw [State.latch_flags, hX, hw]; rfl
      case head =>
        have hhead := hu.head (i := i) (d := d) (by rw [hw]; exact hd)
        simp only [hrecord] at hhead
        simp only [State.latch_keeps]
        rw [hw] at hhead
        rw [hX, hw]
        exact hhead
      case kept =>
        have hkept := hu.kept (x := x) (by rw [hw]; exact hx) (by rw [hw]; exact hnot)
        simp only [State.latch_keeps]
        rw [hX]
        exact hkept
      all_goals
        simp only [State.latch_keeps]
        rw [hX, hw]
        rfl
    case braking =>
      refine hsettled ((State.stillNow_of_braking h).trans ?_) (hcalm _ _ _)
      rfl
    case stays =>
      refine hsettled ?_ (hcalm _ _ _)
      rw [State.stillNow_faulted h, if_neg (by simp [hkeep]), if_neg (by simp [hoff])]
      rfl
    case off =>
      refine hsettled ?_ (hcalm _ _ _)
      rw [State.stillNow_faulted h, if_neg (by simp [hkeep]), if_pos hoff, State.enterOff_eq]
      rfl
    case positions =>
      have hne : s.shaft.state ≠ .held := fun hh => nomatch h.symm.trans hh
      refine hsettled ?_ (hcalm _ _ _)
      rw [State.stillNow_faulted h, if_pos hkeep, State.enterPositioning_eq (by exact hready) (by exact howner),
        if_neg (by exact hne), Shaft.setDemand_least]
      rfl
    case unready =>
      obtain ⟨u, hplayer, hu⟩ := State.enterPositioning_unready (s := s.faultedStill) hready
      have hnow : s.stillNow = u.shaftFault .drive := by rw [State.stillNow_faulted h, if_pos hkeep, hu]
      have hu' : u.player = s.player := hplayer
      obtain ⟨hquiet, hev, -, -, hf⟩ := hfault u .drive hu'
      obtain ⟨-, -, -, -, -, -, -, -, -, -, hkeptHold, -⟩ := State.shaftFault_parts (s := u) .drive
      obtain ⟨hr, hkill⟩ := State.shaftFault_recovery (s := u) .drive (by rw [hu']; exact hi)
      exact ⟨_, hsettled hnow hquiet, (hf hi).1, (hf hi).2, hkeptHold, hr, fun h => hkill (by rw [hu']; exact h), hev⟩

end Sys2Proof.Machine
end
